-- ==== Sys2Proof/Word.lean ====
section
/-! DEFINITION. Sys2Proof/Word.lean: the plain data types that registers, memory and numbers are made of. -/

namespace Sys2Proof

/-- A byte of memory. -/
abbrev Byte := BitVec 8

/-- The contents of one register. A 32-bit register keeps its upper half at zero. -/
abbrev Word64 := BitVec 64

/-- Sparse data by key: pairs with strictly rising keys, and no pair that holds the map's default value. -/
abbrev SMap (α : Type) := List (Nat × α)

/-- A number of the part: an element, a product, a Y40 sum or a binary32 value (R67, R72).
`fin neg m e` is (−1)^neg × m × 2^e; with m = 0 it is the zero of that sign. -/
inductive FNum where
  | nan
  | inf (neg : Bool)
  | fin (neg : Bool) (m : Nat) (e : Int)
  deriving DecidableEq, Repr

/-- What a start step finds or loads (R339). -/
inductive Finding where
  /-- A register's value from fuses, from flash or from the link that the step trains: index, offset, value. -/
  | load (idx off value : Nat)
  /-- Newly failed wires of a lane group of a bridge direction: 0 from the die to the hub, 1 from the hub (R17). -/
  | wires (die dir group n : Nat)
  /-- Newly failed lanes of a stack: byte groups 0 to 127, 128 its command/address bus (R153). -/
  | lanes (stack group n : Nat)
  /-- Trainings that a stack fails: bit 0 at 6.4 Gb/s, bit 1 with stored values, bit 2 at 5.2 Gb/s (R339). -/
  | untrained (stack modes : Nat)
  /-- A core, or a darn row's core or pass-through latch, of a physical row and column that fails self-test (R61). -/
  | badCore (loom row col : Nat)
  /-- A column band whose latches, bypass, feeders or fell lanes are faulty (R61). -/
  | badColumn (loom band : Nat)
  /-- A control core that fails its test (R339). -/
  | badControl (core : Nat)
  deriving DecidableEq, Repr

/-- Access types of register fields (R378). `s` is RO with a value that start loads (R9). -/
inductive RegAcc where
  | rw | ro | s | w1c | w1s | wo
  deriving DecidableEq, Repr

/-- A field of a register: its bits, its access type and its Reset value. -/
structure RegField where
  hi : Nat
  lo : Nat
  acc : RegAcc
  rst : Nat
  deriving DecidableEq, Repr

/-- A register of a page: its offset, whether it is 64 bits wide, and its fields; bits outside every field are reserved. -/
structure RegSpec where
  off : Nat
  wide : Bool
  fields : List RegField
  deriving DecidableEq, Repr

end Sys2Proof
end

