-- ==== Sys2Proof/Syntax.lean ====
section
/-! DEFINITION. Sys2Proof/Syntax.lean: the commands of the block, one constructor for each row of spec/opcode_table.json,
in the table's order. Operands name the unit a step happens at and carry what comes from outside the package or from its
physics: written values, messages, data of the host, sensor readings, detected faults.

Numbers: `ring` is a global ring number (R120), `panel` is 8n + g (R65), `rtv` a Retriever, `rq` a requester of R382
(0 to 15 functions, 16 the management core, 17 to 48 control cores, 49 the monitor), `page` a page's BAR0 offset (R384). -/

namespace Sys2Proof

/-- A declared region as a swatch holds it (R289 kinds 1 and 2): its space (0 stage memory, 1 HBM), the address of its
first byte (Loom × 2^26 + o in stage memory), its length, its bytes other than 0 and its undefined ranges. -/
structure SwatchRegion where
  space : Nat
  base : Nat
  len : Nat
  cells : List (Nat × Byte)
  undef : List (Nat × Nat × Nat)
  deriving DecidableEq, Repr

/-- What a complete copy of a swatch holds (R289, R291). Kinds 3 to 8 are held as numbers, because the manual gives their
contents but not their bytes; the order of the numbers is that of Machine/Swatch.lean. -/
structure SwatchImage where
  /-- SWATCH_NO, STOP_NO, MEMBER, EPOCH, SERIAL and LOOM_WIDTH of the manifest. -/
  no : Nat
  stopNo : Nat
  member : Nat
  epoch : Nat
  serial : Nat
  loomWidth : Nat
  /-- FW of the manifest. -/
  fw : List Byte
  regions : List SwatchRegion
  /-- Kind 3, by ring; kind 4, by object; kind 5 and the FIFOs of kind 6, by register key; the channels of kind 6, by
  Retriever × 64 + channel; kind 7, by register key, with one more than the decision's counter value at key 0; kind 8, by ring. -/
  rings : List (Nat × List Nat)
  objects : List (Nat × List Nat)
  config : List (Nat × Nat)
  chans : List (Nat × List (List Byte))
  hub : List (Nat × Nat)
  requests : List (Nat × List Nat)
  deriving DecidableEq, Repr

/-- A route table as the manager gives it to a member (R276, R279, R281): the members of the pack; destination, egress port and hop
count; the ports that are up links; and the ingress and egress ports between which traffic can pass. -/
structure RouteTable where
  members : List Nat
  routes : List (Nat × Nat × Nat)
  upward : List Nat
  feeds : List (Nat × Nat)
  deriving DecidableEq, Repr

/-- What ROUTE_TABLE brings beside its routes and feeds: the members of the pack and the ports that are up links; and to the
manager itself the working links of the pack, each a member and its port and those at the far end. -/
structure PackMap where
  members : List Nat
  upward : List Nat
  links : List (Nat × Nat × Nat × Nat)
  deriving DecidableEq, Repr

/-- An object that a message of the manager's store names, with the message's source and MSEQ (R280). -/
structure SyncMsg where
  src : Nat
  mseq : Nat
  obj : Nat
  deriving DecidableEq, Repr

/-- The flags of an object as the manager forwards them (R275): PACK, BROKEN, SATURATED, MISUSE, CAUSE and BREAKER. -/
structure ObjFlags where
  pack : Bool
  broken : Bool
  saturated : Bool
  misuse : Bool
  cause : Nat
  member : Nat
  ring : Nat
  deriving DecidableEq, Repr

/-- A command: one step of the spec's table of operations and events. -/
inductive Instr where
  -- Looms
  | loomGemm (panel : Nat)
  | loomFence (panel : Nat)
  | loomSetPanels (panel : Nat)
  | drainComplete (panel : Nat)
  | loomCommandDone (panel : Nat)
  /-- `fault` is a KIND of R58 that the core detects in this firing, or 0. -/
  | coreFire (loom row col fault : Nat)
  | warpLoad (loom pair col fault : Nat)
  | fellSumEntry (loom col fault : Nat)
  /-- `fault`: one more than the physical column of the lane in which a residue mismatch is found, or 0. -/
  | fellRowTake (panel fault : Nat)
  /-- `starved` has bit g set while panel g's row-0 feeder has no token from stage memory. The line accesses that reach the banks
  in this step, as (port, byte offset): those of the weft feeders (0), the warp loader (1) and the fell writes (2), and those of
  Retriever n (0), the other Retrievers (1) and the control cores (2) (R116). -/
  | gaugeTick (loom starved : Nat) (own others : List (Nat × Nat))
  | faultDrainDone (panel : Nat)
  | pnlResume (rq panel : Nat)
  | wedgeDetect (panel : Nat)
  | drainInterval (loom : Nat)
  -- ring entries
  | wait (ring : Nat)
  | signal (ring : Nat)
  | arrive (ring : Nat)
  | reqOpen (ring : Nat)
  | reqClose (ring : Nat)
  | pwrPhase (ring : Nat)
  | pwrRestore (ring : Nat)
  | flush (ring : Nat)
  | rtvCopy (ring : Nat)
  | rtvFill (ring : Nat)
  | rtvKick (ring : Nat)
  -- Retrievers
  /-- `desc` is the number a descriptor took when it started. -/
  | dataRingClaim (rtv desc : Nat)
  | requestIssue (rtv desc : Nat)
  /-- `data` are the bytes that came from outside the package, for a request that reads host memory. -/
  | requestLand (rtv req : Nat) (data : List Byte)
  | rtvChArm (rq rtv acct : Nat)
  | rtvChCancel (rq rtv acct : Nat)
  | trickleWrite (loom off : Nat) (data : List Byte)
  | trickleWordWrite (rtv fifo : Nat)
  | trickleTimeout (rtv fifo : Nat)
  | trickleFlush (rq rtv us : Nat)
  | trickleDisable (rq rtv v : Nat)
  | trickleGetWrite (rq rtv v : Nat)
  -- rings
  | ringConfigWrite (rq die off v : Nat)
  | ringTailWrite (rq die v : Nat)
  | ringStart (rq die ovr : Nat)
  | ringStop (rq die ovr : Nat)
  | ringCancel (rq die ovr : Nat)
  | cancelComplete (ring : Nat)
  /-- `full`: four events are held at the interrupt crossing (R214). -/
  | completionPost (ring : Nat) (full : Bool)
  -- sync objects
  | syncObjOpSignal (rq count : Nat)
  | syncObjOpArrive (rq gen : Nat)
  | syncObjWrite (rq off v : Nat)
  | syncBreak (rq : Nat)
  | syncBrokenClear (rq : Nat)
  | mirrorSubscribe (ring : Nat)
  | mirrorPush (obj : SyncMsg) (value gen : Nat) (broken : Bool)
  /-- `op`: 1 SIGNAL, 2 ARRIVE, 3 a subscription of R176, 4 its end, 5 the break of R178; `arg` is COUNT, GEN
  or the ring whose watchdog fired. -/
  | packSyncOp (src mseq op obj arg ring : Nat)
  | standbySyncForward (obj : SyncMsg) (kind part count value gen arrived early : Nat) (broken : ObjFlags)
  | queueWatchdog (ring : Nat)
  -- arbiters and admission
  /-- `ns` is how long the request that the arbiter grants has waited. -/
  | arbGrant (arb ns : Nat)
  | arbUnitDone (arb : Nat)
  | arbFreeze (rq page : Nat)
  | arbUnfreeze (rq page : Nat)
  | arbWaitClear (rq page : Nat)
  | admissionRequest (rq die : Nat)
  | admissionDecide
  | admissionRelease (rq die : Nat)
  -- power
  /-- Events (source, class, count) of the sources that no other step of the table counts (R221). -/
  | estimateWindow (others : List (Nat × Nat × Nat))
  | governorLoop
  | profile850 (rq cap : Nat)
  /-- Readings of one quadrant's junction sensors, in quarters of a degree. -/
  | junctionSensorRead (quad : Nat) (readings : List Nat)
  | thermalHoldEnd
  | regulatorFault (quad : Nat)
  | regulatorShutdown (quad : Nat)
  | clusterGate (cluster : Nat)
  | clusterStartRequest (cluster : Nat)
  | rampWave (quad : Nat)
  | hbmSelfRefreshEnter (die : Nat)
  | islandClockStop (island : Nat)
  | islandWake (island : Nat)
  -- the ledger
  /-- Sampled power of the three domains in µW, the domains whose monitors delivered no set or report a fault (one bit
  each), the five regulators' output currents in A and the dies whose sense voltage lies below V; `full` as above. -/
  | monitorSample (uw : List Nat) (missing faults : Nat) (amps : List Nat) (droop : Nat) (full : Bool)
  /-- READ_POUT of the eight listed board regulators in mW, none where the transaction failed. -/
  | ledgerWindowClose (pout : List (Option Nat))
  | closeNow (rq v : Nat)
  | blockSigned
  | ledgerRecordWrite
  | ldgOutGetWrite (rq v : Nat)
  -- stacked memory
  /-- One burst: `retries` of the interface; how it ends: `kind` 0 well, 1 in a storage failure, 2 in one of the interface, 3 of
  the fabric; `corrected` 1 where the stack corrected it; `agent` 0 for a control core's own access, 1 for the Retriever request
  whose tag is `who`, 2 for an access whose own row follows. -/
  | hbmAccess (addr write retries kind corrected agent who : Nat)
  /-- `result`: 0 sound, 1 corrected, 2 uncorrectable. -/
  | patrolRead (addr result : Nat)
  /-- `bank`: a pseudo-channel of the stack, and one of its banks. -/
  | hbmRefresh (stack : Nat) (bank : Nat × Nat)
  | hbmTempRead (stack : Nat) (reading : Option Nat)
  | hbmWinCfgWrite (rq die v : Nat)
  | hbmTempPeakClear (rq stack : Nat)
  -- bridges and control cores
  | bridgeBeat (die dir group : Nat) (bad : Bool)
  /-- Control cores whose heartbeat counter has advanced, one bit each. -/
  | heartbeatCheck (alive : Nat)
  | scheduleDigestCheck (core ring : Nat) (table digest : List Byte)
  /-- `core`: a control core, and the hub microsecond at which it last restarted its watchdog. -/
  | coreWatchdogExpiry (core : Nat × Nat)
  -- pack links and packs
  | portUp (port member peer : Nat)
  | portTrainRetry (port : Nat)
  /-- A flit, with the CRC it carries and the codewords that the decoder has corrected, and found uncorrectable, since the last
  one. -/
  | flitReceive (port type vc seq ack cvc credits corrected uncorrectable : Nat) (payload : List Byte) (crc : Nat)
  | nak (port ack : Nat)
  | idleFlitTimer (port : Nat)
  | livenessTimeout (port : Nat)
  | fecLockLost (port : Nat)
  | replayFullTimeout (port : Nat)
  | plkPortDownWrite (rq port : Nat)
  | portDownMsg (src epoch mseq port : Nat)
  | heartbeatTimer
  /-- `src`: the sender; and the standby that it names, 1,024 or more for none, where it is the manager. -/
  | heartbeat (src : Nat × Nat) (epoch mseq : Nat)
  | memberLost (member : Nat)
  | lost (src epoch mseq member : Nat)
  | takeover (src epoch mseq : Nat)
  | takeoverAccept (src epoch mseq : Nat)
  | takeoverRefuse (src epoch mseq : Nat)
  | takeoverTimeout
  | managerStepDown
  | joinRetry
  /-- A JOIN: its serial number, the device epoch, FEED and RACK, whether its evidence verifies with that serial number,
  whether its firmware version is on the list, and its configuration digest. -/
  | join (src mseq serial devEpoch feed rack : Nat) (evidence version : Bool) (config : List Byte)
  /-- `standby` and `partner` are 1,024 or more where there is none; `coFed` carries the routing table too. -/
  | joinReply (src epoch mseq code member standby partner : Nat) (coFed : Nat × RouteTable)
  /-- A route table from the manager; or, at the manager itself, the links between members that it has come to know: the manual names
  no message that brings them. -/
  | routeTable (src epoch mseq : Nat) (routes : List (Nat × Nat × Nat)) (upward : PackMap) (feeds : List (Nat × Nat))
  /-- The acknowledgement of a message of sequence `mseq` to member `dst`; for a sync operation it carries the status and
  the two result words of R315. -/
  | mseqAck (dst mseq status res0 res1 : Nat)
  | lossScaleDecision (src epoch mseq scale c1 : Nat) (overflow : Bool)
  /-- A peer-memory request: 1 for a write or 0, and the CLASS it travels at; an HBM address, a length, and the data of a write. -/
  | peerRequest (src id : Nat) (write : Nat × Nat) (addr len : Nat) (data : List Byte)
  | peerResponse (src id status : Nat) (data : List Byte)
  | plkStopReq (rq : Nat)
  | stop (src epoch mseq n : Nat)
  | stopMarker (port n epoch src : Nat)
  | quiescent
  | cut (src epoch mseq n : Nat)
  | stopLimitExpiry
  | plkStopResume (rq : Nat)
  /-- `last`: the swatch number that the manager has set as HUB_SWT_LAST on every member, or 0. -/
  | resume (src epoch mseq n last : Nat)
  -- swatches
  | swatchCapture (rq : Nat)
  | swatchIntervalTimer
  /-- `bytes` is the length that segments 3 to 8 take in all. -/
  | swatch (src epoch mseq n sw bytes : Nat)
  /-- `result` is a code of R302 with which the copies end. -/
  | swatchCopyDone (result : Nat)
  | swatchDone (src epoch mseq sw result : Nat)
  | swatchCapLimit
  /-- `source`: 0 local, 1 partner, 2 host. `check` and `extCheck` are the result codes of R302 with which the checks of
  R297 end on the ordered copy and on the host copy, 0 where all hold; `ext` is the copy that comes from outside the
  package, if there is one: the partner's or the host's. -/
  | restore (src epoch mseq sw source check extCheck : Nat) (ext : Option SwatchImage)
  | restored (src epoch mseq sw result : Nat)
  | restoreHost (rq : Nat)
  /-- `check` and `ext`: how the checks end on the partner's copy and on the host's, and the copies, where there are any. -/
  | fill (src epoch mseq x sw p : Nat) (check : Nat × Nat) (ext : Option SwatchImage × Option SwatchImage)
  | swtRateReset (rq : Nat)
  | swtDurableWrite (rq v : Nat)
  -- host interface
  /-- A write of `size` bytes at offset `off` of a doorbell page: that of function `f`, or with f = 16 + k that of function k
  in PF0's BAR2. -/
  | dbTail (f off size v : Nat)
  | dbRelease (f off size v : Nat)
  /-- An access at offset `off` of BAR4 of function `f`. -/
  | apertureWrite (f off : Nat) (data : List Byte)
  /-- `late`: the host has abandoned the read before its data came. -/
  | apertureRead (f off len : Nat) (late : Bool)
  | rsCfgWrite (rq v : Nat)
  | functionLevelReset (f : Nat)
  | flrDrainDone (f : Nat)
  | d3hotEntry (f : Nat)
  | d0Entry (f : Nat)
  | getCerts (payload : List Byte)
  | getEvidence (payload : List Byte)
  | setUnlock (payload : List Byte)
  | doeAbort
  -- reset and start
  | powerOn
  | powerDown
  | perstAssert
  | perstDeassert
  | hotReset
  | linkDown
  | deviceReset (rq : Nat)
  | mgmtWatchdogExpiry
  /-- A RESET message, and whether its signature verifies with the key accepted at the join. -/
  | managerReset (serial epoch : Nat) (verifies : Bool)
  /-- The strap pins BOOT_SRC, CLK_MODE and FEED_ID. -/
  | resetEnd (boot clk feed : Nat)
  /-- `region`: 0 the hub fabric, 1 + d die d, 5 + n Loom n. -/
  | releaseWaveDone (region : Nat)
  /-- The step in progress ends: whether the block reports success, its result code, DETAIL, its duration, the firmware
  image that step 2 has fetched from outside, and the S fields that the step has loaded, by register key. -/
  | startStep (ok : Bool) (result detail ms : Nat) (image : List Byte) (facts : List Finding)
  | startStepTimeout
  | loadDone (rq : Nat)
  | clearSteps (rq : Nat)
  | blockReset (rq type inst : Nat)
  | blockResetDone
  -- security
  | svnCommit (rq : Nat)
  | secLock (rq : Nat)
  -- the monitor
  | monHelp
  | monStatus
  | monPeek (addr n : Nat)
  | monPeek64 (addr : Nat)
  | monPoke (addr v : Nat)
  | monDump (page : Nat)
  | monCounters (page : Nat)
  | monJournal (n : Nat)
  | monLedger
  | monReset
  | monBaud (rate : Nat)
  /-- `load n` and the raw bytes that follow it. -/
  | monLoad (n : Nat) (data : List Byte)
  | monRxOverrun
  -- trace and filters
  /-- The record of number `record` among those on their way reaches the trace unit `ns` nanoseconds into the present
  microsecond; `overrun` as R214 says of its crossing. -/
  | traceRecord (record ns : Nat) (overrun : Bool)
  | traceWrite
  | monTrcTrigger (rq v : Nat)
  | monTrcEnable (rq v : Nat)
  | monFiltClear (rq v : Nat)
  -- SMBus: `pec` is false where a PEC byte does not match
  | smbusBoardCap (write : Bool) (v : Nat) (pec : Bool)
  | smbusPkgPower (pec : Bool)
  | smbusTempMax (pec : Bool)
  | smbusThrottle (pec : Bool)
  | smbusStartState (pec : Bool)
  -- the weight-region table
  | wrtValidWrite (rq loom v : Nat)
  | wrtUnbind (rq loom v : Nat)
  -- registers
  | errInject (rq page v : Nat)
  /-- A write of `size` bytes at offset `off` of the requester's BAR0. -/
  | registerWrite (rq off size v : Nat)
  -- rows that the table's author added
  | reservedOpcode (ring : Nat)
  | slotReadFailure (ring : Nat)
  | regulatorFaultClear (quad : Nat)
  | scrubLate (stack : Nat)
  | doeDiscovery (payload : List Byte)
  /-- A write of the configuration space of function `f`: `field` is 0 Memory Space, 1 VF Enable, 2 VF MSE, 3 MSI-X
  Enable, 4 MSI-X Function Mask, 5 Max Payload Size (0 to 2: 128, 256 or 512 bytes); another field is one that this manual does
  not name. -/
  | configurationRequest (f field v : Nat)
  | unexpectedCompletion (f : Nat)
  | unknownCommand
  deriving DecidableEq, Repr

end Sys2Proof
end

