-- ==== Sys2Proof/Decode.lean ====
section
/-! DEFINITION. Sys2Proof/Decode.lean: commands as words. The table gives no row any bits: a command is a step of the block,
chosen from outside, and no word spells one. -/

namespace Sys2Proof

/-- The command that a word spells by the table's bits: none, since no row of the table has bits. -/
def decodeTableWord (_nbits _w : Nat) : Option Instr := none

end Sys2Proof
end

