-- ==== Sys2Proof/Config.lean ====
section
/-! DEFINITION. Sys2Proof/Config.lean: what the spec leaves to no value at all. Each constant below is opaque: it has no
body, so no proof can know its value, and a statement that mentions one holds for every value of it. -/

namespace Sys2Proof.Config

/-- A byte whose value the spec leaves undefined: memory that nothing has written since power-on, bytes under a changed
sector window (R150), undeclared bytes after a restore, outputs that R407 calls undefined. The seed tells one loss of
contents from the next. Log entry 4. -/
opaque freeByte : (seed addr : Nat) → Byte

/-- A number the spec leaves undefined, one for each seed and index (log entry 5). -/
opaque freeNat : (seed idx : Nat) → Nat

/-- The correctly rounded value of a fell function (R78) where the model's interval is too wide to decide the rounding.
The code names the function and the bits are its binary32 argument. Log entry 6. -/
opaque crOpen : (fn bits : Nat) → BitVec 32

/-- The ML-DSA-87 public key (FIPS 204) that KeyGen makes from a seed. Log entry 7. -/
opaque mldsaPublic : (seed : List Byte) → List Byte

/-- The deterministic ML-DSA-87 signature (FIPS 204) under the key of a seed, with a context string. Log entry 7. -/
opaque mldsaSign : (seed context message : List Byte) → List Byte

/-- Whether an ML-DSA-87 signature of a message verifies under a public key and a context string. Log entry 7. -/
opaque mldsaVerify : (key context message signature : List Byte) → Bool

/-- The CRC-32 of a journal record (R338) and of a flit (R265): the manual gives its polynomial alone. Log entry 8. -/
opaque crc32 : List Byte → BitVec 32

/-- Fuses (R345): the unique device secret, FW_ROOT and UNLOCK_ROOT. Log entry 9. -/
opaque uds : List Byte
opaque fwRoot : List Byte
opaque unlockRoot : List Byte

/-- The certificates of R348 that the device holds: KIND 1, 2 and 3, each with its signature. Their bodies are this manual's,
the CA's signature is not. Log entry 9. -/
opaque caSignature : List Byte

/-- The Vendor ID of PF0 (R352), which the manual does not state. Log entry 9. -/
opaque vendorId : Nat

/-- Bytes of the pack configuration in flash, of which R353 gives the digest alone, and the member that it names manager (R271,
R276). Log entry 9. -/
opaque packConfig : List Byte
opaque packManager : Nat

/-- Weights in femtojoules at 0.70 V of the activity sources other than the clusters (R221, R388). Log entry 10. -/
opaque weight : (source cls : Nat) → Nat

/-- Ledger domain of an activity class: the weight table in flash assigns it (R242). Log entry 10. -/
opaque classDomain : (source cls : Nat) → Nat

/-- Leakage of a quadrant in femtojoules over a 4 µs window, by voltage code, temperature in quarters of a degree and gated
clusters: the factory polynomial of R221. Log entry 10. -/
opaque leak : (quad vcode temp gated : Nat) → Nat

/-- The factory loss model of the regulators over a 1 ms window in femtojoules, by the CORE estimate (R242). Log entry 10. -/
opaque regulatorLoss : (est : Nat) → Nat

/-- KIND of a message of each sort (R268), and the bytes of its payload for its arguments: the manual names what a message carries,
and gives no numbers and no layout. Log entry 90. -/
opaque msgKind : (kind : Nat) → Nat
opaque msgBody : (kind : Nat) → (args : List Nat) → List Byte

/-- Hops between two members between which the manager knows no route, under the routes of an epoch (R279, R282). Log
entry 11. -/
opaque hops : (epoch a b : Nat) → Nat

/-- Rates of the limiters of R190 in bytes a microsecond, by resource (0 pseudo-channel, 1 bridge direction, 2 port) and input.
The spec sets them below a reserve and states no value. Log entry 78. -/
opaque limiter : (resource input : Nat) → Nat

/-- Bank of a page within its pseudo-channel: the controller's internal hash of offset[31:10] (R148). Log entry 79. -/
opaque bankOf : (page : Nat) → Nat

end Sys2Proof.Config
end

