-- ==== Sys2Proof/Machine/State.lean ====
section
/-! DEFINITION. Sys2Proof/Machine/State.lean: everything the manual gives the package to remember, as plain data, and the
package right after a full device reset. -/

namespace Sys2Proof.Machine

/-! ## Memory -/

/-- One addressed space: the bytes that have been written, and the ranges whose contents are undefined. -/
structure Memory where
  /-- Written bytes other than 0, addresses strictly rising. -/
  cells : List Host.Cell
  /-- Undefined ranges (first, end, seed): not empty, disjoint and rising. -/
  undef : List (Nat × Nat × Nat)
  deriving DecidableEq, Repr

/-! ## Rings, entries and completions (R120 to R123, R313 to R315) -/

/-- What a completion carries into its result slot (R314, R315). -/
structure Completion where
  status : Nat
  opcode : Nat
  tag : Nat
  layer : Nat
  oper : Nat
  res0 : Nat
  res1 : Nat
  res2 : Nat
  irq : Bool
  /-- The ring goes to STOPPED once this completion is posted (R179). -/
  stops : Bool
  deriving DecidableEq, Repr

/-- What holds a started entry that has not completed. -/
inductive EntryWait where
  /-- It runs on its server. -/
  | running
  /-- A WAIT blocked on a counter (R169). -/
  | counter (obj target : Nat) (pack : Bool)
  /-- An ARRIVE held on a generation (R173). -/
  | barrier (obj gen : Nat) (pack : Bool)
  /-- A pack-scope operation whose answer from the manager has not come (R165). -/
  | remote (obj : Nat)
  /-- A REQ_CLOSE that waits while the ledger is full (R258). -/
  | ledger
  /-- A FLUSH that waits until unit number `unit` of the FIFO has been written (R140). -/
  | flush (rtv fifo unit : Nat)
  /-- A LOOM_FENCE or LOOM_SET_PANELS that waits for the drain of R34. -/
  | drain
  deriving DecidableEq, Repr

/-- An entry between HEAD and ISSUE. -/
structure Flight where
  seq : Nat
  /-- The 64 bytes the server read when the entry started. -/
  bytes : List Byte
  wait : EntryWait
  done : Option Completion
  /-- The entry matched the filter it started with (R361). -/
  filt : Bool
  /-- Hub time at which the entry became eligible (R195). -/
  eligUs : Nat
  /-- GRANT of the ring when the entry started, in ns; 0 where the ring was not admitted (R197, R200). -/
  grant : Nat
  deriving DecidableEq, Repr

/-- The entry that an event names: its ring and sequence, its layer and operator, and whether it matched the filter it
started with (R360 to R363). -/
structure Who where
  ring : Nat
  seq : Nat
  layer : Nat
  oper : Nat
  filt : Bool
  deriving DecidableEq, Repr

/-- No entry: 0xFFFF in every field that names one. -/
def Who.none : Who := { ring := 0xFFFF, seq := 0, layer := 0xFFFF, oper := 0xFFFF, filt := false }

/-- Where a ring stands, apart from being held. -/
inductive RingMode where
  | off | on | stopped | cancelling
  deriving DecidableEq, Repr

/-- Why a ring is held (R122). -/
inductive Hold where
  | packStop | wedge | d3hot | restore
  deriving DecidableEq, Repr

/-- The request open on a ring (R241). -/
structure OpenReq where
  id : Nat
  openSeq : Nat
  wall : Nat
  /-- The number under which the ledger keeps its account. -/
  no : Nat
  deriving DecidableEq, Repr

/-- One hardware ring: its state window (R122, R88, R204, R240, R226) and its result-slot registers (R324). -/
structure Ring where
  kind : Nat
  outMode : Nat
  space : Nat
  home : Nat
  slotsM1 : Nat
  server : Nat
  serverId : Nat
  part : Nat
  slotSize : Nat
  base : Nat
  head : Nat
  tail : Nat
  /-- ISSUE of a command ring, CLAIM of a data ring. -/
  issue : Nat
  tagQuota : Nat
  limit : Nat
  classOvr : Nat
  freeSync : Nat
  fillSync : Nat
  wdogMs : Nat
  srSeed : Nat
  srStream : Nat
  cntDone : Nat
  cntBytes : Nat
  cntDiscard : Nat
  cntConflict : Nat
  rsEn : Bool
  rsSpace : Nat
  rsVector : Nat
  rsBase : Nat
  released : Nat
  mode : RingMode
  holds : List Hold
  fly : List Flight
  /-- CANCEL_TAIL of R135, while cancelling. -/
  cancelTail : Nat
  /-- Microseconds for which a condition of R177 has held. -/
  wdogUs : Nat
  phase : Nat
  savedPhase : Nat
  req : Option OpenReq
  /-- RING_ENERGY in nJ (R261). -/
  energy : Nat
  /-- Admission fields (R204): STATE, STATUS, INPUT, DIES, BRG_UP, BRG_DOWN, RATE, LARGEST, NEED, GRANT. -/
  admState : Nat
  admStatus : Nat
  admInput : Nat
  admDies : Nat
  admUp : Nat
  admDown : Nat
  admRate : Nat
  admLargest : Nat
  admNeed : Nat
  admGrant : Nat
  cntDemoted : Nat
  /-- Bytes in the bucket of R196. -/
  bucket : Nat
  /-- Hub times at which TAIL last passed entries not yet started, with the TAIL of each; hub time at which the last WAIT or
  ARRIVE completed (R195). -/
  tails : List (Nat × Nat)
  waitUs : Nat
  /-- Hub time at which the ring was last held: a held ring has no eligible entries (R322). -/
  heldUs : Nat
  deriving DecidableEq, Repr

/-- A ring as a full device reset leaves it (R122, R226). -/
def Ring.zero : Ring :=
  { kind := 0, outMode := 0, space := 0, home := 0, slotsM1 := 2, server := 0, serverId := 0, part := 0, slotSize := 1,
    base := 0, head := 0, tail := 0, issue := 0, tagQuota := 0, limit := 16, classOvr := 0, freeSync := 0, fillSync := 0,
    wdogMs := 1000, srSeed := 0, srStream := 0, cntDone := 0, cntBytes := 0, cntDiscard := 0, cntConflict := 0,
    rsEn := false, rsSpace := 0, rsVector := 0, rsBase := 0, released := 0, mode := .off, holds := [], fly := [],
    cancelTail := 0, wdogUs := 0, phase := 1, savedPhase := 1, req := none, energy := 0, admState := 0, admStatus := 0,
    admInput := 5, admDies := 0, admUp := 0, admDown := 0, admRate := 0, admLargest := 0, admNeed := 0, admGrant := 0,
    cntDemoted := 0, bucket := 0, tails := [], waitUs := 0, heldUs := 0 }

/-! ## Sync objects (R164, R183) and mirrors (R176) -/

/-- An entry held on an object: the global ring and sequence that hold it, and what it waits for. -/
structure Waiter where
  ring : Nat
  seq : Nat
  /-- The WAIT's target, or the ARRIVE's generation. -/
  target : Nat
  /-- GEN and ARRIVED as they stood after the arrival acted (R171). -/
  res0 : Nat
  res1 : Nat
  deriving DecidableEq, Repr

/-- One sync object of this device's store. -/
structure SyncObj where
  kind : Nat
  pack : Bool
  part : Nat
  count : Nat
  value : Nat
  gen : Nat
  arrived : Nat
  early : Nat
  broken : Bool
  saturated : Bool
  misuse : Bool
  cause : Nat
  breakerMember : Nat
  breakerRing : Nat
  waiters : List Waiter
  /-- Members subscribed to this object (R176). -/
  subs : List Nat
  deriving DecidableEq, Repr

/-- A free object. -/
def SyncObj.zero : SyncObj :=
  { kind := 0, pack := false, part := 0, count := 0, value := 0, gen := 0, arrived := 0, early := 0, broken := false,
    saturated := false, misuse := false, cause := 0, breakerMember := 0, breakerRing := 0, waiters := [], subs := [] }

/-- A pack-scope wait that has found no mirror entry (R176): its object, itself, and whether it has been counted as waiting
for one. -/
structure MirrorWait where
  obj : Nat
  waiter : Waiter
  counted : Bool
  deriving DecidableEq, Repr

/-- A mirror entry of a waiting device: the object, the last values pushed, and the local entries that use it. -/
structure Mirror where
  obj : Nat
  /-- The kind of object that its subscription was made for: 1 a counter, 2 a barrier. -/
  kind : Nat
  /-- Whether the manager has pushed a state yet. -/
  known : Bool
  value : Nat
  gen : Nat
  waiters : List Waiter
  deriving DecidableEq, Repr

/-! ## Looms (R28 to R42, R47 to R60) -/

/-- A tile descriptor as the Loom read it at command start (R52, R53). -/
structure Tile where
  layout : Nat
  baxis : Nat
  blk : Nat
  fmt : Nat
  home : Nat
  elemBase : Nat
  stride : Nat
  rows : Nat
  cols : Nat
  scaleBase : Nat
  scaleStride : Nat
  deriving DecidableEq, Repr

/-- A LOOM_GEMM in flight on a panel. -/
structure Gemm where
  /-- The entry: its global ring and sequence. -/
  ring : Nat
  seq : Nat
  layer : Nat
  oper : Nat
  m : Nat
  n : Nat
  k : Nat
  mTile : Nat
  nTile : Nat
  mode : Nat
  fmtX : Nat
  fmtW : Nat
  fmtY : Nat
  epi : Nat
  order : Nat
  hist : Bool
  stoch : Bool
  fenceAfter : Bool
  descX : Tile
  descW : Tile
  descY : Tile
  descR : Option Tile
  descH : Option Tile
  /-- DESC_R and DESC_Y name the same descriptor (R98). -/
  sameRY : Bool
  /-- LOOM_NORM_EPS, and the generator's words, as read at command start (R82, R87). -/
  eps : Nat
  seed : Nat
  stream : Nat
  /-- The number, counted over the panel's stream, of the command's first weft step. -/
  base : Nat
  /-- A weft token of the command has entered row 0. -/
  entered : Bool
  tilesDone : Nat
  /-- Tiles counted in TILES_DONE when the fell stopped writing Y; histogram bins of finished tiles (R89, R90). -/
  bins : List Nat
  /-- Gauge ticks from the first weft injection to the last fell write, and to the present step (R51). -/
  steps : Nat
  ticks : Nat
  /-- Column sums of R108, keyed by n for cγ and by 2^32 + n for cβ. -/
  colSums : SMap FNum
  /-- Stage-memory bytes that others, and the command itself, have written while it runs (R407): (first, end). -/
  raced : List (Nat × Nat)
  racedSelf : List (Nat × Nat)
  /-- Bytes of an accumulating command's gradient region that another accumulating command has written meanwhile, as they stood
  before (R99). -/
  racedAcc : List (Nat × List Byte)
  deriving DecidableEq, Repr

/-- An accumulator half, or the totals of an output-stationary tile, owned by one output tile or M-tile band (R37, R81). -/
structure AccHalf where
  /-- `base` of the owning command, and the tile's or band's number within it. -/
  cmd : Nat
  unit : Nat
  /-- Y40 sums keyed by m × 2^32 + n. -/
  sums : SMap FNum
  /-- Sums of the last K pass that have arrived, by row m. -/
  arrived : SMap Nat
  /-- Weft steps of the last K pass, or drain entries, of which the panel's rightmost column has delivered its sums (R41). -/
  edge : Nat
  /-- Rows that the fell lanes have taken. -/
  taken : Nat
  /-- Histogram bins of the rows taken. -/
  bins : List Nat
  deriving DecidableEq, Repr

/-- STATE of a panel page (R65). -/
inductive PanelState where
  | off | idle | running | draining | faulted | wedged | held
  deriving DecidableEq, Repr

/-- A panel: the leftmost segment's page, and what runs on it. -/
structure Panel where
  state : PanelState
  /-- The stream's mode, FMT_X and FMT_W (R34); none before the first command after a drain. -/
  kind : Option (Nat × Nat × Nat)
  /-- Commands of the stream in flight, in sequence order. -/
  cmds : List Gemm
  /-- Completed commands of the stream, of which tokens without outputs may still be in the array. -/
  past : List Gemm
  /-- A fence or LOOM_SET_PANELS that waits for the drain: its ring and sequence. -/
  fence : Option (Nat × Nat)
  /-- Weft steps that the stream's commands need in all. -/
  total : Nat
  /-- Weft steps that have entered row 0, and whether one entered since the last gauge tick. -/
  fed : Nat
  entered : Bool
  /-- Gauge ticks still classed ACTIVE for a 16-bit token's limb passes (R45). -/
  limb : Nat
  halves : List AccHalf
  /-- The halves of the warp double buffer in use: the first weft step of the pass whose warp tile is there, and the load tokens
  that have not left it (R117, R118). -/
  warps : List (Nat × Nat)
  /-- The fell has met a full destination and has not written since (R139). -/
  held : Bool
  /-- A fault drain is in progress (R58 orders 2 to 4), with the KIND of its first fault. -/
  faulting : Option Nat
  /-- Microseconds for which the wedge conditions of R60 have held. -/
  stuckUs : Nat
  deriving DecidableEq, Repr

/-- A panel page whose segment is not leftmost. -/
def Panel.off : Panel :=
  { state := .off, kind := none, cmds := [], past := [], fence := none, total := 0, fed := 0, entered := false, limb := 0,
    halves := [], warps := [], held := false, faulting := none, stuckUs := 0 }

/-- A token in an output latch. A bubble has no step. -/
structure Token where
  /-- The weft step of the stream that the token belongs to. -/
  step : Option Nat
  /-- Weft: element (e, i) at 2e + i. Partial sums: (e, j) at 2e + j, and FP4's second sums 8 further on. Warp: column j,
  and FP4's second columns 2 further on. An absent element forms no product. -/
  vals : List (Option FNum)
  deriving DecidableEq, Repr

/-- One live core: its output latches and its registers. -/
structure Core where
  /-- Firings since the stream began. -/
  fired : Nat
  weft : Option Token
  down : Option Token
  /-- Stationary values with the first weft step of their pass: (i, j) at 2i + j, FP4's second weights 4 further on. -/
  active : Option (Nat × List (Option FNum))
  shadow : Option (Nat × List (Option FNum))
  /-- First weft step of the next pass whose warp has not been loaded. -/
  nextLoad : Nat
  /-- Output-stationary registers: (e, i, j) at 4e + 2i + j, FP4's second column 16 further on. -/
  pass : List FNum
  total : List FNum
  /-- Drain registers: the tile's first weft step, the entries already drained, the totals. -/
  drain : Option (Nat × Nat × List FNum)
  deriving DecidableEq, Repr

/-- A core with empty latches. -/
def Core.zero : Core :=
  { fired := 0, weft := none, down := none, active := none, shadow := none, nextLoad := 0, pass := [], total := [],
    drain := none }

/-- A line access that waits at a bank of stage memory (R116). -/
structure BankWait where
  bank : Nat
  /-- 0 weft feeders, 1 warp loader, 2 fell writes, 3 Retriever n, 4 the other Retrievers, 5 the control cores. -/
  port : Nat
  /-- It has waited a step, and has been counted. -/
  waited : Bool
  deriving DecidableEq, Repr

/-- What a Loom keeps beside its registers and panels. -/
structure Loom where
  /-- Gauge ticks since reset, modulo 64: the pacer's t (R225). -/
  tickNo : Nat
  /-- Line accesses that wait for a bank, and the port that each bank asks next (R116). -/
  waits : List BankWait
  turns : SMap Nat
  /-- Gauge ticks in the open 4 µs window (R44). -/
  ticks : Nat
  /-- Multiply-accumulates below the unit of LOOM_CNT_MAC (R45). -/
  macRest : Nat
  /-- Hub time plus one at which the drain interval of R60 ends; 0 while none runs. -/
  drainUs : Nat
  deriving DecidableEq, Repr

/-- A Loom that has done nothing. -/
def Loom.zero : Loom := { tickNo := 0, waits := [], turns := [], ticks := 0, macRest := 0, drainUs := 0 }

/-! ## Retrievers (R114 to R141) -/

/-- Who runs a descriptor. -/
inductive DescOwner where
  | entry (ring seq : Nat)
  | channel (c : Nat)
  deriving DecidableEq, Repr

/-- A request in flight: it holds a tag (R127, R129). -/
structure Request where
  id : Nat
  src : Nat
  dst : Nat
  len : Nat
  /-- The arbiter input it was issued at (R131, R196). -/
  input : Nat
  /-- The bytes that a peer's response has brought, for a read of peer memory (R268). -/
  data : Option (List Byte)
  /-- The status that an access error or a lost peer has given it; 0 none. -/
  fail : Nat
  /-- Bursts of its HBM sectors that have failed on their way (R155): 8 × (2 × sector, plus 1 for a write) + KIND. -/
  lost : List Nat
  /-- The messages that write its bytes to a peer have been sent (R268): those not answered, by number, with their bytes; bytes
  that the peer has written; and whether a sector of its source failed. -/
  sent : Bool
  parts : List (Nat × Nat)
  wrote : Nat
  srcBad : Bool
  /-- The port by which it went out to a peer (R270). -/
  via : Option Nat
  /-- Its source bytes as they stood when a window change remapped them (R150). -/
  kept : Option (List Byte)
  /-- Whether the first and the last byte of its source, and of its destination, lay in a sector window when it was issued
  (R150). -/
  srcWin : Bool × Bool
  dstWin : Bool × Bool
  deriving DecidableEq, Repr

/-- A descriptor that has started (R125 to R128). -/
structure Desc where
  id : Nat
  owner : DescOwner
  bytes : List Byte
  /-- Where the data begin: SRC_ADDR and DST_ADDR, or the slot of a data ring. -/
  src : Nat
  dst : Nat
  /-- Waits for a credit or a filled slot; otherwise requests issue. -/
  waiting : Bool
  /-- Sequence of the slot claimed or read. -/
  slot : Nat
  /-- Next row and byte of the row to request. -/
  row : Nat
  col : Nat
  reqs : List Request
  read : Nat
  written : Nat
  /-- First failure. -/
  status : Nat
  /-- Issue has stopped: a cancel, a watchdog or an isolation, with the status it completes with. -/
  cut : Option Nat
  /-- Its slot has been filled, or its reads have landed, but its signal is held for an earlier one (R128). -/
  landed : Bool
  /-- Seed of its undefined bytes (R127); seeds rise with the order of starts over all Retrievers. -/
  seed : Nat
  /-- Its next request has waited for a tag and has been counted: its place among those that wait, 0 where it does not
  (R129). -/
  tagWait : Nat
  /-- The account that was open on its ring at the cancel point, 0 for none, and the ledger window that held that point (R136,
  R250). -/
  cutReq : Nat
  cutWin : Nat
  /-- Microseconds since it began to wait, or since a request of it last landed (R177). -/
  stillUs : Nat
  /-- Hub time at which its credit or filled slot became available while it waited (R195). -/
  availUs : Option Nat
  deriving DecidableEq, Repr

/-- A channel (R132). -/
structure Channel where
  /-- The active copy has been armed and has not completed. -/
  active : Option (List Byte)
  shadow : Option (List Byte)
  cancelling : Bool
  deriving DecidableEq, Repr

/-- A trickle FIFO's store (R137 to R140). -/
structure Trickle where
  /-- Units of the partial word, 4 bytes each. -/
  part : List Byte
  /-- Whole words held, each with its mask. -/
  words : List (List Byte × Nat)
  /-- Bytes of a write longer than the FIFO that have not entered it yet: its handshake has not completed (R139). -/
  rest : List Byte
  /-- Units that have entered, and units that have been written out. -/
  unitsIn : Nat
  unitsOut : Nat
  /-- Microseconds since the last unit entered. -/
  quietUs : Nat
  /-- A writer is held (R139). -/
  stalled : Bool
  /-- EN is being cleared: the value that RTV_TRK_CFG takes once the flush has drained (R141). -/
  disabling : Option Nat
  deriving DecidableEq, Repr

/-- One Retriever beside its registers. -/
structure Retriever where
  /-- Started descriptors in start order. -/
  descs : List Desc
  nextDesc : Nat
  nextReq : Nat
  /-- Places given to requests that wait for a tag (R129). -/
  nextWait : Nat
  chans : SMap Channel
  trk : SMap Trickle
  deriving DecidableEq, Repr

/-- An idle channel. -/
def Channel.zero : Channel := { active := none, shadow := none, cancelling := false }

/-- An empty trickle FIFO. -/
def Trickle.zero : Trickle :=
  { part := [], words := [], rest := [], unitsIn := 0, unitsOut := 0, quietUs := 0, stalled := false, disabling := none }

/-- An idle Retriever. -/
def Retriever.zero : Retriever := { descs := [], nextDesc := 0, nextReq := 0, nextWait := 1, chans := [], trk := [] }

/-! ## Arbiters (R185 to R188) -/

/-- A request at an arbiter. -/
structure ArbReq where
  input : Nat
  requester : Nat
  /-- The Retriever request it belongs to: 1 + Retriever × 2^32 + request number; 0 for other traffic. -/
  tag : Nat
  /-- Units of service in all, and units moved (R187). -/
  units : Nat
  moved : Nat
  /-- Virtual channel, at a port's egress. -/
  vc : Nat
  /-- Its bytes. -/
  bytes : Nat
  /-- Hub time at which it arrived (R203). -/
  since : Nat
  /-- The ring that its activity is charged to, if there is one (R243). -/
  ring : Option Nat
  /-- The bytes of the message, header first, at a port's egress (R268). -/
  data : List Byte
  deriving DecidableEq, Repr

/-- One arbiter: an HBM pseudo-channel (stack × 32 + channel number), a bridge direction (512 + 0 to 7) or the egress of a
port (520 + port). -/
structure Arb where
  waiting : List ArbReq
  serving : Option ArbReq
  /-- Last requester granted, by input; ages, by input × 1024 + requester (R186). -/
  last : SMap Nat
  ages : SMap Nat
  frozen : Bool
  /-- Inputs granted since the last microsecond of the hub timer, and inputs that were waiting then (R191). -/
  granted : List Nat
  since : List Nat
  /-- Bytes that a limited input has been granted beyond what its limiter has given, by input (R190). -/
  debt : SMap Nat
  /-- Command slots of the present eight that have passed, at a pseudo-channel (R159). -/
  slot : Nat
  deriving DecidableEq, Repr

/-- An idle arbiter. -/
def Arb.zero : Arb :=
  { waiting := [], serving := none, last := [], ages := [], frozen := false, granted := [], since := [], debt := [], slot := 0 }

/-! ## Packs and pack links (R263 to R288) -/

/-- A flit (R265), by its fields; its bytes and its CRC follow from them. -/
structure PortFlit where
  type : Nat
  vc : Nat
  seq : Nat
  ack : Nat
  cvc : Nat
  credits : Nat
  payload : List Byte
  deriving DecidableEq, Repr

/-- One port's link layer (R264 to R269). -/
structure Port where
  /-- Next sequence number to send, and next expected. -/
  txSeq : Nat
  rxSeq : Nat
  /-- Sequenced flits sent and not acknowledged, oldest first, each with the number of times that it has been resent (R266). -/
  replay : List (PortFlit × Nat)
  /-- A NAK has been sent and the expected flit has not come. -/
  nakSent : Bool
  /-- Credits held, and receive-buffer flits freed and not yet returned, by virtual channel. -/
  credits : SMap Nat
  freed : SMap Nat
  /-- Bytes of a message whose flits have not all come, by virtual channel (R268). -/
  partly : SMap (List Byte)
  /-- Request and sync flits held behind a marker (R284). -/
  held : List PortFlit
  /-- Microseconds since a good flit, and for which the replay buffer has been full. -/
  quietUs : Nat
  fullUs : Nat
  deriving DecidableEq, Repr

/-- A port that has not come up: every credit at its reset value of 128 (R267). -/
def Port.zero : Port :=
  { txSeq := 0, rxSeq := 0, replay := [], nakSent := false, credits := [], freed := [], partly := [], held := [], quietUs := 0, fullUs := 0 }

/-- What a message between members says. -/
inductive PackKind where
  | heartbeat | portDown | lost | takeover | takeoverAccept | takeoverRefuse | join | joinReply | routeTable | mseqAck
  | lossScale | peerRequest | peerResponse | stop | resume | cut | swatch | swatchDone | restore | restored | fill
  | signal | arrive | subscribe | push | forward | syncReply | reset
  deriving DecidableEq, Repr

/-- A message to another member (R268): its arguments as numbers, in the order its rule names them. -/
structure PackMsg where
  kind : PackKind
  dst : Nat
  epoch : Nat
  mseq : Nat
  args : List Nat
  /-- The port that it went out by. -/
  via : Option Nat
  deriving DecidableEq, Repr

/-- What the manager keeps of a member. -/
structure Member where
  serial : Nat
  rack : Nat
  feed : Nat
  /-- Swatch partner, and whether the pairing is co-fed (R282). -/
  partner : Nat
  coFed : Bool
  /-- It joined with epoch 0 and has not been filled (R276, R300). -/
  spare : Bool
  /-- The epoch of its join. -/
  since : Nat
  deriving DecidableEq, Repr

/-! ## Power (R221 to R236) -/

/-- One regulator's quadrant: Loom dies 0 to 3, the hub 4. -/
structure Quad where
  vcode : Nat
  pace : Nat
  /-- limit(q) of R229 and the emergency of R232. -/
  thermal : Bool
  emergency : Bool
  current : Bool
  fault : Bool
  /-- A regulator that has shut down (R233). -/
  shut : Bool
  /-- Die-sense voltage below the set voltage (R234). -/
  droop : Bool
  /-- T(q) in quarters of a degree. -/
  temp : Nat
  /-- Measured output current in A, and p_ctl of the last window in W. -/
  amps : Nat
  ctlW : Nat
  /-- Pace or voltage is held below target by the last branch of R229 (R234). -/
  held : Bool
  deriving DecidableEq, Repr

/-- A quadrant before its first reading. -/
def Quad.zero : Quad :=
  { vcode := 0, pace := 64, thermal := false, emergency := false, current := false, fault := false, shut := false,
    droop := false, temp := 0, amps := 0, ctlW := 0, held := false }

/-- A cluster under R235 and R236. -/
structure Cluster where
  /-- It may fire. -/
  running : Bool
  gated : Bool
  /-- It has requested a start, this many waves ago plus one. -/
  asked : Nat
  idleUs : Nat
  deriving DecidableEq, Repr

/-- A cluster that is idle. -/
def Cluster.zero : Cluster := { running := false, gated := false, asked := 0, idleUs := 0 }

/-! ## The ledger (R240 to R259) -/

/-- What a request has been charged (R245, R250, R251). -/
structure Account where
  ring : Nat
  part : Nat
  id : Nat
  openSeq : Nat
  openWall : Nat
  closeSeq : Nat
  closeWall : Nat
  /-- Window in which it closed, and its receipt sequence number; open requests have none. -/
  closedIn : Option Nat
  receipt : Nat
  energy : Nat
  uncert : Rat
  estOnly : Nat
  discard : Nat
  est : Nat
  pieces : Nat
  firstWin : Nat
  lastWin : Nat
  divergent : Bool
  coFed : Bool
  unverified : Bool
  abandoned : Bool
  restored : Bool
  deriving DecidableEq, Repr

/-- A ledger block (R253 to R255). -/
structure Block where
  receipts : List (List Byte)
  firstReceipt : Nat
  firstWin : Nat
  lastWin : Nat
  meas : Nat
  overhead : Nat
  /-- CLOSE and FLAGS of the header. -/
  close : Nat
  flags : Nat
  /-- Header and signature, once signed. -/
  signed : Option (List Byte × List Byte)
  no : Nat
  deriving DecidableEq, Repr

/-- The ledger beside its registers. -/
structure Ledger where
  /-- Numbers the requests; their accounts by that number. -/
  nextReq : Nat
  accounts : SMap Account
  /-- Estimated femtojoules of the open 1 ms window, by domain × 2^64 + (ring + 1) × 2^40 + request number. -/
  est : SMap Nat
  /-- Dynamic femtojoules of the open 4 µs window, by quadrant × 2^64 + (ring + 1) × 2^40 + request number. -/
  est4 : SMap Nat
  /-- LEAK_SHARE as it stood when the open 4 µs window began (R262). -/
  leakShare : Bool
  /-- Estimated energy of the bytes discarded at cancel points of the open window, by domain × 2^64 + request number (R136); and
  k of closed windows that held the cancel point of a descriptor still in flight, by window × 4 + domain (R250). -/
  discard : SMap Nat
  kDisc : List (Nat × Rat)
  /-- Measured nanojoules, sample sets and monitor faults of the open window, by domain; rest in µW × 10 µs. -/
  meas : SMap Nat
  samples : SMap Nat
  faults : SMap Nat
  /-- k of the last window that was not estimate-only, by domain, and the package factor. -/
  kLast : List (Nat × Rat)
  kPkg : Rat
  /-- Consecutive windows divergent, not divergent, severe, not severe. -/
  runDiv : Nat
  runNotDiv : Nat
  runSev : Nat
  runNotSev : Nat
  /-- The open block, closed blocks oldest first, and windows closed since the last block. -/
  openBlk : Block
  closed : List Block
  winSince : Nat
  /-- Records waiting to be written to the host. -/
  records : List (List Byte)
  /-- Digest of the last signed block. -/
  prev : List Byte
  deriving DecidableEq, Repr

/-! ## Swatches (R289 to R304) -/

/-- One of this device's own slots in the reserved area (R290). -/
structure SwatchSlot where
  base : Nat
  size : Nat
  /-- The complete swatch it holds, if any (R292). Its bytes stand in HBM as undefined bytes. -/
  image : Option SwatchImage
  deriving DecidableEq, Repr

/-- A capture on a member: orders 3 to 6 of R293. -/
structure Capture where
  stopNo : Nat
  no : Nat
  /-- Manifest, segment entries and signature, which are written last (R291). -/
  manifest : List Byte
  /-- The slot that the copy goes to, and what it holds. -/
  slot : Nat
  image : SwatchImage
  deriving DecidableEq, Repr

/-- What a fill is doing (R300). -/
structure FillJob where
  /-- The lost member, the spare's interim number, and the partner that supplies the copy. -/
  x : Nat
  spare : Nat
  partner : Nat
  deriving DecidableEq, Repr

/-- Swatches beside their registers. -/
structure Swatch where
  slots : List SwatchSlot
  /-- This member's capture in progress. -/
  job : Option Capture
  /-- Manager: the swatch being captured, its stop, hub time of steps 1 and 2, and the members that have reported. -/
  capS : Option Nat
  capStop : Nat
  capStartUs : Nat
  capStep2Us : Option Nat
  dones : List Nat
  /-- Costs in ms of the last eight captures, newest first; hub time at which the last one completed. -/
  costs : List Nat
  lastUs : Nat
  /-- Microseconds of RUN_S below a second (R295). -/
  runUs : Nat
  /-- Manager: a restore in progress (swatch number and source), its stop, and the members that have reported. -/
  ordered : Option (Nat × Nat)
  restoreStop : Nat
  restoredBy : List Nat
  /-- Manager: the fill in progress, members whose fill waits with their partners, and whether a capture is owed after
  RESUME. -/
  fill : Option FillJob
  fillQueue : List (Nat × Nat)
  owed : Bool
  /-- This member has reported RESTORED and waits for RESUME. -/
  waits : Bool
  deriving DecidableEq, Repr

/-- No swatch, no job. -/
def Swatch.zero : Swatch :=
  { slots := [], job := none, capS := none, capStop := 0, capStartUs := 0, capStep2Us := none, dones := [], costs := [],
    lastUs := 0, runUs := 0, ordered := none, restoreStop := 0, restoredBy := [], fill := none, fillQueue := [], owed := false,
    waits := false }

/-! ## Host interface (R305 to R324) -/

/-- A PCI Express function. -/
structure Fn where
  /-- Orders 1 to 6 of R320 are in progress. -/
  draining : Bool
  /-- D3hot (R322). -/
  d3hot : Bool
  memSpace : Bool
  msixEn : Bool
  fnMask : Bool
  /-- Vectors whose pending bit is set, rising. -/
  pending : List Nat
  /-- An unexpected completion stands in its AER status. -/
  aerUnexpected : Bool
  deriving DecidableEq, Repr

/-- A function after a full reset. -/
def Fn.zero : Fn :=
  { draining := false, d3hot := false, memSpace := false, msixEn := false, fnMask := false, pending := [],
    aerUnexpected := false }

/-- What the package sends to the outside, in order. -/
inductive OutMsg where
  /-- A posted write to host memory with the requester ID of function `fn`. -/
  | hostWrite (fn addr : Nat) (data : List Byte)
  /-- A request for host data by a Retriever. -/
  | hostRead (fn addr len : Nat)
  /-- The data of a host read of BAR4; `poison` where it is poisoned, `abort` under Completer Abort. -/
  | completion (fn : Nat) (data : List Byte) (poison abort : Bool)
  /-- An MSI-X message of a function's vector. -/
  | msix (fn vector : Nat)
  /-- A configuration request answered with Request Retry Status. -/
  | retryStatus (fn : Nat)
  /-- A flit sent on a port. -/
  | flit (port : Nat) (f : PortFlit)
  /-- A data byte or word answered on SMBus. -/
  | smbus (value : Nat)
  deriving DecidableEq, Repr

/-! ## Monitor and trace (R362 to R373) -/

/-- What the monitor prints; a response ends with `ok` or `err` and the prompt. -/
inductive MonItem where
  /-- A value printed in hexadecimal, of 32 or 64 bits, and one printed in decimal. -/
  | word (v : Nat)
  | word64 (v : Nat)
  | decimal (v : Nat)
  /-- The command list of help. -/
  | help
  /-- The bytes of a journal record, decoded. -/
  | journal (bytes : List Byte)
  | ready
  | ok
  | err (code : Nat)
  /-- The result code that follows ERR 6. -/
  | result (code : Nat)
  deriving DecidableEq, Repr

/-- A trace record before it is written (R362). -/
structure TraceRec where
  time : Nat
  source : Nat
  kind : Nat
  status : Nat
  ring : Nat
  layer : Nat
  oper : Nat
  seq : Nat
  data : Nat
  deriving DecidableEq, Repr

/-- The monitor and the trace unit beside their registers. -/
structure Monitor where
  baud : Nat
  /-- What MON_TXD has sent since reset, newest last. -/
  uart : List MonItem
  /-- Records on their way to the trace unit, in the order of their making, and records held there. -/
  fly : List TraceRec
  held : List TraceRec
  /-- Records lost and not yet marked by a GAP. -/
  lost : Nat
  /-- The first ERROR record has come with STOP_ON_ERR: the unit takes no more and stops when it is empty. -/
  stopping : Bool
  deriving DecidableEq, Repr

/-- The monitor after a full reset. -/
def Monitor.zero : Monitor := { baud := 115200, uart := [], fly := [], held := [], lost := 0, stopping := false }

/-! ## Reset, start and flash (R325 to R344) -/

/-- A record of the start journal (R338), without its CRC. -/
structure JournalRec where
  startNo : Nat
  timeUs : Nat
  step : Nat
  event : Nat
  level : Nat
  result : Nat
  detail : Nat
  deriving DecidableEq, Repr

/-- What the journal keeps of a start step (R340, R343). -/
structure StepRec where
  fails : Nat
  level : Nat
  result : Nat
  ms : Nat
  deriving DecidableEq, Repr

/-- A stored monitor token (R355). -/
structure Token355 where
  scope : Nat
  starts : Nat
  first : Nat
  deriving DecidableEq, Repr

/-- What lives in flash and survives every reset (R326, R344, R356, R358). -/
structure Flash where
  journal : List JournalRec
  steps : SMap StepRec
  /-- CLEAR_STEPS was written during a start: it takes effect at the next one (R342). -/
  clearDue : Bool
  startNo : Nat
  /-- The map areas of R338: spare wires in use by bridge × 32 + direction × 16 + group (R17), repaired lanes by stack × 256 +
  group, stacks with stored training values (R153), the darn map by Loom × 8 + 0 for the retired column bands, 1 for the darned
  bands and 2 to 5 for their rows (R61), and the suspect cores as (Loom × 544 + physical row) × 256 + physical column (R59). -/
  spares : SMap Nat
  repairs : SMap Nat
  stored : List Nat
  darnMap : SMap Nat
  suspects : List Nat
  /-- Stacks that have failed step 6, which its alternatives train otherwise (R339). -/
  weak : List Nat
  /-- Blocks signed since manufacture, which is the next BLOCK_NO; digest of the last one; one past the last signed
  receipt (R255, R256). -/
  blockNo : Nat
  lastBlock : List Byte
  receiptNext : Nat
  swtLast : Nat
  swtDurable : Nat
  token : Option Token355
  cntAlt : Nat
  cntSafe : Nat
  cntFwRefused : Nat
  /-- Fused minimum SVN (R345): a fuse, not flash; it survives as flash does. -/
  svnFuse : Nat
  deriving DecidableEq, Repr

/-- Flash as the part is delivered. -/
def Flash.zero : Flash :=
  { journal := [], steps := [], clearDue := false, startNo := 0, spares := [], repairs := [], stored := [], darnMap := [],
    suspects := [], weak := [], blockNo := 0, lastBlock := [], receiptNext := 0, swtLast := 0,
    swtDurable := 0, token := none, cntAlt := 0, cntSafe := 0, cntFwRefused := 0, svnFuse := 0 }

/-- Where reset and start stand. -/
structure Start where
  /-- A full reset is asserted. -/
  asserted : Bool
  /-- PWR_OK is high; PERST# is asserted; THERMTRIP# is asserted and its hold runs (R330). -/
  pwrOk : Bool
  perst : Bool
  trip : Bool
  /-- ALERT# is held by a regulator shutdown until the next full reset (R397). -/
  alertHeld : Bool
  /-- Microseconds until an asserted reset may end, and until a reset that has been ordered is asserted (R325, R329). -/
  holdUs : Nat
  due : Option (Nat × Nat × Nat)
  /-- Start step in progress, 1 to 10; 0 when ready; its level; hub time of its entry; any step above level 0 so far. -/
  step : Nat
  level : Nat
  stepUs : Nat
  altSeen : Bool
  /-- STATE of RST_START: 0 starting, 1 ready, 2 safe. -/
  state : Nat
  /-- Regions whose release wave has ended (R332). -/
  released : List Nat
  /-- The load buffer of R339 and whether LOAD_DONE has been written. -/
  load : SMap Byte
  loadDone : Bool
  /-- A block reset in progress: type and instance (R335). -/
  block : Option (Nat × Nat)
  /-- Microseconds of a thermal-trip hold since a sensor last read 85 °C or more (R330). -/
  coolUs : Nat
  deriving DecidableEq, Repr

/-- The package right after a power-on reset has ended: start step 1 is in progress. -/
def Start.zero : Start :=
  { asserted := false, pwrOk := true, perst := false, trip := false, alertHeld := false, holdUs := 0, due := none,
    step := 1, level := 0, stepUs := 0, altSeen := false, state := 0, released := [], load := [], loadDone := false,
    block := none, coolUs := 0 }

/-- Keys and the image that runs (R345 to R353). -/
structure Security where
  /-- Digest of the running image's payload, its version and SVN; empty before step 2 has ended. -/
  fw : List Byte
  version : Nat
  svn : Nat
  /-- The response that waits in the DOE mailbox. -/
  doe : Option (List Byte)
  deriving DecidableEq, Repr

/-- Before step 2. -/
def Security.zero : Security := { fw := [], version := 0, svn := 0, doe := none }

/-! ## The package -/

/-- Power beside its registers (R221 to R237). -/
structure Power where
  quads : SMap Quad
  clusters : SMap Cluster
  /-- Events counted in the open 4 µs window, by (quadrant × 256 + source) × 16 + class (R221). -/
  counts : SMap Nat
  /-- Clusters that have requested a start, in order, by quadrant (R236). -/
  ramp : List (Nat × Nat)
  /-- PROFILE_850 has been written since the last loop (R231). -/
  profile : Bool
  /-- P_ctl of the last window in µW: k × P_est, or what the governor used in its place; the last package sample in µW (R223). -/
  pctl : Nat
  pmeas : Nat
  /-- Islands whose clock is stopped (R217). -/
  stopped : List Nat
  /-- Hub time plus one at which SUSPENDED was last set (R200). -/
  suspUs : Nat
  /-- The e > 1.00 cases of POWER_CAP and EXTERNAL of R234 as the last loop left them. -/
  capped : Bool
  external : Bool
  deriving DecidableEq, Repr

/-- Stacked memory beside its registers and contents. -/
structure Stacks where
  /-- Failed 32-byte sectors of HBM (R156), rising. -/
  badSectors : List Nat
  /-- Bursts that have failed on their way, of accesses by blocks that are no Retriever and that have not come to their own row
  (R155): 8 × (2 × sector, plus 1 for a write) + KIND. -/
  lost : List Nat
  /-- Open page of each bank: by arbiter × 2^32 + bank, one more than offset[31:10] (R148). -/
  openPages : SMap Nat
  /-- Nanoseconds of the hub timer from which a bank's next refresh is due, by (stack × 32 + pseudo-channel) × 2^32 + bank
  (R160). -/
  refreshAt : SMap Nat
  /-- Failed temperature reads in a row (R158). -/
  tempFails : SMap Nat
  /-- Sectors of each pseudo-channel that the patrol has read, by arbiter, and the hub time at which a stack's patrol period
  began (R157). -/
  patrolled : SMap Nat
  scrubUs : SMap Nat
  /-- Microseconds since the last access of a die's stacks (R237), and the stacks in self-refresh. -/
  idleUs : SMap Nat
  selfRefresh : List Nat
  deriving DecidableEq, Repr

/-- Bridges and control cores (R15 to R21). -/
structure Dies where
  /-- Consecutive replays of the same beat, by bridge × 32 + direction × 16 + group (R17). -/
  replays : SMap Nat
  /-- Control cores: missed heartbeat checks in a row, last failure, and those held in reset (R21). -/
  coreMissed : SMap Nat
  coreFailUs : SMap Nat
  coreHeld : List Nat
  /-- Rings that a control core's checked schedule tables name (R20): (core, ring); rings whose last published table failed its
  check. -/
  coreRings : List (Nat × Nat)
  badTables : List Nat
  /-- Hub times at which HUB_CORE_WDOG.MS has been written, newest first, with the values (R26); hub time at which a core
  last left reset, and under 32 that at which step 8 released them all (R21). -/
  wdogSet : List (Nat × Nat)
  coreSince : SMap Nat
  /-- Runtime faults of Loom cores since reset, as the start journal records them: the core, and the hub time (R59). -/
  faults : List (Nat × Nat)
  /-- Failed lane groups by die × 2 + direction, and bridges taken down since start (R17). -/
  groupsFailed : SMap Nat
  bridgeDown : List Nat
  deriving DecidableEq, Repr

/-- Pack links and the pack (R263 to R288). -/
structure Pack where
  ports : SMap Port
  /-- Members known to this device as manager. -/
  members : SMap Member
  /-- Members of the pack as this device was last told, itself among them (R279, R281), rising. -/
  roster : List Nat
  /-- Working links of the pack as this device knows them as manager: a member and its port, and those at the far end (R279). -/
  links : List (Nat × Nat × Nat × Nat)
  /-- Hub time of the last heartbeat heard, by member. -/
  heard : SMap Nat
  /-- Next MSEQ to each member; MSEQ applied, as source × 2^32 + MSEQ; messages sent and not acknowledged. -/
  mseqOut : SMap Nat
  seen : List Nat
  unacked : List PackMsg
  /-- Messages sent, newest last. -/
  out : List PackMsg
  /-- Members that have accepted this device's takeover; members that have reported CUT. -/
  accepts : List Nat
  cuts : List Nat
  /-- This device has declared its manager lost (R274), and the epoch it claims in a takeover. -/
  mgrLost : Bool
  claim : Option Nat
  /-- Hub time at which it declared that loss. -/
  claimUs : Nat
  /-- Members that have left: serial number, member number, first and last epoch (R276). -/
  former : List (Nat × Nat × Nat × Nat)
  /-- Ingress and egress ports between which traffic can pass under the route tables (R284). -/
  feeds : List (Nat × Nat)
  /-- The overflow counter's value at the last decision, none before the first step of the pack (R93); and whether HUB_LOSS_SCALE has
  been written since then (R94). -/
  lossC : Option Nat
  lossTouched : Bool
  /-- The member that the last LOST named, until the pack resumes (R301). -/
  lostX : Option Nat
  /-- Stop state of this device: the stop whose wave runs, and whether CUT has been reported (R283 to R285). -/
  stopNo : Option Nat
  cutSent : Bool
  /-- Microseconds of the manager's stop. -/
  stopUs : Nat
  deriving DecidableEq, Repr

/-- PCI Express beside its registers. -/
structure Pci where
  fns : SMap Fn
  /-- VF Enable and VF MSE of PF0's SR-IOV capability. -/
  vfEnable : Bool
  vfMse : Bool
  /-- Max payload size that the host has configured: 0 is 128 bytes, 1 is 256, 2 is 512 (R305, R306). -/
  mps : Nat
  /-- Events that have entered each crossing of R214 (0 IRQ, 1 ERR, 2 TRACE, 3 LEDGER) in the microsecond of the last one: that
  microsecond × 2^16 + their number. -/
  xing : SMap Nat
  /-- Merging crossings whose pending bit is set (R215): 0 doorbell wake, 1 stop request, 2 thermal alert; and the rings that
  doorbell pages mark as written. -/
  merging : List Nat
  rung : List Nat
  deriving DecidableEq, Repr

/-- The state of the package. Maps omit the entries that hold their default, which is the state after a full reset. -/
structure State where
  /-- Register contents by index × 2^32 + BAR0 offset; the index is the selected entry of an indexed register. VF function
  pages stand at region 0x40. -/
  regs : SMap Word64
  /-- Each requester's own copies of KEY and of the selectors (R382), by requester × 2^32 + BAR0 offset. -/
  sels : SMap Word64
  /-- Stage memory by Loom × 2^26 + o, and HBM by the address of R146. -/
  stage : Memory
  hbm : Memory
  rings : SMap Ring
  sync : SMap SyncObj
  mirrors : List Mirror
  /-- Pack-scope waits that have found no mirror entry (R176), in the order in which they began to wait. -/
  mirrorWait : List MirrorWait
  looms : SMap Loom
  panels : SMap Panel
  /-- By (Loom × 512 + logical row) × 256 + physical column. -/
  cores : SMap Core
  rtvs : SMap Retriever
  arbs : SMap Arb
  /-- Rings that wait for the admission unit, in order (R192). -/
  admQueue : List Nat
  power : Power
  ledger : Ledger
  stackSet : Stacks
  dies : Dies
  pack : Pack
  swatch : Swatch
  pci : Pci
  monitor : Monitor
  flash : Flash
  start : Start
  sec : Security
  /-- What has left the package, newest last. -/
  out : List OutMsg
  /-- Microseconds of the hub timer since reset. -/
  hubUs : Nat
  /-- Hub time at which the open period of a periodic event began, by the event's number (Machine/Ops.lean). -/
  timers : SMap Nat
  /-- Numbers the free values that the model has taken; the model's own field (log entry 5). -/
  freeCtr : Nat
  /-- Commands that wait, first in, first out. -/
  pending : List Instr
  deriving DecidableEq, Repr

/-- Why a command stops. A unit number that the package does not have: raised by every command whose operand names a
unit, safe. -/
inductive Fault where
  | noSuchUnit
  deriving DecidableEq, Repr

/-- Why a command is turned away. `notModelled`: the dispatch table has no meaning for it, safe. -/
inductive Refusal where
  | notModelled (mnemonic : String)
  deriving DecidableEq, Repr

/-- Memory after power-on: nothing has been written and every byte is undefined (R326). -/
def Memory.unwritten (size seed : Nat) : Memory := { cells := [], undef := [(0, size, seed)] }

/-- An empty block. -/
def Block.zero : Block :=
  { receipts := [], firstReceipt := 0, firstWin := 0, lastWin := 0, meas := 0, overhead := 0, close := 0, flags := 0,
    signed := none, no := 0 }

/-- No pack: every port down and no member known. -/
def Pack.zero : Pack :=
  { ports := [], members := [], roster := [], links := [], heard := [], mseqOut := [], seen := [], unacked := [], out := [], accepts := [],
    cuts := [], mgrLost := false, claim := none, claimUs := 0, former := [], feeds := [], lossC := none, lossTouched := false, lostX := none
    stopNo := none, cutSent := false, stopUs := 0 }

/-- The ledger after a full reset (R256); block numbers and digests come from flash. -/
def Ledger.zero : Ledger :=
  { nextReq := 0, accounts := [], est := [], est4 := [], leakShare := true, discard := [], kDisc := [], meas := [], samples := [], faults := [],
    kLast := [], kPkg := 1, runDiv := 0, runNotDiv := 0, runSev := 0, runNotSev := 0,
    openBlk := Block.zero,
    closed := [], winSince := 0, records := [], prev := [] }

/-- Flash when the first start of a part has begun: start 1 has entered step 1 (R338). -/
def Flash.first : Flash := { Flash.zero with startNo := 1, journal := [⟨1, 0, 1, 1, 0, 0, 0⟩] }

/-- Power after reset: the pacers of every quadrant at 64, no cluster running. -/
def Power.zero : Power :=
  { quads := [], clusters := [], counts := [], ramp := [], profile := false, pctl := 0, pmeas := 0, stopped := [], suspUs := 0,
    capped := false, external := false }

/-- Stacks after reset. -/
def Stacks.zero : Stacks :=
  { badSectors := [], lost := [], openPages := [], refreshAt := [], tempFails := [], patrolled := [], scrubUs := [],
    idleUs := [], selfRefresh := [] }

/-- Bridges and control cores after reset. -/
def Dies.zero : Dies :=
  { replays := [], coreMissed := [], coreFailUs := [], coreHeld := [], coreRings := [], badTables := [], wdogSet := [],
    coreSince := [], faults := [], groupsFailed := [], bridgeDown := [] }

/-- PCI Express after a full reset. -/
def Pci.zero : Pci := { fns := [], vfEnable := false, vfMse := false, mps := 0, xing := [], merging := [], rung := [] }

/-- The package right after a power-on reset has ended and start step 1 has begun (R326): RST_CAUSE records CODE 1 (R395) and
RST_STRAPS the values of unstrapped pins (R399, log entry 12). -/
def State.reset : State :=
  { regs := [(0x100104, 1), (0x100108, 0xF00)], sels := [], stage := Memory.unwritten (8 * 2 ^ 26) 0,
    hbm := Memory.unwritten (2 ^ 41) 1, rings := [], sync := [], mirrors := [], mirrorWait := [], looms := [], panels := [],
    cores := [], rtvs := [], arbs := [], admQueue := [], power := Power.zero, ledger := Ledger.zero, stackSet := Stacks.zero,
    dies := Dies.zero, pack := Pack.zero, swatch := Swatch.zero, pci := Pci.zero, monitor := Monitor.zero,
    flash := Flash.first, start := Start.zero, sec := Security.zero, out := [], hubUs := 0, timers := [], freeCtr := 2, pending := [] }

end Sys2Proof.Machine
end

