-- ==== Sys2Proof/Machine/Store.lean ====
section
/-! DEFINITION. Sys2Proof/Machine/Store.lean: reading and writing sparse maps, bit fields, byte strings and addressed
memory. -/

namespace Sys2Proof.Machine

open Sys2Proof

/-! ## Sparse maps -/

/-- The value at a key, or the default. -/
def mget {α : Type} (m : SMap α) (k : Nat) (d : α) : α :=
  match m with
  | [] => d
  | (a, v) :: r => if a = k then v else mget r k d

/-- The map with a pair put at its place. -/
def mput {α : Type} (m : SMap α) (k : Nat) (v : α) : SMap α :=
  match m with
  | [] => [(k, v)]
  | (a, w) :: r => if k < a then (k, v) :: (a, w) :: r else if a = k then (k, v) :: r else (a, w) :: mput r k v

/-- The map without a key. -/
def mdel {α : Type} (m : SMap α) (k : Nat) : SMap α := m.filter fun p => decide (p.1 ≠ k)

/-- The map with a value at a key; the default is not listed. -/
def mset {α : Type} [DecidableEq α] (m : SMap α) (k : Nat) (v d : α) : SMap α :=
  if v = d then mdel m k else mput m k v

/-- Keys strictly rising. -/
def risingKeys {α : Type} : SMap α → Bool
  | [] => true
  | [_] => true
  | (a, _) :: (b, w) :: r => decide (a < b) && risingKeys ((b, w) :: r)

/-! ## Bit fields and byte strings -/

/-- Bits hi down to lo of a number. -/
def bits (v hi lo : Nat) : Nat := v / 2 ^ lo % 2 ^ (hi + 1 - lo)

/-- Bit i of a number. -/
def bit (v i : Nat) : Bool := v.testBit i

/-- The number with its bits hi down to lo replaced. -/
def putBits (v hi lo x : Nat) : Nat :=
  v / 2 ^ (hi + 1) * 2 ^ (hi + 1) + x % 2 ^ (hi + 1 - lo) * 2 ^ lo + v % 2 ^ lo

/-- A flag as a bit. -/
def flag (b : Bool) : Nat := if b then 1 else 0

/-- The little-endian number that bytes spell. -/
def leNat : List Byte → Nat
  | [] => 0
  | b :: r => b.toNat + 256 * leNat r

/-- A number as n little-endian bytes. -/
def leBytes : (n : Nat) → Nat → List Byte
  | 0, _ => []
  | n + 1, v => BitVec.ofNat 8 v :: leBytes n (v / 256)

/-- The field of `n` bytes at an offset of a byte string. -/
def field (bs : List Byte) (off n : Nat) : Nat := leNat ((bs.drop off).take n)

/-- Distance of two wrapping 32-bit counts (R121). -/
def sub32 (a b : Nat) : Nat := (a % 2 ^ 32 + 2 ^ 32 - b % 2 ^ 32) % 2 ^ 32

/-- A wrapping 32-bit sum. -/
def add32 (a b : Nat) : Nat := (a + b) % 2 ^ 32

/-- The numbers a, a + 1, … below a + n. -/
def span (a : Nat) : (n : Nat) → List Nat
  | 0 => []
  | n + 1 => a :: span (a + 1) n

/-- A list with its element at an index replaced. -/
def setAt {α : Type} : List α → Nat → α → List α
  | [], _, _ => []
  | _ :: r, 0, v => v :: r
  | x :: r, n + 1, v => x :: setAt r n v

/-- A list of numbers with one put in its rising place, once. -/
def putRising (k : Nat) : List Nat → List Nat
  | [] => [k]
  | a :: r => if k < a then k :: a :: r else if a = k then a :: r else a :: putRising k r

/-- The largest of a list of numbers, 0 for none. -/
def maxOf : List Nat → Nat
  | [] => 0
  | a :: r => max a (maxOf r)

/-! ## Addressed memory -/

/-- The seed of the undefined range that holds an address. -/
def undefAt : List (Nat × Nat × Nat) → Nat → Option Nat
  | [], _ => none
  | (lo, hi, seed) :: r, a => if lo ≤ a ∧ a < hi then some seed else undefAt r a

/-- One byte of memory: what was written last, a free value where the contents are undefined, else 0. -/
def Memory.read (m : Memory) (a : Nat) : Byte :=
  match undefAt m.undef a with
  | some seed => Config.freeByte seed a
  | none => mget m.cells a 0

/-- Bytes from an address on. -/
def Memory.readN (m : Memory) (a : Nat) : (n : Nat) → List Byte
  | 0 => []
  | n + 1 => m.read a :: Memory.readN m (a + 1) n

/-- Ranges without the addresses from lo up to hi. -/
def cutRanges (lo hi : Nat) : List (Nat × Nat × Nat) → List (Nat × Nat × Nat)
  | [] => []
  | (a, b, s) :: r =>
    if hi ≤ a ∨ b ≤ lo then (a, b, s) :: cutRanges lo hi r
    else (if a < lo then [(a, lo, s)] else []) ++ (if hi < b then [(hi, b, s)] else []) ++ cutRanges lo hi r

/-- Ranges with one put in its rising place. -/
def putRange (lo hi s : Nat) : List (Nat × Nat × Nat) → List (Nat × Nat × Nat)
  | [] => [(lo, hi, s)]
  | (a, b, t) :: r => if lo < a then (lo, hi, s) :: (a, b, t) :: r else (a, b, t) :: putRange lo hi s r

/-- Written bytes at an address on. -/
def putCells (c : List (Nat × Byte)) (a : Nat) : List Byte → List (Nat × Byte)
  | [] => c
  | b :: r => putCells (mset c a b 0) (a + 1) r

/-- Memory with bytes written at an address. -/
def Memory.write (m : Memory) (a : Nat) (bs : List Byte) : Memory :=
  { cells := putCells m.cells a bs, undef := cutRanges a (a + bs.length) m.undef }

/-- Memory whose bytes from lo up to hi have become undefined. -/
def Memory.lose (m : Memory) (lo hi seed : Nat) : Memory :=
  if lo < hi then
    { cells := m.cells.filter fun p => decide (p.1 < lo ∨ hi ≤ p.1)
      undef := putRange lo hi seed (cutRanges lo hi m.undef) }
  else m

/-- Undefined ranges rise, are not empty and do not meet. -/
def rangesWf : List (Nat × Nat × Nat) → Bool
  | [] => true
  | [(a, b, _)] => decide (a < b)
  | (a, b, _) :: (c, d, t) :: r => decide (a < b) && decide (b ≤ c) && rangesWf ((c, d, t) :: r)

/-- The canonical form of a memory: cells rise, none is 0, none lies in an undefined range, and the ranges are in order. -/
def Memory.wf (m : Memory) : Bool :=
  risingKeys m.cells && m.cells.all (fun p => decide (p.2 ≠ 0)) && rangesWf m.undef &&
    m.cells.all fun p => (undefAt m.undef p.1).isNone

end Sys2Proof.Machine
end

