-- ==== Sys2Proof/Machine/Registers.lean ====
section
/-! DEFINITION. Sys2Proof/Machine/Registers.lean: the register pages as the chapters' tables give them, their common head
(R374 to R376), the map of BAR0 (R384), and the reading and setting of stored registers. -/

namespace Sys2Proof.Machine

open Sys2Proof

/-- The registers of the hub page, part 1 (R25, R26, R94, R205, R220, R303, R304, R386). -/
def hubRegs0 : List RegSpec := [
  ⟨0x040, true, [⟨63, 0, .ro, 0⟩]⟩,
  ⟨0x048, true, [⟨63, 0, .ro, 0⟩]⟩,
  ⟨0x050, true, [⟨63, 0, .ro, 0⟩]⟩,
  ⟨0x058, true, [⟨63, 0, .ro, 0⟩]⟩,
  ⟨0x100, false, [⟨31, 24, .s, 0⟩, ⟨23, 20, .s, 0⟩, ⟨15, 0, .s, 0⟩]⟩,
  ⟨0x104, false, [⟨31, 0, .s, 0⟩]⟩,
  ⟨0x110, false, [⟨31, 31, .s, 0⟩, ⟨24, 16, .s, 0⟩, ⟨15, 0, .s, 0⟩]⟩,
  ⟨0x114, false, [⟨31, 31, .s, 0⟩, ⟨24, 16, .s, 0⟩, ⟨15, 0, .s, 0⟩]⟩,
  ⟨0x118, false, [⟨31, 31, .s, 0⟩, ⟨24, 16, .s, 0⟩, ⟨15, 0, .s, 0⟩]⟩,
  ⟨0x11C, false, [⟨31, 31, .s, 0⟩, ⟨24, 16, .s, 0⟩, ⟨15, 0, .s, 0⟩]⟩,
  ⟨0x120, false, [⟨6, 0, .rw, 10⟩]⟩,
  ⟨0x130, false, [⟨31, 16, .rw, 0⟩, ⟨7, 0, .rw, 16⟩]⟩,
  ⟨0x134, false, [⟨31, 24, .rw, 48⟩, ⟨23, 16, .rw, 0⟩, ⟨15, 0, .rw, 2000⟩]⟩,
  ⟨0x138, false, [⟨15, 0, .rw, 0⟩]⟩,
  ⟨0x140, true, [⟨63, 0, .ro, 0⟩]⟩,
  ⟨0x180, false, [⟨3, 3, .w1c, 0⟩, ⟨2, 2, .w1c, 0⟩, ⟨1, 1, .w1c, 0⟩, ⟨0, 0, .w1c, 0⟩]⟩,
  ⟨0x184, false, [⟨4, 0, .rw, 0⟩]⟩,
  ⟨0x188, true, [⟨63, 0, .ro, 0⟩]⟩,
  ⟨0x190, true, [⟨63, 0, .ro, 0⟩]⟩,
  ⟨0x198, true, [⟨63, 0, .ro, 0⟩]⟩,
  ⟨0x200, false, [⟨31, 31, .ro, 0⟩, ⟨30, 30, .ro, 0⟩, ⟨4, 0, .rw, 0⟩]⟩,
  ⟨0x204, false, [⟨3, 0, .rw, 0⟩]⟩,
  ⟨0x208, false, [⟨31, 16, .s, 0⟩, ⟨15, 0, .ro, 0⟩]⟩,
  ⟨0x210, true, [⟨63, 0, .ro, 0⟩]⟩]

/-- The registers of the hub page, part 2 (R25, R26, R94, R205, R220, R303, R304, R386). -/
def hubRegs1 : List RegSpec := [
  ⟨0x218, true, [⟨63, 0, .ro, 0⟩]⟩,
  ⟨0x220, true, [⟨63, 0, .ro, 0⟩]⟩,
  ⟨0x240, false, [⟨31, 31, .w1s, 0⟩, ⟨30, 30, .rw, 0⟩, ⟨29, 29, .rw, 0⟩, ⟨28, 28, .w1s, 0⟩, ⟨27, 27, .w1s, 0⟩]⟩,
  ⟨0x244, false, [⟨31, 29, .ro, 0⟩, ⟨28, 24, .ro, 0⟩]⟩,
  ⟨0x248, false, [⟨31, 0, .rw, 300⟩]⟩,
  ⟨0x24C, false, [⟨31, 0, .rw, 3600⟩]⟩,
  ⟨0x250, false, [⟨15, 0, .rw, 60⟩]⟩,
  ⟨0x254, false, [⟨31, 0, .ro, 0⟩]⟩,
  ⟨0x258, false, [⟨31, 0, .ro, 0⟩]⟩,
  ⟨0x260, true, [⟨63, 0, .rw, 360000⟩]⟩,
  ⟨0x268, true, [⟨63, 0, .ro, 0⟩]⟩,
  ⟨0x270, true, [⟨63, 0, .ro, 0⟩]⟩,
  ⟨0x278, true, [⟨63, 0, .rw, 0⟩]⟩,
  ⟨0x280, false, [⟨15, 0, .rw, 0⟩]⟩,
  ⟨0x284, false, [⟨5, 0, .rw, 0⟩]⟩,
  ⟨0x288, false, [⟨31, 31, .rw, 0⟩, ⟨30, 30, .rw, 0⟩, ⟨29, 27, .rw, 0⟩]⟩,
  ⟨0x290, true, [⟨63, 0, .rw, 0⟩]⟩,
  ⟨0x298, true, [⟨63, 0, .rw, 0⟩]⟩,
  ⟨0x2A0, true, [⟨63, 0, .s, 0⟩]⟩,
  ⟨0x2A8, true, [⟨63, 0, .rw, 0⟩]⟩,
  ⟨0x2B0, true, [⟨63, 0, .ro, 0⟩]⟩,
  ⟨0x2B8, true, [⟨63, 0, .ro, 0⟩]⟩,
  ⟨0x2C0, true, [⟨63, 0, .ro, 0⟩]⟩,
  ⟨0x2C8, true, [⟨63, 0, .ro, 0⟩]⟩]

/-- The registers of the hub page, part 3 (R25, R26, R94, R205, R220, R303, R304, R386). -/
def hubRegs2 : List RegSpec := [
  ⟨0x2D0, true, [⟨63, 0, .ro, 0⟩]⟩,
  ⟨0x2D8, true, [⟨63, 0, .ro, 0⟩]⟩]

/-- All block-specific registers of the hub page and its always-on counters. -/
def hubRegs : List RegSpec := hubRegs0 ++ hubRegs1 ++ hubRegs2

/-- The registers of the reset and start page, part 1 (R343, R344). -/
def rstRegs0 : List RegSpec := [
  ⟨0x040, true, [⟨63, 0, .s, 0⟩]⟩,
  ⟨0x048, true, [⟨63, 0, .s, 0⟩]⟩,
  ⟨0x050, true, [⟨63, 0, .ro, 0⟩]⟩,
  ⟨0x058, true, [⟨63, 0, .ro, 0⟩]⟩,
  ⟨0x060, true, [⟨63, 0, .ro, 0⟩]⟩,
  ⟨0x068, true, [⟨63, 0, .ro, 0⟩]⟩,
  ⟨0x070, true, [⟨63, 0, .ro, 0⟩]⟩,
  ⟨0x078, true, [⟨63, 0, .ro, 0⟩]⟩,
  ⟨0x100, false, [⟨31, 31, .w1s, 0⟩, ⟨30, 30, .w1s, 0⟩, ⟨29, 29, .w1s, 0⟩]⟩,
  ⟨0x104, false, [⟨19, 16, .s, 0⟩, ⟨15, 8, .s, 0⟩, ⟨3, 0, .s, 0⟩]⟩,
  ⟨0x108, false, [⟨11, 8, .s, 0⟩, ⟨5, 4, .s, 0⟩, ⟨1, 0, .s, 0⟩]⟩,
  ⟨0x10C, false, [⟨31, 30, .ro, 0⟩, ⟨3, 0, .ro, 1⟩]⟩,
  ⟨0x110, false, [⟨15, 0, .rw, 1000⟩]⟩,
  ⟨0x114, false, [⟨3, 0, .rw, 1⟩]⟩,
  ⟨0x118, false, [⟨31, 30, .s, 0⟩, ⟨29, 28, .s, 0⟩, ⟨23, 16, .s, 0⟩, ⟨15, 0, .s, 0⟩]⟩,
  ⟨0x120, false, [⟨31, 31, .w1s, 0⟩, ⟨30, 28, .ro, 0⟩, ⟨9, 8, .rw, 0⟩, ⟨6, 0, .rw, 0⟩]⟩,
  ⟨0x130, true, [⟨63, 0, .rw, 0⟩]⟩,
  ⟨0x140, false, [⟨31, 0, .ro, 0⟩]⟩,
  ⟨0x144, false, [⟨31, 0, .ro, 0⟩]⟩,
  ⟨0x148, false, [⟨31, 0, .ro, 0⟩]⟩,
  ⟨0x14C, false, [⟨31, 0, .ro, 0⟩]⟩,
  ⟨0x150, false, [⟨31, 0, .ro, 0⟩]⟩,
  ⟨0x154, false, [⟨31, 0, .ro, 0⟩]⟩,
  ⟨0x158, false, [⟨31, 0, .ro, 0⟩]⟩]

/-- The registers of the reset and start page, part 2 (R343, R344). -/
def rstRegs1 : List RegSpec := [
  ⟨0x15C, false, [⟨31, 0, .ro, 0⟩]⟩,
  ⟨0x168, true, [⟨63, 0, .s, 0⟩]⟩]

/-- All block-specific registers of the reset and start page and its always-on counters. -/
def rstRegs : List RegSpec := rstRegs0 ++ rstRegs1

/-- The registers of the security page, part 1 (R358). -/
def secRegs0 : List RegSpec := [
  ⟨0x040, true, [⟨63, 0, .ro, 0⟩]⟩,
  ⟨0x048, true, [⟨63, 0, .ro, 0⟩]⟩,
  ⟨0x050, true, [⟨63, 0, .ro, 0⟩]⟩,
  ⟨0x058, true, [⟨63, 0, .ro, 0⟩]⟩,
  ⟨0x060, true, [⟨63, 0, .s, 0⟩]⟩,
  ⟨0x100, false, [⟨31, 30, .s, 0⟩, ⟨21, 16, .s, 0⟩, ⟨13, 8, .s, 0⟩, ⟨5, 0, .s, 0⟩]⟩,
  ⟨0x104, false, [⟨31, 31, .w1s, 0⟩, ⟨30, 30, .w1s, 0⟩]⟩,
  ⟨0x108, false, [⟨31, 0, .s, 0⟩]⟩,
  ⟨0x110, true, [⟨63, 0, .s, 0⟩]⟩]

/-- All block-specific registers of the security page and its always-on counters. -/
def secRegs : List RegSpec := secRegs0

/-- The registers of the monitor page, part 1 (R372, R373). -/
def monRegs0 : List RegSpec := [
  ⟨0x040, true, [⟨63, 0, .ro, 0⟩]⟩,
  ⟨0x048, true, [⟨63, 0, .ro, 0⟩]⟩,
  ⟨0x050, true, [⟨63, 0, .ro, 0⟩]⟩,
  ⟨0x058, true, [⟨63, 0, .ro, 0⟩]⟩,
  ⟨0x060, true, [⟨63, 0, .ro, 0⟩]⟩,
  ⟨0x068, true, [⟨63, 0, .ro, 0⟩]⟩,
  ⟨0x070, true, [⟨63, 0, .ro, 0⟩]⟩,
  ⟨0x078, true, [⟨63, 0, .ro, 0⟩]⟩,
  ⟨0x100, false, [⟨31, 16, .rw, 0⟩, ⟨15, 0, .rw, 0⟩]⟩,
  ⟨0x104, false, [⟨31, 16, .rw, 0⟩, ⟨15, 0, .rw, 0⟩]⟩,
  ⟨0x108, false, [⟨31, 31, .rw, 0⟩, ⟨30, 30, .w1s, 0⟩]⟩,
  ⟨0x110, true, [⟨63, 0, .ro, 0⟩]⟩,
  ⟨0x118, true, [⟨63, 0, .ro, 0⟩]⟩,
  ⟨0x120, true, [⟨63, 0, .ro, 0⟩]⟩,
  ⟨0x128, true, [⟨63, 0, .ro, 0⟩]⟩,
  ⟨0x130, true, [⟨63, 0, .ro, 0⟩]⟩,
  ⟨0x140, false, [⟨31, 31, .rw, 0⟩, ⟨30, 30, .rw, 0⟩, ⟨29, 29, .rw, 0⟩, ⟨28, 28, .rw, 0⟩, ⟨27, 27, .rw, 0⟩, ⟨26, 21, .rw, 16⟩, ⟨15, 0, .rw, 0⟩]⟩,
  ⟨0x148, true, [⟨63, 0, .rw, 0⟩]⟩,
  ⟨0x150, false, [⟨31, 0, .ro, 0⟩]⟩,
  ⟨0x154, false, [⟨31, 0, .rw, 0⟩]⟩,
  ⟨0x158, false, [⟨31, 31, .ro, 0⟩, ⟨8, 0, .ro, 0⟩]⟩,
  ⟨0x15C, false, [⟨31, 0, .wo, 0⟩]⟩]

/-- All block-specific registers of the monitor page and its always-on counters. -/
def monRegs : List RegSpec := monRegs0

/-- The registers of the power page, part 1 (R239). -/
def pwrRegs0 : List RegSpec := [
  ⟨0x040, true, [⟨63, 0, .ro, 0⟩]⟩,
  ⟨0x048, true, [⟨63, 0, .ro, 0⟩]⟩,
  ⟨0x050, true, [⟨63, 0, .ro, 0⟩]⟩,
  ⟨0x058, true, [⟨63, 0, .ro, 0⟩]⟩,
  ⟨0x060, true, [⟨63, 0, .ro, 0⟩]⟩,
  ⟨0x068, true, [⟨63, 0, .ro, 0⟩]⟩,
  ⟨0x070, true, [⟨63, 0, .ro, 0⟩]⟩,
  ⟨0x078, true, [⟨63, 0, .ro, 0⟩]⟩,
  ⟨0x100, false, [⟨31, 31, .w1s, 0⟩, ⟨10, 0, .rw, 1600⟩]⟩,
  ⟨0x104, false, [⟨10, 0, .ro, 0⟩]⟩,
  ⟨0x108, false, [⟨8, 0, .rw, 400⟩]⟩,
  ⟨0x10C, false, [⟨6, 0, .rw, 95⟩]⟩,
  ⟨0x110, false, [⟨25, 16, .rw, 10⟩, ⟨9, 0, .rw, 20⟩]⟩,
  ⟨0x120, false, [⟨14, 8, .rw, 64⟩, ⟨4, 0, .rw, 20⟩]⟩,
  ⟨0x124, false, [⟨14, 8, .rw, 64⟩, ⟨4, 0, .rw, 20⟩]⟩,
  ⟨0x128, false, [⟨14, 8, .rw, 64⟩, ⟨4, 0, .rw, 20⟩]⟩,
  ⟨0x12C, false, [⟨14, 8, .rw, 64⟩, ⟨4, 0, .rw, 20⟩]⟩,
  ⟨0x130, false, [⟨14, 8, .rw, 64⟩, ⟨4, 0, .rw, 20⟩]⟩,
  ⟨0x134, false, [⟨14, 8, .rw, 64⟩, ⟨4, 0, .rw, 20⟩]⟩,
  ⟨0x138, false, [⟨14, 8, .rw, 64⟩, ⟨4, 0, .rw, 20⟩]⟩,
  ⟨0x13C, false, [⟨14, 8, .rw, 64⟩, ⟨4, 0, .rw, 20⟩]⟩,
  ⟨0x140, false, [⟨2, 0, .rw, 0⟩]⟩,
  ⟨0x144, false, [⟨31, 24, .ro, 0⟩, ⟨15, 9, .ro, 64⟩, ⟨8, 5, .ro, 0⟩, ⟨4, 0, .s, 0⟩]⟩,
  ⟨0x148, false, [⟨31, 16, .ro, 0⟩, ⟨15, 0, .ro, 0⟩]⟩]

/-- The registers of the power page, part 2 (R239). -/
def pwrRegs1 : List RegSpec := [
  ⟨0x150, false, [⟨7, 0, .ro, 0⟩]⟩,
  ⟨0x154, false, [⟨31, 16, .ro, 0⟩, ⟨15, 0, .ro, 0⟩]⟩,
  ⟨0x160, false, [⟨15, 0, .rw, 0⟩]⟩,
  ⟨0x164, false, [⟨6, 4, .ro, 1⟩, ⟨2, 0, .ro, 1⟩]⟩,
  ⟨0x170, false, [⟨11, 4, .rw, 0⟩, ⟨3, 0, .rw, 0⟩]⟩,
  ⟨0x174, false, [⟨31, 0, .s, 0⟩]⟩,
  ⟨0x180, true, [⟨63, 0, .ro, 0⟩]⟩,
  ⟨0x188, true, [⟨63, 0, .ro, 0⟩]⟩,
  ⟨0x190, true, [⟨63, 0, .ro, 0⟩]⟩,
  ⟨0x198, true, [⟨63, 0, .ro, 0⟩]⟩]

/-- All block-specific registers of the power page and its always-on counters. -/
def pwrRegs : List RegSpec := pwrRegs0 ++ pwrRegs1

/-- The registers of the ledger page, part 1 (R262). -/
def ldgRegs0 : List RegSpec := [
  ⟨0x040, true, [⟨63, 0, .ro, 0⟩]⟩,
  ⟨0x048, true, [⟨63, 0, .ro, 0⟩]⟩,
  ⟨0x050, true, [⟨63, 0, .ro, 0⟩]⟩,
  ⟨0x058, true, [⟨63, 0, .ro, 0⟩]⟩,
  ⟨0x060, true, [⟨63, 0, .ro, 0⟩]⟩,
  ⟨0x068, true, [⟨63, 0, .ro, 0⟩]⟩,
  ⟨0x070, true, [⟨63, 0, .ro, 0⟩]⟩,
  ⟨0x078, true, [⟨63, 0, .ro, 0⟩]⟩,
  ⟨0x100, false, [⟨31, 31, .w1s, 0⟩, ⟨30, 30, .rw, 1⟩]⟩,
  ⟨0x104, false, [⟨31, 31, .ro, 0⟩, ⟨30, 30, .ro, 0⟩, ⟨29, 29, .ro, 0⟩, ⟨28, 28, .w1c, 0⟩, ⟨27, 27, .ro, 0⟩, ⟨26, 26, .ro, 0⟩, ⟨13, 0, .ro, 0⟩]⟩,
  ⟨0x108, false, [⟨31, 31, .rw, 0⟩, ⟨4, 0, .rw, 13⟩]⟩,
  ⟨0x110, true, [⟨63, 0, .rw, 0⟩]⟩,
  ⟨0x118, false, [⟨31, 0, .ro, 0⟩]⟩,
  ⟨0x11C, false, [⟨31, 0, .rw, 0⟩]⟩,
  ⟨0x120, false, [⟨2, 0, .rw, 0⟩]⟩,
  ⟨0x124, false, [⟨31, 31, .rw, 0⟩, ⟨25, 24, .rw, 0⟩, ⟨23, 16, .rw, 0⟩, ⟨6, 0, .rw, 0⟩]⟩,
  ⟨0x130, false, [⟨1, 0, .rw, 0⟩]⟩,
  ⟨0x134, false, [⟨31, 0, .ro, 16777216⟩]⟩,
  ⟨0x138, true, [⟨63, 0, .ro, 0⟩]⟩,
  ⟨0x140, true, [⟨63, 0, .ro, 0⟩]⟩,
  ⟨0x148, true, [⟨63, 0, .ro, 0⟩]⟩,
  ⟨0x150, true, [⟨63, 0, .s, 0⟩]⟩,
  ⟨0x158, true, [⟨63, 0, .s, 0⟩]⟩,
  ⟨0x160, true, [⟨63, 0, .ro, 0⟩]⟩]

/-- All block-specific registers of the ledger page and its always-on counters. -/
def ldgRegs : List RegSpec := ldgRegs0

/-- The registers of the sync page (less its object window), part 1 (R183, R184). -/
def syncRegs0 : List RegSpec := [
  ⟨0x040, true, [⟨63, 0, .ro, 0⟩]⟩,
  ⟨0x048, true, [⟨63, 0, .ro, 0⟩]⟩,
  ⟨0x050, true, [⟨63, 0, .ro, 0⟩]⟩,
  ⟨0x058, true, [⟨63, 0, .ro, 0⟩]⟩,
  ⟨0x060, true, [⟨63, 0, .ro, 0⟩]⟩,
  ⟨0x068, true, [⟨63, 0, .ro, 0⟩]⟩,
  ⟨0x070, true, [⟨63, 0, .ro, 0⟩]⟩,
  ⟨0x078, true, [⟨63, 0, .ro, 0⟩]⟩,
  ⟨0x100, false, [⟨15, 0, .rw, 0⟩]⟩,
  ⟨0x104, false, [⟨10, 0, .ro, 0⟩]⟩]

/-- All block-specific registers of the sync page (less its object window) and its always-on counters. -/
def syncRegs : List RegSpec := syncRegs0

/-- The registers of the PCI page, part 1 (R324). -/
def pciRegs0 : List RegSpec := [
  ⟨0x040, true, [⟨63, 0, .ro, 0⟩]⟩,
  ⟨0x048, true, [⟨63, 0, .ro, 0⟩]⟩,
  ⟨0x050, true, [⟨63, 0, .ro, 0⟩]⟩,
  ⟨0x058, true, [⟨63, 0, .ro, 0⟩]⟩,
  ⟨0x060, true, [⟨63, 0, .ro, 0⟩]⟩,
  ⟨0x068, true, [⟨63, 0, .ro, 0⟩]⟩,
  ⟨0x070, true, [⟨63, 0, .ro, 0⟩]⟩,
  ⟨0x078, true, [⟨63, 0, .ro, 0⟩]⟩,
  ⟨0x100, false, [⟨31, 16, .ro, 0⟩, ⟨8, 8, .ro, 0⟩, ⟨7, 5, .ro, 0⟩, ⟨4, 0, .ro, 0⟩]⟩,
  ⟨0x104, false, [⟨3, 0, .rw, 0⟩]⟩,
  ⟨0x108, false, [⟨31, 21, .rw, 0⟩, ⟨20, 9, .rw, 2048⟩]⟩,
  ⟨0x10C, false, [⟨1, 0, .ro, 0⟩]⟩,
  ⟨0x110, false, [⟨3, 0, .rw, 0⟩]⟩,
  ⟨0x114, false, [⟨31, 31, .rw, 1⟩, ⟨7, 0, .rw, 0⟩]⟩,
  ⟨0x118, false, [⟨31, 31, .rw, 0⟩, ⟨23, 12, .rw, 0⟩, ⟨10, 0, .rw, 0⟩]⟩,
  ⟨0x11C, false, [⟨31, 31, .rw, 0⟩, ⟨23, 12, .rw, 0⟩, ⟨10, 0, .rw, 0⟩]⟩,
  ⟨0x120, false, [⟨31, 31, .rw, 0⟩, ⟨23, 12, .rw, 0⟩, ⟨10, 0, .rw, 0⟩]⟩,
  ⟨0x124, false, [⟨31, 31, .rw, 0⟩, ⟨23, 12, .rw, 0⟩, ⟨10, 0, .rw, 0⟩]⟩,
  ⟨0x130, false, [⟨15, 0, .rw, 0⟩]⟩,
  ⟨0x134, false, [⟨31, 31, .rw, 0⟩, ⟨30, 30, .rw, 0⟩, ⟨10, 0, .rw, 0⟩]⟩,
  ⟨0x138, true, [⟨63, 0, .rw, 0⟩]⟩,
  ⟨0x140, false, [⟨31, 0, .ro, 0⟩]⟩,
  ⟨0x150, false, [⟨4, 0, .rw, 0⟩]⟩,
  ⟨0x154, false, [⟨31, 31, .rw, 0⟩, ⟨8, 0, .rw, 0⟩]⟩]

/-- The registers of the PCI page, part 2 (R324). -/
def pciRegs1 : List RegSpec := [
  ⟨0x160, true, [⟨63, 0, .ro, 0⟩]⟩]

/-- All block-specific registers of the PCI page and its always-on counters. -/
def pciRegs : List RegSpec := pciRegs0 ++ pciRegs1

/-- The registers of the Loom page, part 1 (R43, R44, R45, R64, R82, R91, R103, R119). -/
def loomRegs0 : List RegSpec := [
  ⟨0x040, true, [⟨63, 0, .ro, 0⟩]⟩,
  ⟨0x048, true, [⟨63, 0, .ro, 0⟩]⟩,
  ⟨0x050, true, [⟨63, 0, .ro, 0⟩]⟩,
  ⟨0x058, true, [⟨63, 0, .ro, 0⟩]⟩,
  ⟨0x060, true, [⟨63, 0, .ro, 0⟩]⟩,
  ⟨0x068, true, [⟨63, 0, .ro, 0⟩]⟩,
  ⟨0x070, true, [⟨63, 0, .ro, 0⟩]⟩,
  ⟨0x078, true, [⟨63, 0, .ro, 0⟩]⟩,
  ⟨0x100, false, [⟨26, 21, .s, 0⟩, ⟨20, 16, .s, 0⟩, ⟨9, 0, .s, 0⟩]⟩,
  ⟨0x108, false, [⟨11, 0, .ro, 0⟩]⟩,
  ⟨0x110, false, [⟨6, 0, .ro, 0⟩]⟩,
  ⟨0x114, false, [⟨31, 31, .rw, 0⟩, ⟨30, 16, .rw, 2000⟩, ⟨15, 0, .rw, 1000⟩]⟩,
  ⟨0x118, false, [⟨31, 20, .rw, 0⟩, ⟨19, 0, .rw, 0⟩]⟩,
  ⟨0x120, false, [⟨31, 0, .s, 0⟩]⟩,
  ⟨0x124, false, [⟨15, 0, .s, 0⟩]⟩,
  ⟨0x128, false, [⟨31, 0, .s, 0⟩]⟩,
  ⟨0x12C, false, [⟨31, 0, .s, 0⟩]⟩,
  ⟨0x130, false, [⟨31, 0, .s, 0⟩]⟩,
  ⟨0x134, false, [⟨31, 0, .s, 0⟩]⟩,
  ⟨0x140, false, [⟨8, 0, .rw, 0⟩]⟩,
  ⟨0x144, false, [⟨25, 16, .s, 0⟩, ⟨9, 0, .s, 0⟩]⟩,
  ⟨0x150, false, [⟨1, 1, .w1c, 0⟩, ⟨0, 0, .w1c, 0⟩]⟩,
  ⟨0x154, false, [⟨31, 0, .rw, 925353388⟩]⟩,
  ⟨0x158, true, [⟨63, 0, .ro, 0⟩]⟩]

/-- The registers of the Loom page, part 2 (R43, R44, R45, R64, R82, R91, R103, R119). -/
def loomRegs1 : List RegSpec := [
  ⟨0x160, true, [⟨63, 0, .ro, 0⟩]⟩,
  ⟨0x170, false, [⟨5, 0, .rw, 0⟩]⟩,
  ⟨0x174, false, [⟨31, 31, .rw, 0⟩, ⟨30, 30, .rw, 0⟩, ⟨29, 29, .w1s, 0⟩, ⟨28, 28, .ro, 0⟩, ⟨15, 0, .ro, 0⟩]⟩,
  ⟨0x178, false, [⟨19, 0, .rw, 0⟩]⟩,
  ⟨0x17C, false, [⟨20, 0, .rw, 0⟩]⟩,
  ⟨0x180, false, [⟨19, 0, .rw, 0⟩]⟩,
  ⟨0x184, false, [⟨20, 0, .rw, 0⟩]⟩,
  ⟨0x188, true, [⟨63, 0, .ro, 0⟩]⟩,
  ⟨0x190, false, [⟨23, 16, .rw, 64⟩, ⟨11, 0, .rw, 3968⟩]⟩,
  ⟨0x198, true, [⟨63, 0, .ro, 0⟩]⟩]

/-- All block-specific registers of the Loom page and its always-on counters. -/
def loomRegs : List RegSpec := loomRegs0 ++ loomRegs1

/-- The registers of the panel page, part 1 (R65, R66). -/
def pnlRegs0 : List RegSpec := [
  ⟨0x040, true, [⟨63, 0, .ro, 0⟩]⟩,
  ⟨0x048, true, [⟨63, 0, .ro, 0⟩]⟩,
  ⟨0x050, true, [⟨63, 0, .ro, 0⟩]⟩,
  ⟨0x058, true, [⟨63, 0, .ro, 0⟩]⟩,
  ⟨0x060, true, [⟨63, 0, .ro, 0⟩]⟩,
  ⟨0x068, true, [⟨63, 0, .ro, 0⟩]⟩,
  ⟨0x070, true, [⟨63, 0, .ro, 0⟩]⟩,
  ⟨0x078, true, [⟨63, 0, .ro, 0⟩]⟩,
  ⟨0x100, false, [⟨23, 16, .s, 0⟩, ⟨8, 0, .s, 0⟩]⟩,
  ⟨0x104, false, [⟨2, 0, .s, 0⟩]⟩,
  ⟨0x108, false, [⟨0, 0, .w1s, 0⟩]⟩,
  ⟨0x10C, false, [⟨13, 0, .rw, 8⟩]⟩,
  ⟨0x110, false, [⟨31, 29, .ro, 0⟩, ⟨28, 19, .ro, 0⟩, ⟨18, 11, .ro, 0⟩]⟩]

/-- All block-specific registers of the panel page and its always-on counters. -/
def pnlRegs : List RegSpec := pnlRegs0

/-- The registers of the Retriever page, part 1 (R141). -/
def rtvRegs0 : List RegSpec := [
  ⟨0x040, true, [⟨63, 0, .ro, 0⟩]⟩,
  ⟨0x048, true, [⟨63, 0, .ro, 0⟩]⟩,
  ⟨0x050, true, [⟨63, 0, .ro, 0⟩]⟩,
  ⟨0x058, true, [⟨63, 0, .ro, 0⟩]⟩,
  ⟨0x060, true, [⟨63, 0, .ro, 0⟩]⟩,
  ⟨0x068, true, [⟨63, 0, .ro, 0⟩]⟩,
  ⟨0x070, true, [⟨63, 0, .ro, 0⟩]⟩,
  ⟨0x078, true, [⟨63, 0, .ro, 0⟩]⟩,
  ⟨0x100, false, [⟨27, 16, .ro, 0⟩, ⟨11, 0, .ro, 2048⟩]⟩,
  ⟨0x104, false, [⟨5, 0, .rw, 0⟩]⟩,
  ⟨0x108, false, [⟨31, 31, .w1s, 0⟩, ⟨30, 30, .w1s, 0⟩, ⟨17, 16, .ro, 0⟩, ⟨15, 0, .rw, 0⟩]⟩,
  ⟨0x10C, false, [⟨7, 0, .ro, 0⟩]⟩,
  ⟨0x140, false, [⟨31, 0, .rw, 0⟩]⟩,
  ⟨0x144, false, [⟨31, 0, .rw, 0⟩]⟩,
  ⟨0x148, false, [⟨31, 0, .rw, 0⟩]⟩,
  ⟨0x14C, false, [⟨31, 0, .rw, 0⟩]⟩,
  ⟨0x150, false, [⟨31, 0, .rw, 0⟩]⟩,
  ⟨0x154, false, [⟨31, 0, .rw, 0⟩]⟩,
  ⟨0x158, false, [⟨31, 0, .rw, 0⟩]⟩,
  ⟨0x15C, false, [⟨31, 0, .rw, 0⟩]⟩,
  ⟨0x160, false, [⟨31, 0, .rw, 0⟩]⟩,
  ⟨0x164, false, [⟨31, 0, .rw, 0⟩]⟩,
  ⟨0x168, false, [⟨31, 0, .rw, 0⟩]⟩,
  ⟨0x16C, false, [⟨31, 0, .rw, 0⟩]⟩]

/-- The registers of the Retriever page, part 2 (R141). -/
def rtvRegs1 : List RegSpec := [
  ⟨0x170, false, [⟨31, 0, .rw, 0⟩]⟩,
  ⟨0x174, false, [⟨31, 0, .rw, 0⟩]⟩,
  ⟨0x178, false, [⟨31, 0, .rw, 0⟩]⟩,
  ⟨0x17C, false, [⟨31, 0, .rw, 0⟩]⟩,
  ⟨0x180, false, [⟨2, 0, .rw, 0⟩]⟩,
  ⟨0x184, false, [⟨31, 31, .rw, 0⟩, ⟨30, 30, .rw, 0⟩, ⟨29, 27, .rw, 0⟩, ⟨26, 21, .rw, 6⟩, ⟨15, 0, .rw, 65535⟩]⟩,
  ⟨0x188, false, [⟨19, 0, .rw, 0⟩]⟩,
  ⟨0x18C, false, [⟨20, 0, .rw, 0⟩]⟩,
  ⟨0x190, true, [⟨63, 0, .rw, 0⟩]⟩,
  ⟨0x198, true, [⟨63, 0, .rw, 0⟩]⟩,
  ⟨0x1A0, false, [⟨31, 0, .ro, 0⟩]⟩,
  ⟨0x1A4, false, [⟨31, 0, .rw, 0⟩]⟩,
  ⟨0x1A8, false, [⟨31, 31, .w1s, 0⟩, ⟨13, 0, .rw, 100⟩]⟩,
  ⟨0x1AC, false, [⟨10, 4, .ro, 0⟩, ⟨3, 0, .ro, 0⟩]⟩]

/-- All block-specific registers of the Retriever page and its always-on counters. -/
def rtvRegs : List RegSpec := rtvRegs0 ++ rtvRegs1

/-- The registers of the HBM stack page, part 1 (R162). -/
def stackRegs0 : List RegSpec := [
  ⟨0x040, true, [⟨63, 0, .ro, 0⟩]⟩,
  ⟨0x048, true, [⟨63, 0, .ro, 0⟩]⟩,
  ⟨0x050, true, [⟨63, 0, .ro, 0⟩]⟩,
  ⟨0x058, true, [⟨63, 0, .ro, 0⟩]⟩,
  ⟨0x060, true, [⟨63, 0, .ro, 0⟩]⟩,
  ⟨0x068, true, [⟨63, 0, .ro, 0⟩]⟩,
  ⟨0x070, true, [⟨63, 0, .ro, 0⟩]⟩,
  ⟨0x078, true, [⟨63, 0, .ro, 0⟩]⟩,
  ⟨0x100, false, [⟨31, 31, .s, 0⟩, ⟨30, 30, .s, 0⟩, ⟨29, 29, .s, 0⟩, ⟨28, 28, .ro, 0⟩, ⟨23, 16, .s, 0⟩, ⟨15, 8, .ro, 0⟩, ⟨2, 0, .ro, 0⟩]⟩,
  ⟨0x104, false, [⟨31, 31, .w1s, 0⟩, ⟨7, 0, .ro, 0⟩]⟩,
  ⟨0x108, false, [⟨31, 31, .w1c, 0⟩, ⟨30, 28, .ro, 0⟩, ⟨27, 27, .ro, 0⟩]⟩,
  ⟨0x10C, false, [⟨7, 0, .rw, 24⟩]⟩,
  ⟨0x110, true, [⟨63, 0, .ro, 0⟩]⟩]

/-- All block-specific registers of the HBM stack page and its always-on counters. -/
def stackRegs : List RegSpec := stackRegs0

/-- The registers of the HBM die map page, part 1 (R163). -/
def dmapRegs0 : List RegSpec := [
  ⟨0x100, false, [⟨2, 0, .rw, 0⟩]⟩,
  ⟨0x104, false, [⟨31, 31, .rw, 0⟩, ⟨18, 9, .rw, 0⟩, ⟨8, 0, .rw, 0⟩]⟩,
  ⟨0x108, false, [⟨15, 0, .s, 0⟩]⟩]

/-- All block-specific registers of the HBM die map page and its always-on counters. -/
def dmapRegs : List RegSpec := dmapRegs0

/-- The registers of the pack-link port page, part 1 (R287). -/
def portRegs0 : List RegSpec := [
  ⟨0x040, true, [⟨63, 0, .ro, 0⟩]⟩,
  ⟨0x048, true, [⟨63, 0, .ro, 0⟩]⟩,
  ⟨0x050, true, [⟨63, 0, .ro, 0⟩]⟩,
  ⟨0x058, true, [⟨63, 0, .ro, 0⟩]⟩,
  ⟨0x060, true, [⟨63, 0, .ro, 0⟩]⟩,
  ⟨0x068, true, [⟨63, 0, .ro, 0⟩]⟩,
  ⟨0x070, true, [⟨63, 0, .ro, 0⟩]⟩,
  ⟨0x078, true, [⟨63, 0, .ro, 0⟩]⟩,
  ⟨0x100, false, [⟨31, 31, .rw, 1⟩, ⟨30, 30, .w1s, 0⟩]⟩,
  ⟨0x104, false, [⟨31, 30, .ro, 0⟩, ⟨29, 29, .ro, 0⟩, ⟨28, 28, .ro, 0⟩, ⟨25, 16, .ro, 0⟩, ⟨13, 8, .ro, 0⟩]⟩,
  ⟨0x108, false, [⟨31, 31, .ro, 0⟩, ⟨30, 30, .ro, 0⟩, ⟨15, 0, .ro, 0⟩]⟩]

/-- All block-specific registers of the pack-link port page and its always-on counters. -/
def portRegs : List RegSpec := portRegs0

/-- The registers of the pack page, part 1 (R288). -/
def packRegs0 : List RegSpec := [
  ⟨0x040, true, [⟨63, 0, .ro, 0⟩]⟩,
  ⟨0x048, true, [⟨63, 0, .ro, 0⟩]⟩,
  ⟨0x050, true, [⟨63, 0, .ro, 0⟩]⟩,
  ⟨0x058, true, [⟨63, 0, .ro, 0⟩]⟩,
  ⟨0x060, true, [⟨63, 0, .ro, 0⟩]⟩,
  ⟨0x068, true, [⟨63, 0, .ro, 0⟩]⟩,
  ⟨0x070, true, [⟨63, 0, .ro, 0⟩]⟩,
  ⟨0x078, true, [⟨63, 0, .ro, 0⟩]⟩,
  ⟨0x100, false, [⟨31, 30, .ro, 0⟩, ⟨9, 0, .ro, 0⟩]⟩,
  ⟨0x104, false, [⟨31, 0, .ro, 0⟩]⟩,
  ⟨0x108, false, [⟨25, 16, .ro, 0⟩, ⟨15, 15, .rw, 0⟩, ⟨9, 0, .rw, 0⟩]⟩,
  ⟨0x10C, false, [⟨31, 16, .rw, 0⟩, ⟨3, 0, .s, 0⟩]⟩,
  ⟨0x110, false, [⟨31, 31, .ro, 0⟩, ⟨30, 30, .ro, 0⟩, ⟨9, 0, .ro, 0⟩]⟩,
  ⟨0x114, false, [⟨31, 31, .w1s, 0⟩, ⟨30, 30, .w1s, 0⟩, ⟨15, 0, .rw, 100⟩]⟩,
  ⟨0x118, false, [⟨31, 30, .ro, 0⟩, ⟨29, 29, .ro, 0⟩, ⟨15, 0, .ro, 0⟩]⟩,
  ⟨0x120, false, [⟨9, 0, .rw, 0⟩]⟩,
  ⟨0x124, false, [⟨31, 31, .ro, 0⟩, ⟨11, 8, .ro, 0⟩, ⟨5, 0, .ro, 0⟩]⟩,
  ⟨0x128, false, [⟨31, 24, .ro, 0⟩, ⟨23, 0, .ro, 0⟩]⟩]

/-- All block-specific registers of the pack page and its always-on counters. -/
def packRegs : List RegSpec := packRegs0
/-- The registers at 0x300 of a page that carries arbiters (R203). -/
def arbRegs : List RegSpec := [
  ⟨0x300, false, [⟨7, 5, .rw, 0⟩, ⟨4, 0, .rw, 0⟩]⟩,
  ⟨0x304, false, [⟨31, 31, .rw, 0⟩, ⟨30, 30, .ro, 0⟩, ⟨7, 0, .ro, 0⟩]⟩,
  ⟨0x308, false, [⟨31, 0, .ro, 0⟩]⟩,
  ⟨0x30C, false, [⟨31, 31, .w1s, 0⟩]⟩,
  ⟨0x310, true, [⟨63, 0, .ro, 0⟩]⟩,
  ⟨0x318, true, [⟨63, 0, .ro, 0⟩]⟩,
  ⟨0x320, true, [⟨63, 0, .ro, 0⟩]⟩]

/-- The ring window at 0x200 of a ring page or VF function page (R88, R122, R204, R240, R261). -/
def ringWindow : List RegSpec := [
  ⟨0x200, false, [⟨31, 30, .rw, 0⟩, ⟨29, 29, .rw, 0⟩, ⟨28, 28, .rw, 0⟩, ⟨27, 25, .rw, 0⟩, ⟨23, 12, .rw, 2⟩, ⟨11, 8, .rw, 0⟩,
    ⟨7, 4, .rw, 0⟩, ⟨3, 0, .rw, 0⟩]⟩,
  ⟨0x204, false, [⟨20, 0, .rw, 1⟩]⟩,
  ⟨0x208, true, [⟨63, 0, .rw, 0⟩]⟩,
  ⟨0x210, false, [⟨31, 0, .ro, 0⟩]⟩,
  ⟨0x214, false, [⟨31, 0, .rw, 0⟩]⟩,
  ⟨0x218, false, [⟨31, 0, .ro, 0⟩]⟩,
  ⟨0x21C, false, [⟨27, 16, .rw, 0⟩, ⟨8, 0, .rw, 16⟩]⟩,
  ⟨0x220, false, [⟨7, 7, .w1s, 0⟩, ⟨6, 6, .w1s, 0⟩, ⟨5, 5, .w1s, 0⟩, ⟨2, 0, .rw, 0⟩]⟩,
  ⟨0x224, false, [⟨31, 20, .ro, 0⟩, ⟨19, 11, .ro, 0⟩, ⟨2, 0, .ro, 0⟩]⟩,
  ⟨0x228, false, [⟨31, 16, .rw, 0⟩, ⟨15, 0, .rw, 0⟩]⟩,
  ⟨0x22C, false, [⟨15, 0, .rw, 1000⟩]⟩,
  ⟨0x230, true, [⟨63, 0, .rw, 0⟩]⟩,
  ⟨0x238, true, [⟨63, 0, .rw, 0⟩]⟩,
  ⟨0x240, false, [⟨31, 31, .w1s, 0⟩, ⟨30, 30, .w1s, 0⟩, ⟨26, 24, .ro, 0⟩, ⟨23, 16, .ro, 0⟩, ⟨3, 0, .rw, 5⟩]⟩,
  ⟨0x244, false, [⟨11, 8, .rw, 0⟩, ⟨7, 4, .rw, 0⟩, ⟨3, 0, .rw, 0⟩]⟩,
  ⟨0x248, false, [⟨31, 0, .rw, 0⟩]⟩,
  ⟨0x24C, false, [⟨31, 0, .rw, 0⟩]⟩,
  ⟨0x250, false, [⟨31, 0, .rw, 0⟩]⟩,
  ⟨0x254, false, [⟨31, 0, .ro, 0⟩]⟩,
  ⟨0x258, true, [⟨63, 0, .ro, 0⟩]⟩,
  ⟨0x260, true, [⟨63, 0, .ro, 0⟩]⟩,
  ⟨0x268, true, [⟨63, 0, .ro, 0⟩]⟩,
  ⟨0x270, false, [⟨31, 31, .ro, 0⟩]⟩,
  ⟨0x274, false, [⟨31, 0, .ro, 0⟩]⟩,
  ⟨0x278, true, [⟨63, 0, .ro, 0⟩]⟩,
  ⟨0x280, true, [⟨63, 0, .ro, 0⟩]⟩,
  ⟨0x288, true, [⟨63, 0, .ro, 0⟩]⟩,
  ⟨0x290, true, [⟨63, 0, .ro, 0⟩]⟩,
  ⟨0x298, true, [⟨63, 0, .ro, 0⟩]⟩]

/-- The sync window, at 0x200 of the sync page and at 0x300 of a VF function page (R183). -/
def syncWindow (base : Nat) : List RegSpec := [
  ⟨base, false, [⟨31, 30, .rw, 0⟩, ⟨29, 29, .rw, 0⟩, ⟨27, 24, .rw, 0⟩, ⟨15, 0, .rw, 0⟩]⟩,
  ⟨base + 0x04, false, [⟨31, 0, .rw, 0⟩]⟩,
  ⟨base + 0x08, false, [⟨31, 16, .ro, 0⟩, ⟨15, 0, .ro, 0⟩]⟩,
  ⟨base + 0x0C, false, [⟨7, 0, .rw, 0⟩]⟩,
  ⟨base + 0x10, false, [⟨31, 31, .w1c, 0⟩, ⟨30, 30, .w1c, 0⟩, ⟨29, 29, .w1c, 0⟩, ⟨28, 28, .w1s, 0⟩, ⟨27, 26, .ro, 0⟩,
    ⟨16, 0, .ro, 0⟩]⟩,
  ⟨base + 0x14, false, [⟨25, 16, .ro, 0⟩, ⟨15, 0, .ro, 0⟩]⟩,
  ⟨base + 0x18, false, [⟨31, 30, .wo, 0⟩, ⟨23, 16, .wo, 0⟩, ⟨15, 0, .wo, 0⟩]⟩]

/-- The common head of a block page (R374 to R376). -/
def headRegs : List RegSpec := [
  ⟨0x000, false, [⟨31, 0, .s, 0⟩]⟩, ⟨0x004, false, [⟨31, 0, .s, 0⟩]⟩, ⟨0x008, false, [⟨31, 0, .s, 0⟩]⟩,
  ⟨0x010, false, []⟩, ⟨0x014, false, [⟨31, 31, .ro, 0⟩, ⟨30, 30, .ro, 0⟩]⟩,
  ⟨0x018, false, [⟨31, 31, .w1c, 0⟩, ⟨30, 30, .w1c, 0⟩, ⟨29, 29, .w1c, 0⟩, ⟨15, 13, .w1c, 0⟩, ⟨12, 2, .w1c, 0⟩]⟩,
  ⟨0x01C, false, [⟨31, 31, .rw, 0⟩, ⟨30, 30, .rw, 0⟩, ⟨29, 29, .rw, 0⟩, ⟨15, 13, .rw, 0⟩, ⟨12, 2, .rw, 0⟩]⟩,
  ⟨0x020, false, [⟨31, 16, .ro, 0⟩, ⟨15, 0, .ro, 0⟩]⟩, ⟨0x024, false, [⟨31, 0, .wo, 0⟩]⟩, ⟨0x028, false, [⟨7, 0, .rw, 0⟩]⟩]

/-- The registers that the function page of a VF shares with the ring, sync and PCI pages (R309). -/
def vfRegs : List RegSpec := [
  ⟨0x100, false, [⟨15, 0, .rw, 0⟩]⟩, ⟨0x104, false, [⟨15, 0, .rw, 0⟩]⟩,
  ⟨0x130, false, [⟨15, 0, .rw, 0⟩]⟩, ⟨0x134, false, [⟨31, 31, .rw, 0⟩, ⟨30, 30, .rw, 0⟩, ⟨10, 0, .rw, 0⟩]⟩,
  ⟨0x138, true, [⟨63, 0, .rw, 0⟩]⟩, ⟨0x140, false, [⟨31, 0, .ro, 0⟩]⟩]

/-- The registers of a page beside its head: region and instance as R384 lists them, 0x40 a VF's function page; none where
no page answers. -/
def pageRegs (region inst : Nat) : Option (List RegSpec) :=
  match region with
  | 0 => if inst = 0 then some (hubRegs ++ arbRegs) else none
  | 1 => if inst = 0 then some rstRegs else none
  | 2 => if inst = 0 then some secRegs else none
  | 3 => if inst = 0 then some monRegs else none
  | 4 => if inst = 0 then some pwrRegs else none
  | 5 => if inst = 0 then some ldgRegs else none
  | 6 => if inst = 0 then some (syncRegs ++ syncWindow 0x200) else none
  | 7 => if inst = 0 then some pciRegs else none
  | 8 => if inst < 8 then some loomRegs else none
  | 9 => if inst < 64 then some pnlRegs else none
  | 10 => if inst < 10 then some rtvRegs else none
  | 11 => if inst < 4 then some (⟨0x100, false, [⟨13, 0, .rw, 0⟩]⟩ :: ringWindow) else none
  | 12 => if inst < 16 then some (stackRegs ++ arbRegs) else if inst < 20 then some dmapRegs else none
  | 13 => if inst < 64 then some (portRegs ++ arbRegs) else if inst = 64 then some packRegs else none
  | 0x40 => if 1 ≤ inst ∧ inst < 16 then some (vfRegs ++ ringWindow ++ syncWindow 0x300) else none
  | _ => none

/-- The BAR0 offset of a page (R384). -/
def pageAddr (region inst : Nat) : Nat := region * 2 ^ 20 + inst * 2 ^ 12

/-- Bases of the pages. -/
def hubPage : Nat := pageAddr 0 0
def rstPage : Nat := pageAddr 1 0
def secPage : Nat := pageAddr 2 0
def monPage : Nat := pageAddr 3 0
def pwrPage : Nat := pageAddr 4 0
def ldgPage : Nat := pageAddr 5 0
def syncPage : Nat := pageAddr 6 0
def pciPage : Nat := pageAddr 7 0
def loomPage (n : Nat) : Nat := pageAddr 8 n
def pnlPage (p : Nat) : Nat := pageAddr 9 p
def rtvPage (n : Nat) : Nat := pageAddr 10 n
def ringPage (die : Nat) : Nat := pageAddr 11 die
def stackPage (st : Nat) : Nat := pageAddr 12 st
def dmapPage (die : Nat) : Nat := pageAddr 12 (16 + die)
def portPage (p : Nat) : Nat := pageAddr 13 p
def packPage : Nat := pageAddr 13 64
def vfPage (f : Nat) : Nat := pageAddr 0x40 f

/-- Region, instance and offset of a BAR0 offset. -/
def regionOf (a : Nat) : Nat := a / 2 ^ 20
def instOf (a : Nat) : Nat := a / 2 ^ 12 % 256
def offOf (a : Nat) : Nat := a % 2 ^ 12

/-- The register at an offset of a page, from a list. -/
def findReg : List RegSpec → Nat → Option RegSpec
  | [], _ => none
  | r :: rest, off => if r.off = off then some r else findReg rest off

/-- The register whose first byte is at a BAR0 offset. -/
def specAt (a : Nat) : Option RegSpec :=
  match pageRegs (regionOf a) (instOf a) with
  | none => none
  | some regs => if offOf a < 0x40 then findReg headRegs (offOf a) else findReg regs (offOf a)

/-- The value that a register's fields spell. -/
def fieldsValue (get : RegField → Nat) : List RegField → Nat
  | [] => 0
  | f :: r => get f % 2 ^ (f.hi + 1 - f.lo) * 2 ^ f.lo + fieldsValue get r

/-- Mask of the bits of the fields with an access type. -/
def accMask (p : RegAcc → Bool) (fs : List RegField) : Nat :=
  fieldsValue (fun f => if p f.acc then 2 ^ (f.hi + 1 - f.lo) - 1 else 0) fs

/-- Reset value of a register (R326), at an index of an indexed register: VEC_COUNT is 2,048 for PF0 alone, ALL is 1 for
partition 0 alone (R324), V_PREF of phase 0 is 0 (R239), and a panel's PNL_CMD_RING names the ring that R66 gives it. -/
def resetValue (idx a : Nat) : Nat :=
  if a = pciPage + 0x108 then (if idx = 0 then 2048 * 2 ^ 9 else 0)
  else if a = pciPage + 0x114 then (if idx = 0 then 2 ^ 31 else 0)
  else if a = pwrPage + 0x120 then 64 * 2 ^ 8
  else if regionOf a = 9 ∧ offOf a = 0x10C then 8 * (instOf a / 8 % 2) + instOf a % 8
  else match specAt a with
    | none => 0
    | some r => fieldsValue RegField.rst r.fields

/-- Key of a stored register. -/
def regKey (idx a : Nat) : Nat := idx * 2 ^ 32 + a

/-- A stored register, at an index of an indexed register. -/
def State.reg (s : State) (idx a : Nat) : Nat :=
  (mget s.regs (regKey idx a) (BitVec.ofNat 64 (resetValue idx a))).toNat

/-- A stored register set, 64 bits. -/
def State.setReg (s : State) (idx a v : Nat) : State :=
  { s with regs := mset s.regs (regKey idx a) (BitVec.ofNat 64 v) (BitVec.ofNat 64 (resetValue idx a)) }

/-- A field of a stored register. -/
def State.fld (s : State) (idx a hi lo : Nat) : Nat := bits (s.reg idx a) hi lo

/-- A field of a stored register set. -/
def State.setFld (s : State) (idx a hi lo v : Nat) : State := s.setReg idx a (putBits (s.reg idx a) hi lo v)

/-- A 64-bit counter advanced; it wraps modulo 2^64 (R359). -/
def State.count (s : State) (idx a n : Nat) : State := s.setReg idx a (s.reg idx a + n)

/-- Whether a register is a selector, of which every requester holds its own copy: its name ends in _SEL, or it is
RING_WIN_SEL, SYNC_WIN_SEL or LOOM_WRT_INDEX (R382). -/
def isSelector (a : Nat) : Bool :=
  let o := offOf a
  match regionOf a with
  | 0 => o == 0x184 || o == 0x204 || o == 0x284 || o == 0x300
  | 1 => o == 0x114 || o == 0x130
  | 4 => o == 0x140 || o == 0x160 || o == 0x170
  | 5 => o == 0x120 || o == 0x130
  | 6 => o == 0x100
  | 7 => o == 0x104 || o == 0x110 || o == 0x130 || o == 0x150
  | 8 => o == 0x170
  | 10 => o == 0x104 || o == 0x180
  | 11 => o == 0x100
  | 12 => (o == 0x300 && instOf a < 16) || (o == 0x100 && 16 ≤ instOf a)
  | 13 => (o == 0x300 && instOf a < 64) || (o == 0x120 && instOf a == 64)
  | 0x40 => o == 0x100 || o == 0x104 || o == 0x130
  | _ => false

/-- A requester's own copy of a selector, or of KEY at 0x028 of a page (R382). -/
def State.sel (s : State) (rq a : Nat) : Nat :=
  (mget s.sels (rq * 2 ^ 32 + a) (BitVec.ofNat 64 (resetValue 0 a))).toNat

/-- A requester's copy set. -/
def State.setSel (s : State) (rq a v : Nat) : State :=
  { s with sels := mset s.sels (rq * 2 ^ 32 + a) (BitVec.ofNat 64 v) (BitVec.ofNat 64 (resetValue 0 a)) }

/-- How many objects a selector can name; larger values make its window read 0 (R383). -/
def windowSize (a : Nat) : Nat :=
  let o := offOf a
  match regionOf a with
  | 0 => if o = 0x184 then 21 else if o = 0x204 then 12 else if o = 0x284 then 64 else 256
  | 1 => 2 ^ 64
  | 4 => if o = 0x140 then 5 else if o = 0x160 then 2 ^ 16 else 2 ^ 12
  | 5 => if o = 0x120 then 8 else 4
  | 6 => 2 ^ 16
  | 7 => if o = 0x150 then 31 else if o = 0x130 then 2 ^ 16 else 16
  | 8 => 64
  | 10 => if o = 0x104 then 64 else 8
  | 11 => 2 ^ 14
  | 12 => if instOf a < 16 then 256 else 8
  | 13 => if instOf a < 64 then 256 else 1024
  | _ => 2 ^ 16

/-- The selector that indexes a register of a page, if one does. -/
def selectorOf (a : Nat) : Option Nat :=
  let o := offOf a
  let at' (sel : Nat) : Option Nat := some (a - o + sel)
  if (regionOf a = 0 ∨ (regionOf a = 12 ∧ instOf a < 16) ∨ (regionOf a = 13 ∧ instOf a < 64)) ∧ 0x304 ≤ o ∧ o < 0x328 then
    at' 0x300
  else match regionOf a with
    | 0 => if 0x190 ≤ o ∧ o < 0x1A0 then at' 0x184 else if 0x208 ≤ o ∧ o < 0x20C then at' 0x204
      else if 0x288 ≤ o ∧ o < 0x2A0 then at' 0x284 else none
    | 1 => if o = 0x118 then at' 0x114 else if 0x140 ≤ o ∧ o < 0x160 then at' 0x130 else none
    | 4 => if 0x144 ≤ o ∧ o < 0x14C then at' 0x140 else if o = 0x164 then at' 0x160 else if o = 0x174 then at' 0x170 else none
    | 5 => if o = 0x124 then at' 0x120 else if 0x134 ≤ o ∧ o < 0x148 then at' 0x130 else none
    | 6 => if 0x200 ≤ o ∧ o < 0x220 then at' 0x100 else none
    | 7 => if o = 0x108 ∨ o = 0x10C then at' 0x104 else if 0x114 ≤ o ∧ o < 0x128 then at' 0x110
      else if 0x134 ≤ o ∧ o < 0x144 then at' 0x130 else if o = 0x154 then at' 0x150 else none
    | 8 => if 0x174 ≤ o ∧ o < 0x188 then at' 0x170 else none
    | 10 => if (0x108 ≤ o ∧ o < 0x110) ∨ (0x140 ≤ o ∧ o < 0x180) then at' 0x104
      else if 0x184 ≤ o ∧ o < 0x1B0 then at' 0x180 else none
    | 11 => if 0x200 ≤ o ∧ o < 0x300 then at' 0x100 else none
    | 12 => if o = 0x104 ∧ 16 ≤ instOf a then at' 0x100 else none
    | 13 => if o = 0x124 ∧ instOf a = 64 then at' 0x120 else none
    | 0x40 => if 0x200 ≤ o ∧ o < 0x300 then at' 0x100 else if 0x300 ≤ o ∧ o < 0x320 then at' 0x104
      else if 0x134 ≤ o ∧ o < 0x144 then at' 0x130 else none
    | _ => none

/-- Always-on counters of a page (R385). -/
def pageCounters (region inst : Nat) : Nat :=
  match region with
  | 0 => 4
  | 2 => 5
  | 11 => 0
  | 12 => if inst < 16 then 8 else 0
  | 0x40 => 0
  | _ => 8

/-- BLOCK_CAP (R375, R385): arbiters, window, keyed and counters. -/
def blockCap (region inst : Nat) : Nat :=
  let arbs := if region = 12 ∧ inst < 16 then 32 else if region = 0 then 8 else if region = 13 ∧ inst < 64 then 1 else 0
  let window := if region = 6 ∨ region = 11 ∨ region = 0x40 then 1 else 0
  arbs * 2 ^ 24 + window * 2 ^ 9 + 2 ^ 8 + pageCounters region inst

/-- BLOCK_ID (R375). -/
def blockId (a : Nat) : Nat := regionOf a * 2 ^ 16 + instOf a

/-- Bits that ERR_STAT defines in a page (R376): bit 13 in the hub and stack pages, bit 14 in stack pages, and bit 6 in
none. -/
def errBits (a : Nat) : Nat :=
  0xE0001FBC + (if regionOf a = 0 then 2 ^ 13 else 0)
    + (if regionOf a = 12 ∧ instOf a < 16 then 2 ^ 13 + 2 ^ 14 else 0)

end Sys2Proof.Machine
end

