-- ==== Sys2Proof/Machine/Ops.lean ====
section
/-! DEFINITION. Sys2Proof/Machine/Ops.lean: the operations that every family of commands shares: interrupts and error
events (R317, R377), trace records (R363), activity (R221, R243), the HBM address map (R146, R147) and memory as the
package's blocks read and write it. -/

namespace Sys2Proof.Machine

open Sys2Proof

/-- What a command answers. -/
abbrev Res := Host.Outcome State Fault Refusal

/-- A command on a unit that the package has. -/
def onUnit (ok : Bool) (t : State) : Res := if ok then .next t else .fault .noSuchUnit

/-! ## Functions and interrupts (R307, R317, R322) -/

/-- A function. -/
def State.fn (s : State) (f : Nat) : Fn := mget s.pci.fns f Fn.zero

/-- A function set. -/
def State.setFn (s : State) (f : Nat) (v : Fn) : State :=
  { s with pci := { s.pci with fns := mset s.pci.fns f v Fn.zero } }

/-- PCI_FN_STATUS.STATE: 0 disabled, 1 ready, 2 draining. A VF is disabled until VF Enable is set. -/
def fnState (s : State) (f : Nat) : Nat :=
  if (s.fn f).draining then 2 else if f = 0 ∨ s.pci.vfEnable then 1 else 0

/-- VEC_COUNT of a function (R324). -/
def vecCount (s : State) (f : Nat) : Nat := s.fld f (pciPage + 0x108) 20 9

/-- Key of the first word of a function's MSI-X table (R309). -/
def msixTable (f : Nat) : Nat := if f = 0 then pageAddr 7 16 else 0x50 * 2 ^ 20 + f * 2 ^ 16

/-- The vector control word of an MSI-X vector; its mask bit is 1 at reset. It is stored inverted in bit 0, so that an
unwritten word reads masked. -/
def vectorMasked (s : State) (f v : Nat) : Bool := !bit (s.reg 0 (msixTable f + 16 * v + 12)) 0

/-- A vector's pending bit set. -/
def setPending (s : State) (f v : Nat) : State :=
  s.setFn f { s.fn f with pending := putRising v (s.fn f).pending }

/-- A message appended to what leaves the package. -/
def State.send (s : State) (m : OutMsg) : State := { s with out := s.out ++ [m] }

/-- An MSI-X message of a function's vector is sent, or sets its pending bit, or is dropped and counted (R317, R322). -/
def sendVector (s : State) (f v : Nat) : State :=
  if (s.fn f).d3hot then setPending s f v
  else if fnState s f ≠ 1 ∨ vecCount s f ≤ v then s.count 0 (pciPage + 0x160) 1
  else if !(s.fn f).msixEn || (s.fn f).fnMask || vectorMasked s f v then setPending s f v
  else s.send (.msix f v)

/-! ## Periods of the hub timer -/

/-- Numbers of the periodic events: the estimate window, the governor's loop, a sample set, the ledger's window, the heartbeat
check of the control cores; the junction sensors of quadrant q, the temperature of stack st. -/
def estimateTimer : Nat := 0
def governorTimer : Nat := 1
def sampleTimer : Nat := 2
def ledgerTimer : Nat := 3
def heartbeatTimer : Nat := 4
def junctionTimer (q : Nat) : Nat := 5 + q
def tempTimer (st : Nat) : Nat := 16 + st

/-- Hub time at which the open period of an event began. -/
def periodStart (s : State) (k : Nat) : Nat := mget s.timers k 0

/-- A period of an event begins at a hub time. -/
def startPeriod (s : State) (k us : Nat) : State := { s with timers := mset s.timers k us 0 }

/-- A periodic event acts once its period of so many microseconds has passed, and the next period follows it; before that the
event has not come (log entry 1). -/
def atPeriod (s : State) (k us : Nat) (act : State → State) : State :=
  if periodStart s k + us ≤ s.hubUs then act (startPeriod s k (periodStart s k + us)) else s

/-- Numbers of the events that repeat after a time of their own: a heartbeat to the pack, a JOIN, training at port p. -/
def packTimer : Nat := 10
def joinTimer : Nat := 11
def trainTimer (p : Nat) : Nat := 32 + p

/-- An event that repeats acts at once the first time, and again when so many microseconds have passed (log entry 1). -/
def repeatAfter (s : State) (k us : Nat) (act : State → State) : State :=
  if periodStart s k ≤ s.hubUs then act (startPeriod s k (s.hubUs + us)) else s

/-! ## Event crossings (R214, R215) -/

/-- Events of a class that have entered its crossing in the present microsecond: at least those that it still holds. -/
def crossHeld (s : State) (cls : Nat) : Nat :=
  let v := mget s.pci.xing cls 0
  if v / 2 ^ 16 = s.hubUs then v % 2 ^ 16 else 0

/-- Whether an event of a class finds four held: never before four have come within the microsecond, and then as `full` says,
or by a free value where no command says it (log entry 81). -/
def crossFull (s : State) (cls : Nat) (full : Option Bool) : Bool :=
  decide (4 ≤ crossHeld s cls) && full.getD (decide (Config.freeNat (2 ^ 65 + s.hubUs) (crossHeld s cls * 4 + cls) % 2 = 1))

/-- An event enters its crossing. -/
def crossEnter (s : State) (cls : Nat) : State :=
  { s with pci := { s.pci with xing := mset s.pci.xing cls (s.hubUs * 2 ^ 16 + min 65535 (crossHeld s cls + 1)) 0 } }

/-- An event that finds four held sets its class bit and is counted (R214, R220). -/
def overrun (s : State) (cls : Nat) : State := (s.setFld 0 (hubPage + 0x180) cls cls 1).count 0 (hubPage + 0x188) 1

/-- An event passes its crossing and acts, or is overrun there (R214). -/
def crossing (s : State) (cls : Nat) (full : Option Bool) (act : State → State) : State :=
  if crossFull s cls full then crossEnter (overrun s cls) cls else act (crossEnter s cls)

/-- A request sets the pending bit of a merging crossing; the receiver takes it (R215). -/
def mergeRequest (s : State) (c : Nat) : State := { s with pci := { s.pci with merging := putRising c s.pci.merging } }
def mergeTake (s : State) (c : Nat) : State := { s with pci := { s.pci with merging := s.pci.merging.filter (· ≠ c) } }

/-- An error event of a partition that has passed its crossing: vector 0 of its function, or of PF0 where the function is
disabled or has no vector (R317). -/
def errVector (s : State) (part : Nat) : State :=
  if (s.fn part).d3hot then setPending s part 0
  else if fnState s part = 0 ∨ vecCount s part = 0 then
    if vecCount s 0 = 0 then s.count 0 (pciPage + 0x160) 1 else sendVector s 0 0
  else sendVector s part 0

/-- An error event of a partition (R214, R317). -/
def errEvent (s : State) (part : Nat) : State := crossing s 1 none fun t => errVector t part

/-! ## Trace records (R361 to R364) -/

/-- A source hands a record of a kind to the trace unit, where the configuration asks for it (R363, R364). -/
def trace (s : State) (source kind status data : Nat) (who : Who) : State :=
  let cfg := s.reg 0 (monPage + 0x140)
  if bit cfg 31 ∧ ¬ s.monitor.stopping ∧ ¬ bit (s.reg 0 (monPage + 0x158)) 31 ∧ bit (bits cfg 8 0) kind ∧
      (¬ bit cfg 27 ∨ who.ring = 0xFFFF ∨ who.filt) then
    let r : TraceRec := ⟨0, source, kind, status, who.ring, who.layer, who.oper, who.seq, data⟩
    { s with monitor := { s.monitor with fly := s.monitor.fly ++ [r] } }
  else s

/-- Whether an entry's layer and operator match the filter (R361). -/
def filterMatch (s : State) (layer oper : Nat) : Bool :=
  let l := s.reg 0 (monPage + 0x100)
  let o := s.reg 0 (monPage + 0x104)
  decide (layer &&& bits l 31 16 = bits l 15 0) && decide (oper &&& bits o 31 16 = bits o 15 0)

/-- A filtered counter advanced for a matching entry (R361, R372). -/
def filterCount (s : State) (filt : Bool) (off n : Nat) : State :=
  if filt ∧ bit (s.reg 0 (monPage + 0x108)) 31 then s.count 0 (monPage + off) n else s

/-! ## Errors (R360, R376, R377) -/

/-- An error sets its ERR_STAT bit in a page. The first one while ERR_STAT reads all zero is captured in ERR_FIRST; a bit
that goes from 0 to 1 makes an ERROR trace record and, unless masked, an error event of the partition. -/
def raiseErr (s : State) (page b : Nat) (who : Who) (part : Nat) : State :=
  let old := s.reg 0 (page + 0x18)
  let new := old ||| 2 ^ b
  let s1 := if old = 0 then s.setReg 0 (page + 0x20) (who.layer * 2 ^ 16 + who.oper) else s
  let s2 := s1.setReg 0 (page + 0x18) new
  if bit old b then s2
  else
    let s3 := trace s2 (blockId page) 4 0 new who
    if bit (s.reg 0 (page + 0x1C)) b then s3 else errEvent s3 part

/-- The partition to which the error events of a page's own refusals go: f for the function page of VF f. -/
def pagePart (page : Nat) : Nat := if regionOf page = 0x40 then instOf page else 0

/-- A write refused in the present state (R376). -/
def errState (s : State) (page : Nat) : State := raiseErr s page 31 Who.none (pagePart page)

/-- A guarded write refused (R380). -/
def errKey (s : State) (page : Nat) : State := raiseErr s page 30 Who.none (pagePart page)

/-- An access that breaks R378. -/
def errAccess (s : State) (page : Nat) : State := raiseErr s page 29 Who.none (pagePart page)

/-! ## Activity (R221, R222, R243, R388) -/

/-- Weight of a class in femtojoules at 0.70 V: the table of R222 for clusters, flash for the others. -/
def weightOf (source cls : Nat) : Nat :=
  if source = 0 then
    match cls with
    | 0 => 45 | 1 => 40 | 2 => 25 | 3 => 52 | 4 => 12 | 5 => 4 | 6 => 28 | 7 => 6 | 8 => 18 | 9 => 3 | 10 => 40000 | _ => 0
  else if source < 112 then Config.weight source cls else 0

/-- Quadrant of an activity source of R388; clusters name theirs. -/
def sourceQuad (source : Nat) : Nat :=
  if source ≤ 8 then (source - 1) / 2
  else if source ≤ 16 then (source - 9) / 2
  else if source ≤ 26 then (if source - 17 < 8 then (source - 17) / 2 else 4)
  else if source ≤ 30 then source - 27
  else if source ≤ 46 then (source - 31) / 4
  else 4

/-- Whether a source runs in a clocked island: HBM controllers and pack-link ports. -/
def sourceClocked (source : Nat) : Bool := decide (31 ≤ source ∧ source ≤ 110)

/-- Voltage code of a quadrant: V = 0.50 V + code × 10 mV. -/
def vcodeOf (s : State) (q : Nat) : Nat := (mget s.power.quads q Quad.zero).vcode

/-- Ledger domain of a class, 0 for the clusters (R242). -/
def domainOf (source cls : Nat) : Nat := if source = 0 then 0 else Config.classDomain source cls % 3

/-- A ring. -/
def State.ring (s : State) (r : Nat) : Ring := mget s.rings r Ring.zero

/-- A ring set. -/
def State.setRing (s : State) (r : Nat) (v : Ring) : State := { s with rings := mset s.rings r v Ring.zero }

/-- The ledger's key for energy that a ring causes now: the ring and its open request, or no ring (R243). -/
def chargeKey (s : State) (ring : Option Nat) : Nat :=
  match ring with
  | none => 0
  | some r => match (s.ring r).req with
    | none => (r + 1) * 2 ^ 40
    | some q => (r + 1) * 2 ^ 40 + q.no

/-- Femtojoules of n events of a class at a voltage code (R221). -/
def eventEnergy (source cls n vcode : Nat) : Nat :=
  let e := n * weightOf source cls
  if sourceClocked source then e else e * ((50 + vcode) * (50 + vcode)) / 4900

/-- n events of a class, caused by a ring or by none (R221, R243). -/
def activityAt (s : State) (quad source cls n : Nat) (ring : Option Nat) : State :=
  let e := eventEnergy source cls n (vcodeOf s quad)
  let k := chargeKey s ring
  let kd := domainOf source cls * 2 ^ 64 + k
  let kq := quad * 2 ^ 64 + k
  let est := mset s.ledger.est kd (mget s.ledger.est kd 0 + e) 0
  let est4 := mset s.ledger.est4 kq (mget s.ledger.est4 kq 0 + e) 0
  let c := (256 * quad + source) * 16 + cls
  { s with ledger := { s.ledger with est := est, est4 := est4 }
           power := { s.power with counts := mset s.power.counts c (mget s.power.counts c 0 + n) 0 } }

/-- Events of a source other than the clusters, in its own quadrant. -/
def activity (s : State) (source cls n : Nat) (ring : Option Nat) : State :=
  activityAt s (sourceQuad source) source cls n ring

/-! ## The HBM address map (R146, R147, R150) -/

/-- A fresh number for free values. -/
def State.fresh (s : State) : State := { s with freeCtr := s.freeCtr + 1 }

/-- A die's sector window that holds a die offset. -/
def inWindow (s : State) (a : Nat) : Bool :=
  let d := a / 2 ^ 39
  let g := a % 2 ^ 39 / 2 ^ 30
  (span 0 8).any fun w =>
    let c := s.reg w (dmapPage d + 0x104)
    bit c 31 && decide (bits c 8 0 ≤ g) && decide (g < bits c 8 0 + bits c 18 9)

/-- fold7 of R147. -/
def fold7 : (fuel : Nat) → Nat → Nat
  | 0, _ => 0
  | fuel + 1, x => if x = 0 then 0 else Nat.xor (x % 128) (fold7 fuel (x / 128))

/-- The selector p of an address: bulk map, or sector map inside a window (R147). -/
def channelSel (sector : Bool) (a : Nat) : Nat :=
  let o := a % 2 ^ 39
  if sector then fold7 6 (o / 32) else fold7 6 (o / 256)

/-- The offset within the pseudo-channel. -/
def channelOffset (sector : Bool) (a : Nat) : Nat :=
  let o := a % 2 ^ 39
  if sector then o / 32 / 128 * 32 + o % 32 else o / 256 / 128 * 256 + o % 256

/-- Stack of an address. -/
def stackOf (s : State) (a : Nat) : Nat := 4 * (a / 2 ^ 39) + channelSel (inWindow s a) a % 4

/-- The address that the other map gives to the place which a map gives to an address (R147): within a granule or sector the
selector and the quotient determine the low seven bits. -/
def otherMap (sector : Bool) (a : Nat) : Nat :=
  let p := channelSel sector a
  let off := channelOffset sector a
  let unit := if sector then 256 else 32
  a / 2 ^ 39 * 2 ^ 39 + (off / unit * 128 + Nat.xor p (fold7 6 (off / unit)) % 128) * unit + off % unit

/-- The address under the present map of the place that an address had while `win` said whether a window held it (R150). -/
def placeNow (s : State) (win : Bool) (a : Nat) : Nat := if inWindow s a = win then a else otherMap win a

/-- Number of the arbiter of an address: stack × 32 + pseudo-channel × 16 + channel. -/
def hbmArb (s : State) (a : Nat) : Nat :=
  let p := channelSel (inWindow s a) a
  32 * (4 * (a / 2 ^ 39) + p % 4) + 16 * (p / 64) + p / 4 % 16

/-- Sectors that an extent touches. -/
def sectorsOf (a n : Nat) : List Nat := if n = 0 then [] else span (a / 32) ((a + n - 1) / 32 - a / 32 + 1)

/-- A failed sector of an access is recorded in the page of its stack (R156). -/
def recordSector (s : State) (a kind : Nat) (patrol : Bool) (who : Who) : State :=
  let page := stackPage (stackOf s a)
  let stat := s.reg 0 (page + 0x108)
  let s1 := if bit stat 31 then s
    else (s.setReg 0 (page + 0x108) (2 ^ 31 + kind * 2 ^ 28 + flag patrol * 2 ^ 27)).setReg 0 (page + 0x110) (a / 32 * 32)
  raiseErr s1 page 14 who 0

/-- An uncorrectable access whose one failed sector at its stack is this one: it is recorded and counted (R156). -/
def hbmEcc (s : State) (a kind : Nat) (patrol : Bool) (who : Who) : State :=
  recordSector (s.count 0 (stackPage (stackOf s a) + 0x58) 1) a kind patrol who

/-- An access ends ECC_UNCORRECTABLE by failures in these sectors, each with its KIND: each is recorded, and each stack that has
one counts the access once (R156). -/
def failAccess (s : State) (who : Who) : (sectors : List (Nat × Nat)) → (counted : List Nat) → State
  | [], _ => s
  | x :: r, counted =>
    let st := stackOf s (32 * x.1)
    if st ∈ counted then failAccess (recordSector s (32 * x.1) x.2 false who) who r counted
    else failAccess (hbmEcc s (32 * x.1) x.2 false who) who r (st :: counted)

/-- A burst of a sector that has failed on its way, with its KIND, as `lost` lists of requests and stacks hold it. -/
def lostKey (x : Nat) (write : Bool) (kind : Nat) : Nat := (2 * x + flag write) * 8 + kind % 8

/-- KIND with which a burst of a sector has failed on its way, 0 where none has (R155). -/
def lostKind (lost : List Nat) (x : Nat) (write : Bool) : Nat :=
  match lost.find? fun k => decide (k / 8 = 2 * x + flag write) with
  | some k => k % 8
  | none => 0

/-! ## Memory as the blocks see it -/

/-- Whether an extent lies in its space: stage memory by Loom × 2^26 + o, within one Loom; HBM within R146. -/
def inSpace (sp a n : Nat) : Bool :=
  if sp = 0 then decide (a < 8 * 2 ^ 26 ∧ a % 2 ^ 26 + n ≤ 2 ^ 26) else decide (a + n ≤ 2 ^ 41)

/-- Whether an address lies in one of `rows` rows of `len` bytes, `stride` apart. -/
def inRows (base stride rows len a : Nat) : Bool :=
  if a < base ∨ rows = 0 then false
  else if stride = 0 then decide (a - base < len)
  else decide (a - base - min ((a - base) / stride) (rows - 1) * stride < len)

/-- Fields of a Retriever descriptor (R125). -/
def descOpcode (b : List Byte) : Nat := field b 0 1
def descFlag (b : List Byte) (i : Nat) : Bool := bit (field b 1 1) i
def descLayer (b : List Byte) : Nat := field b 2 2
def descOper (b : List Byte) : Nat := field b 4 2
def descClass (b : List Byte) : Nat := field b 6 1 % 8
def descSrcSpace (b : List Byte) : Nat := field b 7 1 / 16
def descDstSpace (b : List Byte) : Nat := field b 7 1 % 16
def descSrc (b : List Byte) : Nat := field b 8 8
def descDst (b : List Byte) : Nat := field b 16 8
def descRowBytes (b : List Byte) : Nat := field b 24 4
def descRows (b : List Byte) : Nat := field b 28 4
def descSrcStride (b : List Byte) : Nat := field b 32 4
def descDstStride (b : List Byte) : Nat := field b 36 4
def descTag (b : List Byte) : Nat := field b 40 8
def descRing (b : List Byte) : Nat := field b 48 2
def descDoneSync (b : List Byte) : Nat := field b 50 2
def descPeer (b : List Byte) : Nat := field b 52 2

/-- A started descriptor whose destination, not yet complete, holds an address of a space (R127). -/
def descCovers (s : State) (sp a : Nat) (d : Desc) : Bool :=
  let toRing := descFlag d.bytes 5
  let dsp := if toRing then (if (s.ring (descRing d.bytes)).space = 0 then 0 else 1) else descDstSpace d.bytes
  !d.waiting && decide (dsp = sp) &&
    inRows d.dst (descDstStride d.bytes) (descRows d.bytes) (descRowBytes d.bytes) a

/-- The seed of an undefined byte under a descriptor in flight, if there is one. -/
def flightSeed (s : State) (sp a : Nat) : Option Nat :=
  match (s.rtvs.flatMap fun p => p.2.descs).find? (descCovers s sp a) with
  | none => none
  | some d => some d.seed

/-- A register of a trickle FIFO of a Retriever. -/
def trkReg (s : State) (n f off : Nat) : Nat := s.reg f (rtvPage n + off)

/-- EN, HOST, HOME, DEST_LOG2 and TRK_SYNC of RTV_TRK_CFG. -/
def trkEn (s : State) (n f : Nat) : Bool := bit (trkReg s n f 0x184) 31
def trkHost (s : State) (n f : Nat) : Bool := bit (trkReg s n f 0x184) 30
def trkHome (s : State) (n f : Nat) : Nat := bits (trkReg s n f 0x184) 29 27
def trkLog2 (s : State) (n f : Nat) : Nat := bits (trkReg s n f 0x184) 26 21
def trkSync (s : State) (n f : Nat) : Nat := bits (trkReg s n f 0x184) 15 0

/-- Whether a FIFO's window holds a stage-memory address (R137). -/
def trkCovers (s : State) (a : Nat) (n f : Nat) : Bool :=
  let lo := trkHome s n f * 2 ^ 26 + trkReg s n f 0x188 * 64
  trkEn s n f && decide (lo ≤ a) && decide (a < lo + trkReg s n f 0x18C * 64)

/-- The FIFO whose window holds an address: Retriever × 8 + FIFO. -/
def trickleAt (s : State) (a : Nat) : Option Nat :=
  (span 0 80).find? fun k => trkCovers s a (k / 8) (k % 8)

/-- A byte of stage memory: 0 in the window of a trickle FIFO (R137). -/
def stageByte (s : State) (a : Nat) : Byte := if (trickleAt s a).isSome then 0 else s.stage.read a

/-- A byte of stage memory (space 0) or HBM (space 1) as a block reads it. -/
def State.byteAt (s : State) (sp a : Nat) : Byte :=
  match flightSeed s sp a with
  | some seed => if sp = 0 ∧ (trickleAt s a).isSome then 0 else Config.freeByte seed a
  | none => if sp = 0 then stageByte s a else s.hbm.read a

/-- Bytes from an address on. -/
def State.bytesAt (s : State) (sp a : Nat) : (n : Nat) → List Byte
  | 0 => []
  | n + 1 => s.byteAt sp a :: State.bytesAt s sp (a + 1) n

/-- A panel after reset: with no seam cut, the page of segment 0 is the one panel of its Loom, and it is idle (R55, R65). -/
def panelZero (p : Nat) : Panel := if p % 8 = 0 then { Panel.off with state := .idle } else Panel.off

/-- A panel. -/
def State.panel (s : State) (p : Nat) : Panel := mget s.panels p (panelZero p)

/-- A panel set. -/
def State.setPanel (s : State) (p : Nat) (v : Panel) : State := { s with panels := mset s.panels p v (panelZero p) }

/-- A Retriever. -/
def State.rtv (s : State) (n : Nat) : Retriever := mget s.rtvs n Retriever.zero

/-- A Retriever set. -/
def State.setRtv (s : State) (n : Nat) (v : Retriever) : State := { s with rtvs := mset s.rtvs n v Retriever.zero }

/-- A write into stage memory is noted by every Loom command that runs (R407). -/
def noteRace (s : State) (lo hi : Nat) : State :=
  { s with panels := s.panels.map fun p =>
      (p.1, { p.2 with cmds := p.2.cmds.map fun c => { c with raced := c.raced ++ [(lo, hi)] } }) }

/-- Bytes stored in stage memory by an agent other than a Loom's own fell. -/
def State.stageStore (s : State) (a : Nat) (bs : List Byte) : State :=
  noteRace { s with stage := s.stage.write a bs } a (a + bs.length)

/-- Whether an access of n bytes at a covers a sector whole. -/
def coversSector (a n x : Nat) : Bool := decide (a ≤ 32 * x) && decide (32 * x + 32 ≤ a + n)

/-- The lost bursts of an extent are those of the access that now comes to its own row. -/
def dropLost (s : State) (a n : Nat) (write : Bool) : State :=
  let xs := sectorsOf a n
  { s with stackSet := { s.stackSet with
      lost := s.stackSet.lost.filter fun k => !(decide (k / 8 % 2 = flag write) && decide (k / 16 ∈ xs)) } }

/-- The sectors of a write that change nothing, with their KIND: a partial write to a sector that has failed in storage, which
its read-modify-write needs, and a burst that was lost on its way (R155, R156). -/
def storeFailures (s : State) (lost : List Nat) (a n : Nat) : List (Nat × Nat) :=
  (sectorsOf a n).filterMap fun x =>
    if lostKind lost x true ≠ 0 then some (x, lostKind lost x true)
    else if x ∈ s.stackSet.badSectors ∧ !coversSector a n x then some (x, 1) else none

/-- The sectors of a read that fail, in storage or on their way, with their KIND (R155, R156). -/
def readFailures (s : State) (lost : List Nat) (a n : Nat) : List (Nat × Nat) :=
  (sectorsOf a n).filterMap fun x =>
    if x ∈ s.stackSet.badSectors then some (x, 1)
    else if lostKind lost x false ≠ 0 then some (x, lostKind lost x false) else none

/-- Bytes stored in HBM, sector by sector: a sector covered whole ends its failure, a partial write to a failed sector or one
whose burst was lost changes nothing, and every other sector is written (R156). -/
def hbmSectors (s : State) (lost : List Nat) (a : Nat) (bs : List Byte) : List Nat → State
  | [] => s
  | x :: r =>
    let lo := max a (32 * x)
    let hi := min (a + bs.length) (32 * x + 32)
    let part := (bs.drop (lo - a)).take (hi - lo)
    if lostKind lost x true ≠ 0 then hbmSectors s lost a bs r
    else if x ∈ s.stackSet.badSectors then
      if hi - lo = 32 then
        let left := s.stackSet.badSectors.filter (· ≠ x)
        hbmSectors { s with hbm := s.hbm.write lo part, stackSet := { s.stackSet with badSectors := left } } lost a bs r
      else hbmSectors s lost a bs r
    else hbmSectors { s with hbm := s.hbm.write lo part } lost a bs r

/-! ## Partitions (R307, R308) -/

/-- Whether an extent of a space lies in the memory of a partition. -/
def partReaches (s : State) (part sp a n : Nat) : Bool :=
  let cfg := s.reg part (pciPage + 0x114)
  bit cfg 31 ||
    (if sp = 0 then bit (bits cfg 7 0) (a / 2 ^ 26)
     else (span (a / 2 ^ 30) ((a + n - 1) / 2 ^ 30 + 1 - a / 2 ^ 30)).all fun g => (span 0 4).any fun i =>
       let h := s.reg part (pciPage + 0x118 + 4 * i)
       bit h 31 && decide (bits h 10 0 ≤ g) && decide (g < bits h 10 0 + bits h 23 12))

/-! ## The pack as every block sees it (R268, R271, R280, R288) -/

/-- The number of this device in its pack. -/
def ownMember (s : State) : Nat := s.fld 0 (packPage + 0x100) 9 0

/-- ROLE: 0 isolated, 1 worker, 2 standby, 3 manager. -/
def packRole (s : State) : Nat := s.fld 0 (packPage + 0x100) 31 30

/-- PLK_EPOCH. -/
def packEpoch (s : State) : Nat := s.reg 0 (packPage + 0x104)

/-- The manager member. -/
def packManager (s : State) : Nat := s.fld 0 (packPage + 0x108) 25 16

/-- An arbiter. -/
def State.arb (s : State) (a : Nat) : Arb := mget s.arbs a Arb.zero

/-- An arbiter set. -/
def State.setArb (s : State) (a : Nat) (v : Arb) : State := { s with arbs := mset s.arbs a v Arb.zero }

/-- A request arrives at an arbiter and waits (R185). -/
def arbEnqueue (s : State) (a : Nat) (q : ArbReq) : State :=
  s.setArb a { s.arb a with waiting := (s.arb a).waiting ++ [{ q with since := s.hubUs }] }

/-- A stopped clock starts again and is counted; a stack leaves self-refresh (R218 to R220). -/
def wakeIsland (s : State) (i : Nat) : State :=
  if i ∉ s.power.stopped then s
  else
    let s1 := { s with power := { s.power with stopped := s.power.stopped.filter (· ≠ i) }
                       stackSet := { s.stackSet with selfRefresh := s.stackSet.selfRefresh.filter (· ≠ i) } }
    if i < 21 then s1.count i (hubPage + 0x190) 1 else s1

/-- Working lane groups of a direction of a bridge: 0 from the die to the hub, 1 from the hub (R17). -/
def workingGroups (s : State) (die dir : Nat) : Nat :=
  16 - ((span 0 16).filter fun g => bit (mget s.dies.groupsFailed (2 * die + dir) 0) g).length

/-- Bytes of a set of 64-byte beats on the working lane groups of a direction (R187). -/
def beatSet (s : State) (die dir : Nat) : Nat := 64 * max 1 (workingGroups s die dir)

/-- A packet of `len` bytes at a direction of a die's bridge; the hub, 4, has none (R187). -/
def bridgePacket (s : State) (die dir len input who tag : Nat) (ring : Option Nat) : State :=
  if 4 ≤ die ∨ len = 0 then s
  else arbEnqueue s (512 + 2 * die + dir)
    ⟨input, who, tag, (len + beatSet s die dir - 1) / beatSet s die dir, 0, 0, len, 0, ring, []⟩

/-- Data that go from one die to another, 4 the hub: up the bridge of the first and down the bridge of the second (R14, R16). -/
def crossDies (s : State) (e d len input who tag : Nat) (ring : Option Nat) : State :=
  if e = d then s else bridgePacket (bridgePacket s e 0 len input who tag ring) d 1 len input who tag ring

/-- The die of a Retriever, 4 the hub (R114). -/
def rtvDie (n : Nat) : Nat := if n < 8 then n / 2 else 4

/-- Whether data can go between two dies, 4 the hub: neither bridge has been taken down (R14, R17). -/
def diesMeet (s : State) (e d : Nat) : Bool :=
  decide (e = d) || (decide (e ∉ s.dies.bridgeDown) && decide (d ∉ s.dies.bridgeDown))

/-- Whether a block on a die, 4 the hub, can reach bytes of HBM: no bridge on the way has been taken down, and no stack that holds
them has its controller being reset (R17, R336). -/
def hbmMeets (s : State) (e a len : Nat) : Bool :=
  diesMeet s e (a / 2 ^ 39) && (match s.start.block with
    | some (1, st) => (sectorsOf a len).all fun x => decide (stackOf s (32 * x) ≠ st)
    | _ => true)

/-- An access's pieces at the stacks: granules of 256 bytes at its input, or sectors at input 6 inside a window, but for a
request demoted to input 4 (R147, R151, R187, R196). They wake a stack whose clock is stopped (R218). -/
def hbmPieces : (fuel : Nat) → State → (a len input who tag : Nat) → (demoted : Bool) → (ring : Option Nat) → State
  | 0, s, _, _, _, _, _, _, _ => s
  | fuel + 1, s, a, len, input, who, tag, demoted, ring =>
    if len = 0 then s
    else
      let win := inWindow s a
      let n := min len (if win then 32 - a % 32 else 256 - a % 256)
      let units := (a + n - 1) / 32 - a / 32 + 1
      let q : ArbReq := ⟨if win && !demoted then 6 else input, who, tag, units, 0, 0, n, 0, ring, []⟩
      hbmPieces fuel (arbEnqueue (wakeIsland s (stackOf s a)) (hbmArb s a) q) (a + n) (len - n) input who tag demoted ring

/-- The traffic of an access to HBM by a block on a die, 4 the hub, that is no Retriever request: its place at the bridges and
at the stacks (R149, R151, R189). -/
def hbmTraffic (s : State) (die a len bridgeIn hbmIn who : Nat) (write : Bool) (ring : Option Nat) : State :=
  let d := a / 2 ^ 39
  let s1 := if write then crossDies s die d len bridgeIn who 0 ring else crossDies s d die len bridgeIn who 0 ring
  hbmPieces (len / 32 + 2) s1 a len hbmIn who 0 false ring

/-! ## Transfers at the stacks (R148, R155, R156, R162) -/

/-- A page of a pseudo-channel is used: the bulk pipeline leaves it open, the sector pipeline closes it. Answers the state and
whether it was activated (R148, R151). -/
def usePage (s : State) (a : Nat) (win : Bool) : State × Bool :=
  let p := channelSel win a
  let arb := 32 * (4 * (a / 2 ^ 39) + p % 4) + 16 * (p / 64) + p / 4 % 16
  let page := channelOffset win a / 1024
  let k := arb * 2 ^ 32 + Config.bankOf page % 2 ^ 32
  let hit := decide (mget s.stackSet.openPages k 0 = page + 1) && !win
  ({ s with stackSet := { s.stackSet with openPages := mset s.stackSet.openPages k (if win then 0 else page + 1) 0 } }, !hit)

/-- The bursts of one sector of an access move at its stack: their bytes or sectors, and the page activation, are counted. A
partial write of a sector is a read and a write (R151, R152, R162). -/
def moveSector (s : State) (a : Nat) (win partialWrite : Bool) (ring : Option Nat) : State :=
  let st := 4 * (a / 2 ^ 39) + channelSel win a % 4
  let page := stackPage st
  let (s1, miss) := usePage s a win
  let n := if partialWrite then 2 else 1
  let s2 := if win then s1.count 0 (page + 0x48) 1 else s1.count 0 (page + 0x40) (32 * n)
  let s3 := activity (s2.count 0 (page + 0x70) (flag miss)) (31 + st) (flag win) n ring
  { s3 with stackSet := { s3.stackSet with idleUs := mset s3.stackSet.idleUs (a / 2 ^ 39) 0 0 } }

/-- The bursts of an access of n bytes at a move at the stacks, under the mapping that `win` gives a sector. -/
def moveBursts (s : State) (a n : Nat) (write : Bool) (win : Nat → Bool) (ring : Option Nat) : State :=
  (sectorsOf a n).foldl (fun t x =>
    moveSector t (32 * x) (win (32 * x)) (write && !coversSector a n x) ring) s

/-- A write of bytes to HBM by a block that is no Retriever: its bursts move under the present map, its sectors are stored, and
the failures it meets are recorded as one access's (R155, R156). -/
def State.hbmStore (s : State) (a : Nat) (bs : List Byte) (who : Who) (ring : Option Nat) : State :=
  let lost := s.stackSet.lost
  let t := moveBursts s a bs.length true (inWindow s) ring
  failAccess (dropLost (hbmSectors t lost a bs (sectorsOf a bs.length)) a bs.length true) who
    (storeFailures s lost a bs.length) []

/-- Whether such a write would meet a failure. -/
def hbmStoreFails (s : State) (a n : Nat) : Bool := !(storeFailures s s.stackSet.lost a n).isEmpty

/-- The state after a read of HBM by a block that is no Retriever: its bursts move, and the failures it meets are recorded. The
bytes are those of the state before it. -/
def State.hbmLoad (s : State) (a n : Nat) (who : Who) (ring : Option Nat) : State :=
  failAccess (dropLost (moveBursts s a n false (inWindow s) ring) a n false) who (readFailures s s.stackSet.lost a n) []

/-- Whether such a read meets a failed sector, or has lost a burst. -/
def hbmReadFails (s : State) (a n : Nat) : Bool := !(readFailures s s.stackSet.lost a n).isEmpty

/-- Route of a destination: the egress port, where the table gives one (R279, R288). -/
def routePort (s : State) (dst : Nat) : Option Nat :=
  let v := s.reg dst (packPage + 0x124)
  if bit v 31 then some (bits v 5 0) else none

/-- Virtual channel of a message kind: 0 request, 1 response, 2 sync, 3 management (R265, R268). -/
def kindVc : PackKind → Nat
  | .peerRequest => 0
  | .peerResponse => 1
  | .signal => 2
  | .arrive => 2
  | .subscribe => 2
  | .push => 2
  | .forward => 2
  | .syncReply => 2
  | _ => 3

/-- Arbiter input of a virtual channel at a port: sync 7, management 6; a request without a CLASS of its own, such as one that is
forwarded for another member, 5 (R189, log entry 90). -/
def vcInput (vc : Nat) : Nat := if vc = 2 then 7 else if vc = 3 then 6 else 5

/-- A number for each kind of message, under which Config gives its KIND and its payload (R268). -/
def PackKind.code : PackKind → Nat
  | .heartbeat => 0
  | .portDown => 1
  | .lost => 2
  | .takeover => 3
  | .takeoverAccept => 4
  | .takeoverRefuse => 5
  | .join => 6
  | .joinReply => 7
  | .routeTable => 8
  | .mseqAck => 9
  | .lossScale => 10
  | .peerRequest => 11
  | .peerResponse => 12
  | .stop => 13
  | .resume => 14
  | .cut => 15
  | .swatch => 16
  | .swatchDone => 17
  | .restore => 18
  | .restored => 19
  | .fill => 20
  | .signal => 21
  | .arrive => 22
  | .subscribe => 23
  | .push => 24
  | .forward => 25
  | .syncReply => 26
  | .reset => 27

/-- Payload bytes of a message: at least 1, as many as nine flits hold beside the header, and for a HEARTBEAT as many as one does
(R268, R272). -/
def msgPayload (k : PackKind) (args : List Nat) : List Byte :=
  match (Config.msgBody k.code args).take (if k = .heartbeat then 232 else 2216) with
  | [] => [0]
  | bs => bs

/-- A message: its header of 16 bytes, then its payload (R268). MSEQ is 0 on the request and response channels. -/
def msgBytes (s : State) (m : PackMsg) : List Byte :=
  let body := msgPayload m.kind m.args
  leBytes 2 m.dst ++ leBytes 2 (ownMember s) ++ leBytes 1 (Config.msgKind m.kind.code) ++ leBytes 1 ((16 + body.length + 247) / 248) ++
    leBytes 2 body.length ++ leBytes 4 m.epoch ++ leBytes 4 (if kindVc m.kind < 2 then 0 else m.mseq) ++ body

/-- A message waits at the egress of the port that its route names, one unit for each flit (R187, R268). -/
def queueBytes (s : State) (dst vc input tag : Nat) (ring : Option Nat) (bs : List Byte) : State :=
  match routePort s dst with
  | none => s
  | some p => arbEnqueue s (520 + p) ⟨input, vc, tag, (bs.length + 247) / 248, 0, vc, 256 * ((bs.length + 247) / 248), 0, ring, bs⟩

/-- Whether messages of a kind carry MSEQ and are acknowledged: those of the sync and management channels (R280). -/
def kindSequenced : PackKind → Bool
  | .mseqAck => false
  | .peerRequest => false
  | .peerResponse => false
  | _ => true

/-- A message sent to another member at an arbiter input, for a Retriever request or for none: the next MSEQ of that destination,
kept until it is acknowledged (R268, R280). -/
def sendMsgAt (s : State) (kind : PackKind) (dst : Nat) (args : List Nat) (input tag : Nat) (ring : Option Nat) : State :=
  let n := mget s.pack.mseqOut dst 0
  if kindSequenced kind then
    let m : PackMsg := ⟨kind, dst, packEpoch s, n, args, routePort s dst⟩
    let outs := mset s.pack.mseqOut dst (add32 n 1) 0
    queueBytes { s with pack := { s.pack with out := s.pack.out ++ [m], unacked := s.pack.unacked ++ [m], mseqOut := outs } }
      dst (kindVc kind) input tag ring (msgBytes s m)
  else
    let m : PackMsg := ⟨kind, dst, packEpoch s, 0, args, routePort s dst⟩
    queueBytes { s with pack := { s.pack with out := s.pack.out ++ [m] } } dst (kindVc kind) input tag ring (msgBytes s m)

/-- A message at the input of its virtual channel. -/
def sendMsg (s : State) (kind : PackKind) (dst : Nat) (args : List Nat) : State :=
  sendMsgAt s kind dst args (vcInput (kindVc kind)) 0 none

end Sys2Proof.Machine
end

