-- ==== Sys2Proof/Machine/Adm.lean ====
section
/-! DEFINITION. Sys2Proof/Machine/Adm.lean: the admission unit (R192 to R205). Rates are in 10^6 B/s and times in ns, as exact
fractions. -/

namespace Sys2Proof.Machine

open Sys2Proof

/-! ## Capacities (R193, R208) -/

/-- Step rate at 105 °C at 0.50 V + code × 10 mV, in 10^5 steps/s: the table of R208 and its interpolation. -/
def rate105 (code : Nat) : Nat :=
  if code ≤ 10 then 4000 + 220 * code
  else if code ≤ 20 then 6200 + 190 * (code - 10)
  else 8100 + 130 * (code - 20)

/-- VMIN of HUB_ADM_CFG. -/
def admVmin (s : State) : Nat := s.fld 0 (hubPage + 0x200) 4 0

/-- HOLD and SUSPENDED of HUB_ADM_CFG. -/
def admHold (s : State) : Bool := bit (s.reg 0 (hubPage + 0x200)) 31
def admSuspended (s : State) : Bool := bit (s.reg 0 (hubPage + 0x200)) 30

/-- Failed lane groups of a bridge in the direction of a resource (R17, R193). -/
def failedGroups (s : State) (r : Nat) : Nat := 16 - workingGroups s (r % 4) (if r < 8 then 0 else 1)

/-- What the reference clocks leave of an HBM rate, in thousandths: in CLK_MODE 00 each HBM C_r is lowered by 0.5 % (R402). -/
def hbmClockShare (s : State) : Nat := if s.fld 0 (rstPage + 0x108) 5 4 = 0 then 995 else 1000

/-- C_r: resources 0 to 3 the HBM of a die, 4 to 7 bridges upward, 8 to 11 bridges downward (R193, R402). -/
def admCap (s : State) (r : Nat) : Rat :=
  if r < 4 then
    (((if (span 0 4).any fun i => bit (s.reg 0 (stackPage (4 * r + i) + 0x100)) 30 then 1113600 else 1382400) *
      hbmClockShare s : Nat) : Rat) / 1000
  else (4096 * rate105 (admVmin s) * (16 - failedGroups s r) : Nat) / (160 : Rat) - 102400

/-- Whether a ring's declared path holds a resource. -/
def onPath (R : Ring) (r : Nat) : Bool :=
  if r < 4 then bit R.admDies r else if r < 8 then bit R.admUp (r - 4) else bit R.admDown (r - 8)

/-- w of R194 on a resource, and the input at which a ring counts there. -/
def admWeight (R : Ring) (r : Nat) : Nat := if r < 4 ∧ R.admInput = 6 then 3 else 1
def admInputOn (R : Ring) (r : Nat) : Nat := if r < 4 then R.admInput else 5

/-- Rings in STATE ADMITTED, with their numbers. -/
def admittedRings (s : State) : List (Nat × Ring) := s.rings.filter fun p => p.2.admState == 2

/-- Σ w × ρ of a list of rings on a resource. -/
def rateOn (ks : List (Nat × Ring)) (r : Nat) : Nat :=
  ks.foldl (fun n p => if onPath p.2 r then n + admWeight p.2 r * p.2.admRate else n) 0

/-- Σ w × L of a list of rings on a resource. -/
def bytesOn (ks : List (Nat × Ring)) (r : Nat) : Nat :=
  ks.foldl (fun n p => if onPath p.2 r then n + admWeight p.2 r * p.2.admLargest else n) 0

/-! ## The arithmetic of R194 -/

/-- h of a path in ns. -/
def pathHold (R : Ring) : Nat :=
  let hbm := decide (R.admDies % 16 ≠ 0)
  let brg := decide (R.admUp % 16 ≠ 0 ∨ R.admDown % 16 ≠ 0)
  if hbm then (if brg then 1970 else 1800) else if brg then 650 else 300

/-- bound(j) against a set of other rings, in ns; none where a resource leaves no rate. -/
def admBound (s : State) (others : List (Nat × Ring)) (j : Ring) : Option Rat :=
  (span 0 12).foldl (fun acc r =>
    if !onPath j r then acc
    else
      let ks := others.filter fun p => onPath p.2 r && decide (admInputOn j r ≤ admInputOn p.2 r)
      let room := admCap s r - (rateOn ks r : Nat)
      let u := if r < 4 then 4096 else 1024
      match acc with
      | none => none
      | some d => if room ≤ 0 then none
        else some (d + ((u + admWeight j r * j.admLargest + bytesOn ks r) * 1000 : Nat) / room))
    (some (pathHold j : Nat))

/-- Whether a bound exceeds a limit in ns. -/
def boundOver (b : Option Rat) (limit : Nat) : Bool :=
  match b with
  | none => true
  | some x => decide ((limit : Nat) < x)

/-- Whether two rings share a resource. -/
def sharePath (a b : Ring) : Bool := (span 0 12).any fun r => onPath a r && onPath b r

/-- The decision on ring j: GRANT in ns if it is admitted (R194). -/
def admitRing (s : State) (j : Nat) : Option Nat :=
  let J := s.ring j
  let ks := (admittedRings s).filter fun p => !(p.1 == j)
  let fits := (span 0 12).all fun r => !onPath J r ||
    decide (((admWeight J r * J.admRate + rateOn ks r : Nat) : Rat) ≤ admCap s r)
  let b := admBound s ks J
  let mine := decide (J.admNeed ≠ 0) && boundOver b J.admNeed
  let theirs := ks.any fun k => sharePath k.2 J &&
    boundOver (admBound s ((j, J) :: ks.filter fun p => !(p.1 == k.1)) k.2) k.2.admGrant
  match b with
  | none => none
  | some x =>
    if !fits || mine || theirs then none
    else if J.admNeed ≠ 0 then some J.admNeed
    else
      let g := x.ceil.toNat
      some (if g < 2 ^ 32 then g else Config.freeNat g j % 2 ^ 32)

/-! ## Requests (R192, R197, R199) -/

/-- REQUEST is written for a ring: it waits for the unit, or is refused with STATE_CONFLICT (R192). -/
def admRequest (s : State) (r : Nat) : State :=
  let R := s.ring r
  if R.kind ≠ 1 ∨ R.server ≠ 2 ∨ R.outMode ≠ 1 ∨ (R.admInput ≠ 5 ∧ R.admInput ≠ 6) ∨ R.admState = 1 ∨ R.admState = 2 then
    s.setRing r { R with admStatus := 1 }
  else { s.setRing r { R with admState := 1 } with admQueue := s.admQueue ++ [r] }

/-- RELEASE is written for a ring: it returns to NONE, and its started entries keep the GRANT they started with (R197). -/
def admRelease (s : State) (r : Nat) : State :=
  { s.setRing r { s.ring r with admState := 0, admGrant := 0 } with admQueue := s.admQueue.filter (· ≠ r) }

/-- The unit decides the oldest request; under HOLD it refuses (R194, R199). -/
def admDecide (s : State) : State :=
  match s.admQueue with
  | [] => s
  | r :: rest =>
    let s1 := { s with admQueue := rest }
    let R := s.ring r
    match if admHold s then none else admitRing s r with
    | some g => s1.setRing r { R with admState := 2, admStatus := 0, admGrant := g, bucket := R.admLargest }
    | none => (s1.setRing r { R with admState := 3, admStatus := 9 }).count 0 (hubPage + 0x210) 1

/-- ADMISSION_DECIDE. -/
def execAdmissionDecide (s : State) : Res := .next (admDecide s)

/-- HUB_ADM_RES.CAP and USED (R205). -/
def admResource (s : State) (r : Nat) : Nat :=
  if 12 ≤ r then 0
  else (admCap s r / 1000).floor.toNat * 2 ^ 16 + (rateOn (admittedRings s) r + 999) / 1000 % 2 ^ 16

/-- HUB_ADM_CFG.VMIN written: 0 to 30, only while no ring is admitted (R205); the refusal of 31 is a DESIGN CHOICE (log
entry 102). -/
def writeVmin (s : State) (v : Nat) : State :=
  if admittedRings s ≠ [] ∨ 30 < bits v 4 0 then errState s hubPage else s.setFld 0 (hubPage + 0x200) 4 0 (bits v 4 0)

/-- A microsecond of the hub timer: the buckets of admitted rings, and of rings with entries that started under a bound, refill
at ρ up to L (R196, R197). -/
def bucketTick (s : State) : State :=
  { s with rings := s.rings.map fun p =>
      if p.2.admState = 2 ∨ p.2.fly.any (fun f => decide (f.grant ≠ 0)) then (p.1, { p.2 with bucket := min p.2.admLargest (p.2.bucket + p.2.admRate) }) else p }

end Sys2Proof.Machine
end

