-- ==== Sys2Proof/Machine/Arb.lean ====
section
/-! DEFINITION. Sys2Proof/Machine/Arb.lean: the arbiters of the HBM pseudo-channels, the bridge directions and the
pack-link ports (R185 to R191, R203). -/

namespace Sys2Proof.Machine

open Sys2Proof

/-- Arbiters: 512 of the stacks, 8 of the bridges, 64 of the ports. -/
def arbCount : Nat := 584

/-- The page that carries an arbiter's registers, and its number there (R203). -/
def arbPage (a : Nat) : Nat := if a < 512 then stackPage (a / 32) else if a < 520 then hubPage else portPage (a - 520)
def arbIndex (a : Nat) : Nat := if a < 512 then a % 32 else if a < 520 then a - 512 else 0

/-- The selector value that names an arbiter and an input. -/
def arbSel (a input : Nat) : Nat := input * 32 + arbIndex a

/-- The arbiter of a page that a selector value names. -/
def arbOf (page sel : Nat) : Nat :=
  let i := sel % 32
  if page = hubPage then 512 + i % 8
  else if regionOf page = 12 then 32 * instOf page + i
  else 520 + instOf page

/-- A port's credit for a virtual channel: 128 at reset (R267). -/
def portCredit (P : Port) (vc : Nat) : Nat := mget P.credits vc 128

/-- A port's link state. -/
def State.port (s : State) (p : Nat) : Port := mget s.pack.ports p Port.zero

/-- A port's link state set. -/
def State.setPort (s : State) (p : Nat) (v : Port) : State :=
  { s with pack := { s.pack with ports := mset s.pack.ports p v Port.zero } }

/-- STATE of PLK_PORT_STATUS: 0 disabled, 1 training, 2 up, 3 down (R287). -/
def portState (s : State) (p : Nat) : Nat := s.fld 0 (portPage p + 0x104) 31 30

/-! ## Limiters and the thermal allowance (R159, R190) -/

/-- Resource of an arbiter: 0 a pseudo-channel, 1 a bridge direction, 2 a port's egress. -/
def arbKind (a : Nat) : Nat := if a < 512 then 0 else if a < 520 then 1 else 2

/-- Whether an input of an arbiter passes a limiter: input 7, and the management channel's at the links (R190). -/
def limited (a input : Nat) : Bool := decide (input = 7 ∨ (520 ≤ a ∧ input = 6))

/-- The reserve of R193 in bytes a microsecond: 12.8 GB/s a stack over its 32 pseudo-channels, 102.4 GB/s a bridge direction;
none is stated for the links. -/
def limiterReserve (kind : Nat) : Option Nat := match kind with
  | 0 => some 400
  | 1 => some 102400
  | _ => none

/-- Bytes that a limiter lets through in a microsecond: a value that the spec does not state, at least 1 and below the
reserve (R190, log entry 78). -/
def limiterRate (a input : Nat) : Nat :=
  match limiterReserve (arbKind a) with
  | some r => 1 + Config.limiter (arbKind a) input % (r - 1)
  | none => 1 + Config.limiter (arbKind a) input

/-- Whether a request waits at its limiter: its input has been granted what the limiter gives for now. A request already begun
has passed it. -/
def overLimit (s : State) (a : Nat) (q : ArbReq) : Bool :=
  limited a q.input && decide (q.moved = 0) && decide (limiterRate a q.input ≤ mget (s.arb a).debt q.input 0)

/-- The step at which a stack stands: 4 while its sensor has failed (R158). -/
def stackStep (s : State) (st : Nat) : Nat :=
  let v := s.reg 0 (stackPage st + 0x100)
  if bit v 28 then 4 else bits v 2 0

/-- Whether a pseudo-channel's present command slot is withheld under its stack's allowance: an eighth of the slots for each
step, the last of every eight, so that the lowest inputs lose theirs first (R159, log entry 80). -/
def slotWithheld (s : State) (a : Nat) : Bool := decide (a < 512) && decide (8 ≤ (s.arb a).slot + stackStep s (a / 32))

/-- Whether another message of its virtual channel has begun at a port: its flits go out consecutively on the channel (R268). -/
def channelTaken (s : State) (a : Nat) (q : ArbReq) : Bool :=
  decide (q.moved = 0) && (s.arb a).waiting.any fun x => decide (x.vc = q.vc ∧ x.moved ≠ 0)

/-- Whether a request may be granted at all: a flit needs a port that is up, a credit of its channel, room in the replay buffer
and no other message begun on its channel (R266 to R268), a stack whose clock is stopped or whose controller is being reset
serves none (R217, R335), and a limited input waits at its limiter (R190). -/
def arbServable (s : State) (a : Nat) (q : ArbReq) : Bool :=
  if overLimit s a q then false
  else if 520 ≤ a then
    decide (portState s (a - 520) = 2) && decide (0 < portCredit (s.port (a - 520)) q.vc) &&
      decide ((s.port (a - 520)).replay.length < 256) && !channelTaken s a q
  else if a < 512 then decide (a / 32 ∉ s.power.stopped ∧ s.start.block ≠ some (1, a / 32))
  else true

/-- Requests that an arbiter can grant now. -/
def arbWaiting (s : State) (a : Nat) : List ArbReq := (s.arb a).waiting.filter (arbServable s a)

/-- The highest input with a request that can be granted (R185). -/
def topInput (qs : List ArbReq) : Nat := maxOf (qs.map fun q => q.input + 1)

/-- Distance of a requester number after the last one granted, round-robin (R186). -/
def turnOf (last r : Nat) : Nat := (r + 1024 - (last + 1)) % 1024

/-- Age of a requester at an input (R186). -/
def ageOf (A : Arb) (input requester : Nat) : Nat := mget A.ages (input * 1024 + requester) 0

/-- Whether a request wins over another of its input: the higher age, then the round-robin order. -/
def beats (A : Arb) (a b : ArbReq) : Bool :=
  let x := ageOf A a.input a.requester
  let y := ageOf A b.input b.requester
  let last := mget A.last a.input 1023
  decide (y < x) || (decide (x = y) && decide (turnOf last a.requester ≤ turnOf last b.requester))

/-- The winner among the requests of one input (R186); of one requester's own requests, the earliest. -/
def winner (A : Arb) : List ArbReq → Option ArbReq
  | [] => none
  | q :: r => match winner A r with
    | none => some q
    | some w => if beats A q w then some q else some w

/-- A list without the first element equal to one. -/
def dropOne (q : ArbReq) : List ArbReq → List ArbReq
  | [] => []
  | x :: r => if x = q then r else x :: dropOne q r

/-- Ages after a decision at an input: the winner's is 0, every other waiting requester of the input gains one, up to 15
(R186). -/
def agedAfter (A : Arb) (input requester : Nat) : List ArbReq → SMap Nat
  | [] => mset A.ages (input * 1024 + requester) 0 0
  | q :: r =>
    let m := agedAfter A input requester r
    let k := input * 1024 + q.requester
    if q.input = input ∧ q.requester ≠ requester then mset m k (min 15 (ageOf A input q.requester + 1)) 0 else m

/-- The requests among which the next decision chooses: input 7 alone where the command slot is withheld (R159). -/
def arbCandidates (s : State) (a : Nat) : List ArbReq :=
  if slotWithheld s a then (arbWaiting s a).filter fun q => q.input == 7 else arbWaiting s a

/-- The wait of a granted request in ns: `ns` as far as it agrees with the microseconds of its arrival and of the grant
(R203). -/
def waitNs (s : State) (q : ArbReq) (ns : Nat) : Nat :=
  let d := s.hubUs - q.since
  max ((d - 1) * 1000) (min ns (d * 1000 + 999))

/-- WAIT_MAX of an input takes a wait, saturating (R203). -/
def noteWait (s : State) (a input w : Nat) : State :=
  let r := arbPage a + 0x308
  s.setReg (arbSel a input) r (max (s.reg (arbSel a input) r) (min w (2 ^ 32 - 1)))

/-- A grant decision (R185 to R190): with no unit in service and not frozen, the highest input's winner is served. Its wait
is entered in WAIT_MAX; a command slot passes. -/
def arbGrant (s : State) (a ns : Nat) : State :=
  let A := s.arb a
  let all := arbWaiting s a
  if A.frozen ∨ A.serving.isSome ∨ all = [] then s
  else
    let qs := arbCandidates s a
    let A0 := { A with slot := if a < 512 then (A.slot + 1) % 8 else A.slot }
    let i := topInput qs - 1
    match winner A (qs.filter fun q => q.input == i) with
    | none => s.setArb a A0
    | some w =>
      let ages := agedAfter A i w.requester (qs.filter fun q => q.input == i)
      let debt := if limited a i && decide (w.moved = 0) then mset A.debt i (mget A.debt i 0 + w.bytes) 0 else A.debt
      let A1 := { A0 with waiting := dropOne w A.waiting, serving := some w, ages := ages,
                          last := mset A.last i w.requester 1023, granted := putRising i A.granted, debt := debt }
      noteWait ((s.setArb a A1).count (arbSel a i) (arbPage a + 0x310) 1) a i (waitNs s w ns)

/-- Credits that the next flit of a port returns: a virtual channel, the freed flits it names, and the port without them
(R265, R267). -/
def takeCredits (P : Port) : Nat × Nat × Port :=
  match P.freed.find? fun c => decide (0 < c.2) with
  | none => (0, 0, P)
  | some (vc, n) => (vc, min 31 n, { P with freed := mset P.freed vc (n - min 31 n) 0 })

/-- The next flit of a message leaves a port: it takes a credit, a sequence number and a place in the replay buffer (R265 to
R268). -/
def sendFlit (s : State) (p : Nat) (q : ArbReq) : State :=
  let vc := q.vc
  let ring := q.ring
  let (cvc, n, P) := takeCredits (s.port p)
  let f : PortFlit := ⟨1, vc, P.txSeq, P.rxSeq, cvc, n, (q.data.drop (248 * q.moved)).take 248⟩
  let P1 := { P with txSeq := (P.txSeq + 1) % 1024, replay := P.replay ++ [(f, 0)],
                     credits := mset P.credits vc (portCredit P vc - 1) 128 }
  activity (((s.setPort p P1).send (.flit p f)).count 0 (portPage p + 0x40) 1) (47 + p) 0 1 ring

/-- Beats that a unit of service moves at a direction of a bridge: a set on the working groups, the last one what is left
(R187). -/
def unitBeats (s : State) (die dir : Nat) (q : ArbReq) : Nat :=
  min (beatSet s die dir / 64) ((q.bytes + 63) / 64 - q.moved * (beatSet s die dir / 64))

/-- A unit of service completes (R187): the last one ends the request; before that, a higher input that waits takes the
resource and the request keeps its progress and its age, a frozen arbiter saves it, and a message waits that cannot send its next
flit (R266, R267). -/
def arbUnitDone (s : State) (a : Nat) : State :=
  let A := s.arb a
  match A.serving with
  | none => s
  | some q =>
    let q1 := { q with moved := q.moved + 1 }
    let s0 := if 520 ≤ a then sendFlit s (a - 520) q
      else if 512 ≤ a then
        activity s (27 + (a - 512) / 2) 0 (unitBeats s ((a - 512) / 2) ((a - 512) % 2) q) q.ring
      else s
    if q1.units ≤ q1.moved then s0.setArb a { A with serving := none }
    else
      let higher := decide (q1.input + 1 < topInput (arbWaiting s a))
      if higher ∨ A.frozen ∨ (520 ≤ a ∧ ¬ arbServable s0 a q1) then
        let s1 := s0.setArb a { A with serving := none, waiting := { q1 with since := s.hubUs } :: A.waiting }
        if higher then s1.count (arbSel a q1.input) (arbPage a + 0x318) 1 else s1
      else s0.setArb a { A with serving := some q1 }

/-- FREEZE of an arbiter written (R188). -/
def setFreeze (s : State) (a : Nat) (v : Bool) : State := s.setArb a { s.arb a with frozen := v }

/-- WAIT_MAX of the selected input zeroed (R203). -/
def clearWait (s : State) (page sel : Nat) : State := s.setReg sel (page + 0x308) 0

/-- PENDING of P_ARB_CTRL: inputs with a request waiting. -/
def arbPending (A : Arb) : Nat := (span 0 8).foldl (fun v i => v + flag (A.waiting.any fun q => q.input == i) * 2 ^ i) 0

/-- P_ARB_CTRL as it reads (R203). -/
def arbCtrl (A : Arb) : Nat :=
  flag A.frozen * 2 ^ 31 + flag (A.frozen && A.serving.isNone) * 2 ^ 30 + arbPending A

/-- A microsecond of the hub timer: inputs that waited throughout and received no grant count it (R191), and the limiters give
their bytes (R190). -/
def arbTick (s : State) (a : Nat) : State :=
  let A := s.arb a
  let now := (span 0 8).filter fun i => A.waiting.any fun q => q.input == i
  let starved := now.filter fun i => decide (i ∈ A.since) && decide (¬ i ∈ A.granted)
  let s1 := starved.foldl (fun t i => t.count (arbSel a i) (arbPage a + 0x320) 1) s
  let debt := (span 6 2).foldl (fun m i => mset m i (mget m i 0 - limiterRate a i) 0) (s1.arb a).debt
  s1.setArb a { s1.arb a with since := now, granted := [], debt := debt }

/-- Whether a page carries arbiters. -/
def hasArbs (page : Nat) : Bool :=
  decide (page = hubPage ∨ (regionOf page = 12 ∧ instOf page < 16) ∨ (regionOf page = 13 ∧ instOf page < 64)) &&
    decide (offOf page = 0)

/-- ARB_GRANT. -/
def execArbGrant (a ns : Nat) (s : State) : Res := onUnit (decide (a < arbCount)) (arbGrant s a ns)

/-- ARB_UNIT_DONE. -/
def execArbUnitDone (a : Nat) (s : State) : Res := onUnit (decide (a < arbCount)) (arbUnitDone s a)

end Sys2Proof.Machine
end

