-- ==== Sys2Proof/Machine/Sha3.lean ====
section
/-! DEFINITION. Sys2Proof/Machine/Sha3.lean: SHA3-512, the one hash of the device (R345). The manual names FIPS 202 for it:
the sponge and its permutation are PRESUMED from that standard (log entry 7). -/

namespace Sys2Proof.Machine

open Sys2Proof

/-- Keccak's state: lane (x, y) at x + 5y. -/
abbrev Lanes := List Word64

/-- Lane (x, y), both modulo 5. -/
def laneAt (a : Lanes) (x y : Nat) : Word64 := a.getD (x % 5 + 5 * (y % 5)) 0

/-- A state from its lanes. -/
def lanesOf (f : Nat → Nat → Word64) : Lanes := (span 0 25).map fun i => f (i % 5) (i / 5)

/-- Rotation of lane (x, y), at x + 5y. -/
def laneTurns : List Nat :=
  [0, 1, 62, 28, 27, 36, 44, 6, 55, 20, 3, 10, 43, 25, 39, 41, 45, 15, 21, 8, 18, 2, 61, 56, 14]

/-- The constants of the 24 rounds. -/
def roundConstants : List Word64 :=
  [0x0000000000000001, 0x0000000000008082, 0x800000000000808A, 0x8000000080008000, 0x000000000000808B, 0x0000000080000001,
   0x8000000080008081, 0x8000000000008009, 0x000000000000008A, 0x0000000000000088, 0x0000000080008009, 0x000000008000000A] ++
  [0x000000008000808B, 0x800000000000008B, 0x8000000000008089, 0x8000000000008003, 0x8000000000008002, 0x8000000000000080,
   0x000000000000800A, 0x800000008000000A, 0x8000000080008081, 0x8000000000008080, 0x0000000080000001, 0x8000000080008008]

/-- One round: column parities, rotations and the places they move to, the row step, and the round's constant. -/
def keccakRound (a : Lanes) (rc : Word64) : Lanes :=
  let cols := (span 0 5).map fun x => (span 0 5).foldl (fun v y => v ^^^ laneAt a x y) 0
  let col (x : Nat) : Word64 := cols.getD (x % 5) 0
  let mixed := lanesOf fun x y => laneAt a x y ^^^ col (x + 4) ^^^ (col (x + 1)).rotateLeft 1
  let moved := lanesOf fun x y => (laneAt mixed (x + 3 * y) x).rotateLeft (laneTurns.getD ((x + 3 * y) % 5 + 5 * x) 0)
  let rows := lanesOf fun x y => laneAt moved x y ^^^ (~~~laneAt moved (x + 1) y &&& laneAt moved (x + 2) y)
  rows.set 0 (laneAt rows 0 0 ^^^ rc)

/-- The permutation. -/
def keccakF (a : Lanes) : Lanes := roundConstants.foldl keccakRound a

/-- Lanes of a run of bytes, least significant byte first. -/
def byteLanes : (n : Nat) → List Byte → Lanes
  | 0, _ => []
  | n + 1, b => BitVec.ofNat 64 (leNat (b.take 8)) :: byteLanes n (b.drop 8)

/-- Blocks of 72 bytes absorbed one after another. -/
def absorb : (blocks : Nat) → Lanes → List Byte → Lanes
  | 0, a, _ => a
  | n + 1, a, b => absorb n (keccakF (List.zipWith (· ^^^ ·) a (byteLanes 9 b ++ List.replicate 16 0))) (b.drop 72)

/-- A message padded to whole blocks: 01, 1, zeros and 1, in bits. -/
def padMessage (b : List Byte) : List Byte :=
  let left := 71 - b.length % 72
  if left = 0 then b ++ [0x86] else b ++ [0x06] ++ List.replicate (left - 1) 0 ++ [0x80]

/-- The 64 bytes of a digest. -/
def sha3 (b : List Byte) : List Byte :=
  let m := padMessage b
  ((absorb (m.length / 72) (List.replicate 25 0) m).take 8).flatMap fun w => leBytes 8 w.toNat

end Sys2Proof.Machine
end

