-- ==== Sys2Proof/Machine/Keys.lean ====
section
/-! DEFINITION. Sys2Proof/Machine/Keys.lean: the device's keys and what they sign (R345 to R348). The arithmetic of ML-DSA-87 is
that of FIPS 204 (log entry 7). -/

namespace Sys2Proof.Machine

open Sys2Proof

/-- The bytes of an ASCII string. -/
def ascii (t : String) : List Byte := t.toList.map fun c => BitVec.ofNat 8 c.toNat

/-- A byte string cut or filled with zeros to n bytes. -/
def fit (n : Nat) (b : List Byte) : List Byte := (b ++ List.replicate n 0).take n

/-- SHA3-512, 64 bytes. -/
def hash (b : List Byte) : List Byte := fit 64 (sha3 b)

/-- Seeds of the identity, alias and ledger keys (R346). -/
def identitySeed : List Byte := (hash (ascii "DZIDEX-ID" ++ Config.uds)).take 32
def aliasSeed (s : State) : List Byte :=
  (hash (ascii "DZIDEX-ALIAS" ++ Config.uds ++ fit 64 s.sec.fw ++ leBytes 4 s.sec.svn)).take 32
def ledgerSeed (s : State) : List Byte :=
  (hash (ascii "DZIDEX-LEDGER" ++ Config.uds ++ fit 64 s.sec.fw ++ leBytes 4 s.sec.svn)).take 32

/-- A public key, 2,592 bytes, and a signature under a context string, 4,627 bytes (R346, R347). -/
def publicKey (seed : List Byte) : List Byte := fit 2592 (Config.mldsaPublic seed)
def signature (seed : List Byte) (context : String) (message : List Byte) : List Byte :=
  fit 4627 (Config.mldsaSign seed (ascii context) message)

/-- SEC_SERIAL. -/
def serialOf (s : State) : Nat := s.reg 0 (secPage + 0x110)

end Sys2Proof.Machine
end

