-- ==== Sys2Proof/Machine/Entry.lean ====
section
/-! DEFINITION. Sys2Proof/Machine/Entry.lean: the life of a ring entry from its start to its completion (R120 to R123, R376,
R409), before it is posted. -/

namespace Sys2Proof.Machine

open Sys2Proof

/-! ## Slots and starts -/

/-- Slots of a ring. -/
def Ring.slots (R : Ring) : Nat := R.slotsM1 + 1

/-- Bytes of a ring's slot. -/
def Ring.slotBytes (R : Ring) : Nat := if R.kind = 2 then R.slotSize * 64 else 64

/-- The space of a ring's slots, and the offset of slot `q` in it. -/
def Ring.slotOff (R : Ring) (q : Nat) : Nat := R.base + q % R.slots * R.slotBytes

/-- The address of a slot: Loom × 2^26 + o, or an HBM address. -/
def Ring.slotAddr (R : Ring) (q : Nat) : Nat := (if R.space = 0 then R.home * 2 ^ 26 else 0) + R.slotOff q

/-- Whether a slot lies in its space (R409). -/
def Ring.slotInside (R : Ring) (q : Nat) : Bool :=
  decide (R.slotOff q + R.slotBytes ≤ if R.space = 0 then 2 ^ 26 else 2 ^ 41)

/-- The 64 bytes of a command ring's slot. -/
def slotBytesOf (s : State) (R : Ring) (q : Nat) : List Byte := s.bytesAt R.space (R.slotAddr q) 64

/-- Whether the read of a slot meets an uncorrectable error (R409). -/
def slotEcc (s : State) (R : Ring) (q : Nat) : Bool := decide (R.space = 1) && hbmReadFails s (R.slotAddr q) 64

/-- Fields that every entry has: opcode, IRQ, SCOPE, layer, operator and TAG. -/
def entryOp (b : List Byte) : Nat := field b 0 1
def entryIrq (b : List Byte) : Bool := bit (field b 1 1) 7
def entryScope (b : List Byte) : Bool := bit (field b 1 1) 6
def entryLayer (b : List Byte) : Nat := field b 2 2
def entryOper (b : List Byte) : Nat := field b 4 2
def entryTag (b : List Byte) : Nat := field b 40 8

/-- Whether bytes off to off + n - 1 are all zero. -/
def zeroBytes (b : List Byte) (off n : Nat) : Bool := ((b.drop off).take n).all (· == 0)

/-- The die of a ring, and its number there (R120). -/
def dieOfRing (r : Nat) : Nat := r / 16384

/-- The panel that serves a ring: the one whose PNL_CMD_RING names it (R66). -/
def panelOfRing (s : State) (r : Nat) : Option Nat :=
  (span (16 * dieOfRing r) 16).find? fun p =>
    decide (s.reg 0 (pnlPage p + 0x10C) % 2 ^ 14 = r % 16384 ∧ (s.panel p).state ≠ .off)

/-- The page of the block that serves an entry (R376). -/
def servePage (s : State) (r : Nat) (b : List Byte) : Nat :=
  let R := s.ring r
  let op := entryOp b
  if 1 ≤ op ∧ op ≤ 3 then syncPage
  else if op = 4 ∨ op = 5 then ldgPage
  else if op = 8 then (if field b 6 1 % 16 < 10 then rtvPage (field b 6 1 % 16) else ringPage (dieOfRing r))
  else if R.server = 1 ∧ 0x10 ≤ op ∧ op ≤ 0x12 then
    match panelOfRing s r with
    | some p => pnlPage p
    | none => ringPage (dieOfRing r)
  else if R.server = 2 ∧ 0x20 ≤ op ∧ op ≤ 0x22 then rtvPage R.serverId
  else ringPage (dieOfRing r)

/-- Whether an opcode is one that the block serving the ring runs (R46, R123). -/
def opServed (R : Ring) (op : Nat) : Bool :=
  decide (1 ≤ op ∧ op ≤ 8) || (decide (R.server = 1) && decide (0x10 ≤ op ∧ op ≤ 0x12)) ||
    (decide (R.server = 2) && decide (0x20 ≤ op ∧ op ≤ 0x22))

/-- An entry of a ring has completed. -/
def Flight.isDone (f : Flight) : Bool := f.done.isSome

/-- Every entry that has started has completed. -/
def Ring.quiet (R : Ring) : Bool := R.fly.all Flight.isDone

/-- Entries started and not complete: IN_FLIGHT (R122). -/
def Ring.inFlight (R : Ring) : Nat := (R.fly.filter fun f => !f.isDone).length

/-- Whether a blocked wait holds a started entry: on a counter, a barrier or the manager. -/
def EntryWait.blocked : EntryWait → Bool
  | .running => false
  | .counter _ _ _ => true
  | .barrier _ _ _ => true
  | .remote _ => true
  | .ledger => false
  | .flush _ _ _ => false
  | .drain => false

/-- Whether STOP withdraws a started entry: a blocked WAIT or a held ARRIVE, but no operation that is on its way to the manager
(R122, R174). -/
def EntryWait.withdrawn : EntryWait → Bool
  | .counter _ _ _ => true
  | .barrier _ _ _ => true
  | .running => false
  | .remote _ => false
  | .ledger => false
  | .flush _ _ _ => false
  | .drain => false

/-- Whether CANCEL cuts a started entry at once: also a FLUSH or a REQ_CLOSE that waits (R135). -/
def EntryWait.cancelled : EntryWait → Bool
  | .ledger => true
  | .flush _ _ _ => true
  | .counter _ _ _ => true
  | .barrier _ _ _ => true
  | .running => false
  | .remote _ => false
  | .drain => false

/-- STATE of the ring window (R122). -/
def ringStateCode (R : Ring) : Nat :=
  match R.mode with
  | .off => 0
  | .cancelling => if R.holds ≠ [] then 6 else 5
  | .stopped => if R.holds ≠ [] then 6 else 4
  | .on =>
    if R.holds ≠ [] then 6
    else if R.fly.any (fun f => !f.isDone && f.wait.blocked) then 3
    else if R.fly ≠ [] then 2 else 1

/-- Whether a ring may start its next entry: it is a command ring that runs, TAIL has passed the entry, and no entry before it
has completed in a way that stops the ring (R179). -/
def ringMayStart (R : Ring) : Bool :=
  decide (R.kind = 1 ∧ R.mode = .on ∧ R.holds = [] ∧ R.issue ≠ R.tail) && R.fly.all fun f => match f.done with
    | some c => !c.stops
    | none => true

/-- The die on which a ring's server sits, 4 the hub. -/
def ringDie (r : Nat) (R : Ring) : Nat := if R.server = 1 then dieOfRing r else rtvDie R.serverId

/-- Whether a ring's server takes its entries now: a Retriever does; a panel does that names the ring and is neither FAULTED nor
in a fault drain, WEDGED or HELD, while no drain interval runs (R58, R60, R66). A ring whose published schedule table has failed
its check is not started (R20, log entry 40). -/
def ringServed (s : State) (r : Nat) (R : Ring) : Bool :=
  if r ∈ s.dies.badTables then false
  else if R.server = 1 then match panelOfRing s r with
    | none => false
    | some p =>
      let P := s.panel p
      decide (P.state ≠ .faulted ∧ P.state ≠ .wedged ∧ P.state ≠ .held) && P.faulting.isNone &&
        s.looms.all fun l => decide (l.2.drainUs = 0)
  else true

/-- Whether a slot's bytes can reach the ring's server: its die's bridges carry them (R14, R17). -/
def slotReached (s : State) (r : Nat) (R : Ring) : Bool :=
  decide (R.space = 0) || hbmMeets s (ringDie r R) (R.slotAddr R.issue) 64

/-- The entry that a ring would start next, where its slot can be read (R409). -/
def nextEntry (s : State) (r : Nat) : Option (List Byte) :=
  let R := s.ring r
  if ringMayStart R ∧ ringServed s r R ∧ slotReached s r R ∧ R.slotInside R.issue ∧ ¬ slotEcc s R R.issue then
    some (slotBytesOf s R R.issue) else none

/-- The status of an entry that its other checks let pass: entries of a ring in STATE PENDING or REFUSED complete
ADMISSION_REFUSED (R197). DESIGN CHOICE (log entry 86): this state is judged after the entry's own checks. -/
def orRefused (s : State) (r st : Nat) : Nat :=
  if st = 0 ∧ ((s.ring r).admState = 1 ∨ (s.ring r).admState = 3) then 9 else st

/-- The next entry, where it has an opcode that its server runs and every earlier entry has completed (R123). -/
def nextActing (s : State) (r op : Nat) : Option (List Byte) :=
  match nextEntry s r with
  | none => none
  | some b => if entryOp b = op ∧ opServed (s.ring r) op ∧ (s.ring r).quiet then some b else none

/-- The entry that an event of a started entry names. -/
def Flight.who (f : Flight) (r : Nat) : Who := ⟨r, f.seq, entryLayer f.bytes, entryOper f.bytes, f.filt⟩

/-- Hub time at which the next entry became eligible, as far as TAIL, the waits before it and the ring's holds decide (R195,
R322). -/
def eligibleUs (s : State) (R : Ring) : Nat :=
  match R.tails.find? fun p => decide (0 < sub32 p.1 R.issue ∧ sub32 p.1 R.issue ≤ R.slots) with
  | some p => max p.2 (max R.waitUs R.heldUs)
  | none => s.hubUs

/-- The server reads the slot of the next entry: a line of stage memory, or a burst access to HBM at input 5, which log entry 24
gives a number (R149, R189). A slot outside its space is not read (R409). -/
def fetchSlot (s : State) (r : Nat) : State :=
  let R := s.ring r
  let a := R.slotAddr R.issue
  if !R.slotInside R.issue then s
  else if R.space = 0 then activity s (9 + a / 2 ^ 26 % 8) 0 1 (some r)
  else (hbmTraffic s (ringDie r R) a 64 5 5 1023 false (some r)).hbmLoad a 64 Who.none (some r)

/-- A doorbell mark of a ring is taken, and with the last one the doorbell wake (R215). -/
def takeRung (s : State) (r : Nat) : State :=
  let left := s.pci.rung.filter (· ≠ r)
  let t := { s with pci := { s.pci with rung := left } }
  if left = [] then mergeTake t 0 else t

/-- Sync and ledger traffic of an entry between its server's die and the hub: one beat at input 7 of the bridge (R14, R189, log
entry 24). -/
def syncBeat (s : State) (r dir op : Nat) : State :=
  if 1 ≤ op ∧ op ≤ 5 then bridgePacket s (ringDie r (s.ring r)) dir 64 7 (r % 1024) 0 (some r) else s

/-- An entry starts: its slot has been read, ISSUE moves past it, and an ENTRY_START record is made. The watchdog of its ring
starts where no entry before it is open (R177); the entry of an admitted ring keeps its GRANT (R197). -/
def beginEntry (s : State) (r : Nat) (b : List Byte) (w : EntryWait) : State :=
  let t := syncBeat (takeRung (fetchSlot s r) r) r 0 (entryOp b)
  let R := t.ring r
  let fl : Flight := ⟨R.issue, b, w, none, filterMatch s (entryLayer b) (entryOper b), eligibleUs s R,
    if R.admState = 2 then R.admGrant else 0⟩
  let next := add32 R.issue 1
  let tails := R.tails.filter fun p => decide (0 < sub32 p.1 next ∧ sub32 p.1 next ≤ R.slots)
  let wdog := if R.quiet then 0 else R.wdogUs
  let s1 := t.setRing r { R with issue := next, fly := R.fly ++ [fl], tails := tails, wdogUs := wdog }
  trace s1 (blockId (servePage s r b)) 1 0 (entryOp b) (fl.who r)

/-! ## Completion -/

/-- A completion of an entry: its fields come from the entry, the result words are zero under BAD_DESCRIPTOR, NOT_PERMITTED
and STATE_CONFLICT (R314, R315), and SYNC_BROKEN, WATCHDOG and PEER_LOST stop the ring (R179). -/
def completionOf (b : List Byte) (status res0 res1 res2 : Nat) : Completion :=
  let z := status = 1 ∨ status = 2 ∨ status = 0xB
  { status := status, opcode := entryOp b, tag := entryTag b, layer := entryLayer b, oper := entryOper b,
    res0 := if z then 0 else res0, res1 := if z then 0 else res1, res2 := if z then 0 else res2, irq := entryIrq b,
    stops := decide (status = 4 ∨ status = 5 ∨ status = 0xA) }

/-- The completion of an entry that a ring's server ran: LOOM_SET_PANELS has no IRQ, and 0 in TAG, LAYER_ID and OPERATOR_ID,
whatever its reserved bytes hold (R406). -/
def completionFor (R : Ring) (b : List Byte) (status res0 res1 res2 : Nat) : Completion :=
  let c := completionOf b status res0 res1 res2
  if R.server = 1 ∧ entryOp b = 0x12 then { c with tag := 0, layer := 0, oper := 0, irq := false } else c

/-- The flight of a sequence number with a completion put in. -/
def putDone (seq : Nat) (c : Completion) : List Flight → List Flight
  | [] => []
  | f :: r => if f.seq = seq ∧ !f.isDone then { f with done := some c, wait := .running } :: r else f :: putDone seq c r

/-- The started entry of a sequence number that has not completed. -/
def openFlight (R : Ring) (seq : Nat) : Option Flight := R.fly.find? fun f => decide (f.seq = seq) && !f.isDone

/-- Sequence of the oldest started entry that has not completed. -/
def oldestOpen (R : Ring) : Option Nat := (R.fly.find? fun f => !f.isDone).map Flight.seq

/-- The ENTRY bits of an entry's status: in the page that serves it, and in the sync page for SYNC_BROKEN, WATCHDOG and
PEER_LOST (R179, R376). -/
def entryError (s : State) (page status : Nat) (who : Who) (part : Nat) : State :=
  if 2 ≤ status ∧ status ≤ 12 ∧ status ≠ 6 then
    let s1 := raiseErr s page status who part
    if (status = 4 ∨ status = 5 ∨ status = 0xA) ∧ page ≠ syncPage then raiseErr s1 syncPage status who part else s1
  else s

/-- A started entry completes: its completion waits to be posted, counted where its slot is not free, and the counters and
error bits of its status are set (R122, R313, R319, R372, R376). -/
def finishWith (s : State) (r seq page : Nat) (c : Completion) : State :=
  let R := s.ring r
  match openFlight R seq with
  | none => s
  | some f =>
    let waited := 1 ≤ entryOp f.bytes ∧ entryOp f.bytes ≤ 3 ∧ entryOp f.bytes ≠ 2
    let R1 := { R with fly := putDone seq c R.fly, cntDone := (R.cntDone + 1) % 2 ^ 64,
                       cntConflict := (R.cntConflict + flag (c.status == 1)) % 2 ^ 64,
                       wdogUs := if oldestOpen R = some seq then 0 else R.wdogUs, waitUs := if waited then s.hubUs else R.waitUs }
    let held := R.rsEn && decide (R.slots ≤ sub32 seq R.released)
    let s1 := filterCount ((s.setRing r R1).count 0 (pciPage + 0x60) (flag held)) f.filt 0x128 1
    let s2 := if c.status = 0 ∨ c.status = 6 then s1 else filterCount s1 f.filt 0x130 1
    entryError s2 page c.status (f.who r) R.part

/-- A Loom command that completes counts in PNL_CNT_COMMANDS of the panel that serves its ring (R66). -/
def countLoomCommand (s : State) (r : Nat) (b : List Byte) : State :=
  if (s.ring r).server = 1 ∧ 0x10 ≤ entryOp b ∧ entryOp b ≤ 0x12 then
    match panelOfRing s r with
    | some p => s.count 0 (pnlPage p + 0x78) 1
    | none => s
  else s

/-- A started entry completes with a status and result words. -/
def finishEntry (s : State) (r seq status res0 res1 res2 : Nat) : State :=
  match openFlight (s.ring r) seq with
  | none => s
  | some f =>
    let t := countLoomCommand (syncBeat s r 1 (entryOp f.bytes)) r f.bytes
    finishWith t r seq (servePage s r f.bytes) (completionFor (s.ring r) f.bytes status res0 res1 res2)

/-- The next entry starts and completes at once. -/
def actEntry (s : State) (r : Nat) (b : List Byte) (status res0 res1 res2 : Nat) : State :=
  finishEntry (beginEntry s r b .running) r (s.ring r).issue status res0 res1 res2

/-- A started entry's wait replaced. -/
def setWait (s : State) (r seq : Nat) (w : EntryWait) : State :=
  let R := s.ring r
  let fly := R.fly.map fun f => if f.seq = seq ∧ !f.isDone then { f with wait := w } else f
  s.setRing r { R with fly := fly }

end Sys2Proof.Machine
end

