-- ==== Sys2Proof/Machine/Ledger.lean ====
section
/-! DEFINITION. Sys2Proof/Machine/Ledger.lean: the energy ledger: requests, reconciliation, receipts, blocks and their delivery
(R240 to R262). -/

namespace Sys2Proof.Machine

open Sys2Proof

/-! ## Registers and windows -/

/-- A register of the ledger page. -/
def State.ldg (s : State) (off : Nat) : Nat := s.reg 0 (ldgPage + off)

/-- The number of the open 1 ms window: windows closed since start (R242). -/
def openWindow (s : State) : Nat := s.ldg 0x50

/-- DIVERGENT, SEVERE and UNVERIFIED of LDG_STATUS. -/
def ldgDivergent (s : State) : Bool := bit (s.ldg 0x104) 31
def ldgSevere (s : State) : Bool := bit (s.ldg 0x104) 30
def ldgUnverified (s : State) : Bool := bit (s.ldg 0x104) 27

/-- An account. -/
def accountZero : Account :=
  { ring := 0, part := 0, id := 0, openSeq := 0, openWall := 0, closeSeq := 0, closeWall := 0, closedIn := none, receipt := 0,
    energy := 0, uncert := 0, estOnly := 0, discard := 0, est := 0, pieces := 0, firstWin := 0, lastWin := 0,
    divergent := false, coFed := false, unverified := false, abandoned := false, restored := false }

/-- The account of a request number. -/
def State.account (s : State) (no : Nat) : Account := mget s.ledger.accounts no accountZero

/-- The account of a request number set. -/
def State.setAccount (s : State) (no : Nat) (a : Account) : State :=
  { s with ledger := { s.ledger with accounts := mput s.ledger.accounts no a } }

/-! ## Merkle trees (R76, R253) -/

/-- Hash of a leaf and of a node. -/
def leafHash (receipt : List Byte) : List Byte := hash ((0 : Byte) :: receipt)
def nodeHash (l r : List Byte) : List Byte := hash ((1 : Byte) :: (l ++ r))

/-- The root over n leaf hashes, in the shape of R76; the fuel bounds the depth. -/
def merkleRoot : (fuel : Nat) → (n : Nat) → List (List Byte) → List Byte
  | 0, _, v => v.headD (fit 64 [])
  | fuel + 1, n, v =>
    if n ≤ 1 then v.headD (fit 64 [])
    else
      let h := 2 ^ Nat.log2 (n - 1)
      nodeHash (merkleRoot fuel h (v.take h)) (merkleRoot fuel (n - h) (v.drop h))

/-- The siblings of leaf i, leaf upward. -/
def merklePath : (fuel : Nat) → (n i : Nat) → List (List Byte) → List (List Byte)
  | 0, _, _, _ => []
  | fuel + 1, n, i, v =>
    if n ≤ 1 then []
    else
      let h := 2 ^ Nat.log2 (n - 1)
      if i < h then merklePath fuel h i (v.take h) ++ [merkleRoot fuel (n - h) (v.drop h)]
      else merklePath fuel (n - h) (i - h) (v.drop h) ++ [merkleRoot fuel h (v.take h)]

/-! ## Blocks (R254 to R256) -/

/-- Whether the ledger holds two closed blocks. -/
def closedFull (s : State) : Bool := decide (2 ≤ s.ledger.closed.length)

/-- The open block closes, or, while two closed blocks are held, keeps the code of the close that is due (R254, R260). -/
def closeBlock (s : State) (code : Nat) : State :=
  let L := s.ledger
  let b := L.openBlk
  if closedFull s then
    if b.close = 0 then { s with ledger := { L with openBlk := { b with close := code } } } else s
  else
    let unsigned := (L.closed.filter fun x => x.signed.isNone).length
    let wrong := flag (bit (s.ldg 0x104) 28) * 8
    let last := (openWindow s + 2 ^ 64 - 1) % 2 ^ 64
    let c := { b with close := code, flags := b.flags ||| wrong, lastWin := last, no := s.flash.blockNo + unsigned }
    let next : Block := ⟨[], b.firstReceipt + b.receipts.length, (last + 1) % 2 ^ 64, 0, 0, 0, 0, 0, none, 0⟩
    { s with ledger := { L with closed := L.closed ++ [c], openBlk := next, winSince := 0 } }

/-- A receipt's bytes (R250). -/
def receiptBytes (a : Account) : List Byte :=
  let flags := flag a.divergent + 2 * flag a.coFed + 4 * flag a.unverified + 8 * flag a.abandoned + 16 * flag a.restored
  let k := if a.est = 0 then 2 ^ 24 else a.energy * 2 ^ 24 / a.est
  leBytes 1 1 ++ leBytes 1 flags ++ leBytes 1 (a.part % 16) ++ leBytes 1 0 ++ leBytes 2 a.ring ++ leBytes 2 0 ++
    leBytes 8 a.id ++ leBytes 4 a.openSeq ++ leBytes 4 a.closeSeq ++ leBytes 8 a.openWall ++ leBytes 8 a.closeWall ++
    leBytes 8 a.energy ++ leBytes 8 a.uncert.ceil.toNat ++ leBytes 8 a.estOnly ++ leBytes 8 (min a.discard a.energy) ++
    leBytes 8 a.est ++ (if k < 2 ^ 32 then leBytes 4 k else leBytes 4 (Config.freeNat k a.est)) ++ leBytes 4 a.pieces ++
    leBytes 8 a.receipt ++ leBytes 8 a.firstWin ++ leBytes 8 a.lastWin ++ List.replicate 16 0

/-- The account, among closed ones that are due at the end of window w, with the lowest receipt number (R249). -/
def dueAccount (w : Nat) : SMap Account → Option (Nat × Account)
  | [] => none
  | (no, a) :: r =>
    let due : Bool := match a.closedIn with
      | none => false
      | some c => decide (c < w)
    match dueAccount w r with
    | none => if due then some (no, a) else none
    | some (n2, b) => if due ∧ a.receipt < b.receipt then some (no, a) else some (n2, b)

/-- Receipts that are due at the end of window w are formed in ascending order while the open block has room; the 4,096th
closes it (R249, R254). -/
def formReceipts : (fuel : Nat) → (w : Nat) → State → State
  | 0, _, s => s
  | fuel + 1, w, s =>
    match dueAccount w s.ledger.accounts with
    | none => s
    | some (no, a) =>
      let b := s.ledger.openBlk
      if 4096 ≤ b.receipts.length then s
      else
        let b1 := { b with receipts := b.receipts ++ [receiptBytes a],
                           firstReceipt := if b.receipts = [] then a.receipt else b.firstReceipt }
        let s1 := { s with ledger := { s.ledger with openBlk := b1, accounts := mdel s.ledger.accounts no } }
        let s2 := s1.count 0 (ldgPage + 0x40) 1
        formReceipts fuel w (if b1.receipts.length = 4096 then closeBlock s2 1 else s2)

/-! ## Requests (R240, R241) -/

/-- Reserved fields of REQ_OPEN and REQ_CLOSE are zero. -/
def reqFormat (b : List Byte) : Bool :=
  decide (field b 1 1 % 128 = 0) && zeroBytes b 0x06 2 && zeroBytes b 0x18 16 && zeroBytes b 0x30 16

/-- A request opens on a ring. -/
def openRequest (s : State) (r id seq wall : Nat) : State :=
  let no := s.ledger.nextReq + 1
  let a := { accountZero with ring := r, part := (s.ring r).part, id := id, openSeq := seq, openWall := wall }
  let s1 := { s with ledger := { s.ledger with nextReq := no } }.setAccount no a
  s1.setRing r { s1.ring r with req := some ⟨id, seq, wall, no⟩ }

/-- The open request of a ring closes: it takes the next receipt number (R241). -/
def closeRequest (s : State) (r seq wall : Nat) (abandoned : Bool) : State :=
  match (s.ring r).req with
  | none => s
  | some q =>
    let n := s.ldg 0x158
    let a := { s.account q.no with closeSeq := seq, closeWall := wall, closedIn := some (openWindow s), receipt := n,
                                   coFed := bit (s.ldg 0x104) 26, abandoned := abandoned }
    let s1 := (s.setAccount q.no a).setReg 0 (ldgPage + 0x158) (n + 1)
    s1.setRing r { s1.ring r with req := none }

/-- A ring's open request closes ABANDONED: WALL 0, CLOSE_SEQ the ring's TAIL (R241). -/
def abandonRequest (s : State) (r : Nat) : State := closeRequest s r (s.ring r).tail 0 true

/-- REQ_CLOSE waits: the open block is full and two closed blocks are held (R258). -/
def ledgerFull (s : State) : Bool := decide (4096 ≤ s.ledger.openBlk.receipts.length) && closedFull s

/-- A REQ_OPEN acts. -/
def doReqOpen (s : State) (r : Nat) (b : List Byte) : State :=
  let q := (s.ring r).issue
  if !reqFormat b then actEntry s r b 2 0 0 0
  else if (s.ring r).req.isSome then (actEntry s r b 1 0 0 0).count 0 (ldgPage + 0x68) 1
  else if orRefused s r 0 ≠ 0 then actEntry s r b (orRefused s r 0) 0 0 0
  else actEntry (openRequest s r (field b 8 8) q (field b 16 8)) r b 0 0 0 0

/-- A started REQ_CLOSE of sequence q acts. -/
def actClose (s : State) (r q : Nat) (b : List Byte) : State :=
  match (s.ring r).req with
  | none => (finishEntry s r q 1 0 0 0).count 0 (ldgPage + 0x68) 1
  | some o =>
    if o.id ≠ field b 8 8 then (finishEntry s r q 1 0 0 0).count 0 (ldgPage + 0x68) 1
    else finishEntry (closeRequest s r q (field b 16 8) false) r q 0 (s.ldg 0x158) 0 0

/-- A REQ_CLOSE starts; it waits while the ledger is full. -/
def doReqClose (s : State) (r : Nat) (b : List Byte) : State :=
  let q := (s.ring r).issue
  let st := orRefused s r (if reqFormat b then 0 else 2)
  if st ≠ 0 then actEntry s r b st 0 0 0
  else if ledgerFull s then beginEntry s r b .ledger
  else actClose (beginEntry s r b .running) r q b

/-- REQ_CLOSE entries that wait for the ledger act once it has room. -/
def settleCloses (s : State) : State :=
  s.rings.foldl (fun t p => (s.ring p.1).fly.foldl (fun u f =>
    match f.wait with
    | .ledger => if !f.isDone && !ledgerFull u then actClose u p.1 f.seq f.bytes else u
    | _ => u) t) s

/-- REQ_OPEN. -/
def execReqOpen (r : Nat) (s : State) : Res :=
  onUnit (decide (r < 65536)) (match nextActing s r 4 with
    | none => s
    | some b => doReqOpen s r b)

/-- REQ_CLOSE. -/
def execReqClose (r : Nat) (s : State) : Res :=
  onUnit (decide (r < 65536)) (match nextActing s r 5 with
    | none => s
    | some b => doReqClose s r b)

/-! ## A window closes (R245 to R249) -/

/-- Estimated nanojoules of a domain in the open window, the regulators' loss in CORE (R242, R245). -/
def domainEst (s : State) (d : Nat) : Nat :=
  let fj := (s.ledger.est.filter fun p => p.1 / 2 ^ 64 == d).foldl (fun n p => n + p.2) 0
  (fj + if d = 0 then Config.regulatorLoss fj else 0) / 10 ^ 6

/-- Measured nanojoules of a domain: samples of power in µW over 10 µs. -/
def domainMeas (s : State) (d : Nat) : Nat := mget s.ledger.meas d 0 / 100

/-- Whether a domain's window is estimate-only (R246). -/
def estOnlyWin (s : State) (d : Nat) : Bool :=
  decide (mget s.ledger.samples d 0 < 90) || decide (mget s.ledger.faults d 0 ≠ 0)

/-- k_last of a domain. -/
def kLastOf (s : State) (d : Nat) : Rat :=
  match s.ledger.kLast.find? fun p => p.1 == d with
  | none => 1
  | some p => p.2

/-- The figures of one domain's window: estimate-only, E_est, E_meas and k. -/
structure DomWin where
  only : Bool
  est : Nat
  meas : Nat
  k : Rat
  deriving DecidableEq, Repr

/-- The figures of a domain in the open window. -/
def domWin (s : State) (d : Nat) : DomWin :=
  let only := estOnlyWin s d
  let est := domainEst s d
  let meas := if only then ((est : Rat) * kLastOf s d).floor.toNat else domainMeas s d
  ⟨only, est, meas, if est = 0 then 1 else (meas : Rat) / (est : Rat)⟩

/-- A distance from 1. -/
def offOne (k : Rat) : Rat := if k < 1 then 1 - k else k - 1

/-- u of R251 for one piece. -/
def pieceUncert (only div unv : Bool) (kpkg : Rat) (pkgNj e : Nat) : Rat :=
  let m : Rat := if 50000000 ≤ pkgNj then 1 / 100 else if pkgNj = 0 then 0 else 500000 / (pkgNj : Rat)
  let a0 : Rat := 2 / 100
  let a1 : Rat := if div ∧ a0 < offOne kpkg then offOne kpkg else a0
  let a2 : Rat := if unv ∧ a1 < 1 / 4 then 1 / 4 else a1
  (if only then (e : Rat) / 4 else (m + a2) * e) + 1

/-- Discarded femtojoules enter a request's receipt at a factor (R250). -/
def discardNow (s : State) (no fj : Nat) (k : Rat) : State :=
  if no = 0 ∨ s.ledger.accounts.all (fun p => decide (p.1 ≠ no)) then s
  else
    let a := s.account no
    s.setAccount no { a with discard := a.discard + ((fj / 10 ^ 6 : Nat) * k).floor.toNat }

/-- One estimate of a domain is charged: to its ring, and to its request if it has one. Answers the state and the nanojoules
that a request takes. -/
def chargePiece (s : State) (w : Nat) (D : DomWin) (div unv : Bool) (kpkg : Rat) (pkgNj key fj : Nat) : State × Nat :=
  let ring := key / 2 ^ 40 % 2 ^ 24
  let no := key % 2 ^ 40
  let est := fj / 10 ^ 6
  if ring = 0 ∨ D.est = 0 ∨ est = 0 then (s, 0)
  else
    let e := est * D.meas / D.est
    let R := s.ring (ring - 1)
    let s1 := if R.mode = .off then s else s.setRing (ring - 1) { R with energy := (R.energy + e) % 2 ^ 64 }
    if no = 0 then (s1, 0)
    else
      let a := s1.account no
      let a1 := { a with
        energy := a.energy + e, est := a.est + est, pieces := a.pieces + 1
        uncert := a.uncert + pieceUncert D.only div unv kpkg pkgNj e
        estOnly := a.estOnly + if D.only then e else 0
        firstWin := if a.energy = 0 ∧ 0 < e then w else a.firstWin
        lastWin := if 0 < e then w else a.lastWin }
      (s1.setAccount no a1, e)

/-- Every estimate of a domain is charged; answers the requests' sum. -/
def chargeDomain (s : State) (w d : Nat) (D : DomWin) (div unv : Bool) (kpkg : Rat) (pkgNj : Nat) : SMap Nat → State × Nat
  | [] => (s, 0)
  | (k, fj) :: r =>
    if k / 2 ^ 64 = d then
      let (t, e) := chargePiece s w D div unv kpkg pkgNj k fj
      let (u, m) := chargeDomain t w d D div unv kpkg pkgNj r
      (u, e + m)
    else chargeDomain s w d D div unv kpkg pkgNj r

/-- A run of windows: its length after one more window, for and against. -/
def runOn (hit : Bool) (n : Nat) : Nat := if hit then n + 1 else 0

/-- Board power of a domain in µW by the listed regulators, none where one of them failed or none is listed (R248). -/
def boardPower (s : State) (pout : List (Option Nat)) (d : Nat) : Option Nat :=
  let listed := (span 0 8).filter fun i =>
    let v := s.reg i (ldgPage + 0x124)
    bit v 31 && decide (bits v 25 24 = d)
  if listed = [] then none
  else listed.foldl (fun acc i => match acc, (pout[i]?).join with
    | some a, some mw => some (a + 1000 * mw)
    | _, _ => none) (some 0)

/-- Whether the second source agrees in every domain; none where it is unavailable. -/
def secondSource (s : State) (pout : List (Option Nat)) (meas : Nat → Nat) : Option Bool :=
  match boardPower s pout 0, boardPower s pout 1, boardPower s pout 2 with
  | some a, some b, some c =>
    let near (p m : Nat) : Bool := decide (100 * ((p - m) + (m - p)) ≤ 3 * m + 200000000)
    some (near a (meas 0) && near b (meas 1) && near c (meas 2))
  | _, _, _ => none

/-- LDG_STATUS after a window: DIVERGENT, SEVERE, SECOND, WEIGHTS_SUSPECT and UNVERIFIED (R247). -/
def statusAfter (old : Nat) (div sev : Bool) (second : Option Bool) : Nat :=
  let was := bit old 30
  let agree := decide (second = some true)
  let suspect := bit old 28 || (was && agree)
  let unv := if was then sev && !agree else false
  let v1 := putBits (putBits old 31 31 (flag div)) 30 30 (flag sev)
  putBits (putBits (putBits v1 29 29 (flag (was && second.isSome))) 28 28 (flag suspect)) 27 27 (flag unv)

/-- LDG_DOM_K, MEAS and EST of a domain (R262); a factor that the field cannot hold is a free value. -/
def showDomain (s : State) (w d : Nat) (D : DomWin) : State :=
  let k := (D.k * (2 ^ 24 : Nat)).floor.toNat
  let shown := if k < 2 ^ 32 then k else Config.freeNat w d % 2 ^ 32
  ((s.setReg d (ldgPage + 0x134) shown).setReg d (ldgPage + 0x138) D.meas).setReg d (ldgPage + 0x140) D.est

/-- Flags that windows leave on open requests: DIVERGENT or UNVERIFIED at the end of a window of theirs. -/
def markAccounts (s : State) (w : Nat) (div unv : Bool) : State :=
  { s with ledger := { s.ledger with accounts := s.ledger.accounts.map fun p =>
      let live : Bool := match p.2.closedIn with
        | none => true
        | some c => decide (c = w)
      if live then (p.1, { p.2 with divergent := p.2.divergent || div, unverified := p.2.unverified || unv }) else p } }

/-- Whether a descriptor that a cancel has cut is still in flight. -/
def cutInFlight (s : State) : Bool := s.rtvs.any fun p => p.2.descs.any fun d => decide (d.cut = some 6)

/-- The 1 ms window closes (R245 to R249, R254). -/
def closeWindow (s : State) (pout : List (Option Nat)) : State :=
  let w := openWindow s
  let D0 := domWin s 0
  let D1 := domWin s 1
  let D2 := domWin s 2
  let estSum := D0.est + D1.est + D2.est
  let measSum := D0.meas + D1.meas + D2.meas
  let kpkg : Rat := if estSum = 0 then 1 else (measSum : Rat) / (estSum : Rat)
  let divergent := decide (1 / 10 < offOne kpkg)
  let severe := decide (1 / 4 < offOne kpkg)
  let L := s.ledger
  let rd := runOn divergent L.runDiv
  let rn := runOn (!divergent) L.runNotDiv
  let sd := runOn severe L.runSev
  let sn := runOn (!severe) L.runNotSev
  let div := if 64 ≤ rd then true else if 64 ≤ rn then false else ldgDivergent s
  let sev := if 100 ≤ sd then true else if 100 ≤ sn then false else ldgSevere s
  let second := if ldgSevere s then
      secondSource s pout fun d => if d = 0 then D0.meas else if d = 1 then D1.meas else D2.meas else none
  let s1 := s.setReg 0 (ldgPage + 0x104) (statusAfter (s.ldg 0x104) div sev second)
  let unv := ldgUnverified s1
  let (s2, e0) := chargeDomain s1 w 0 D0 div unv kpkg measSum L.est
  let (s3, e1) := chargeDomain s2 w 1 D1 div unv kpkg measSum L.est
  let (s4, e2) := chargeDomain s3 w 2 D2 div unv kpkg measSum L.est
  let overNj := measSum - (e0 + e1 + e2)
  let kOf (d : Nat) : Rat := if d = 0 then D0.k else if d = 1 then D1.k else D2.k
  let s4d := L.discard.foldl (fun t p => discardNow t (p.1 % 2 ^ 64) p.2 (kOf (p.1 / 2 ^ 64))) s4
  let s5 := markAccounts (showDomain (showDomain (showDomain s4d w 0 D0) w 1 D1) w 2 D2) w div unv
  let b := s5.ledger.openBlk
  let only := D0.only || D1.only || D2.only
  let b1 := { b with meas := b.meas + measSum, overhead := b.overhead + overNj,
                     flags := b.flags ||| (flag divergent + 2 * flag only + 4 * flag unv) }
  let keepK (d : Nat) (D : DomWin) : Nat × Rat := (d, if D.only then kLastOf s d else D.k)
  let rest (d : Nat) : SMap Nat := if mget L.meas d 0 % 100 = 0 then [] else [(d, mget L.meas d 0 % 100)]
  let L1 := { s5.ledger with
    est := [], discard := [], kDisc := if cutInFlight s then L.kDisc ++ (span 0 3).map (fun d => (w * 4 + d, kOf d)) else []
    meas := rest 0 ++ rest 1 ++ rest 2, samples := [], faults := []
    kLast := [keepK 0 D0, keepK 1 D1, keepK 2 D2], kPkg := kpkg, runDiv := rd, runNotDiv := rn, runSev := sd, runNotSev := sn
    openBlk := b1, winSince := L.winSince + 1 }
  let s6 := { s5 with ledger := L1 }.setReg 0 (ldgPage + 0x148) w
  let s7 := ((s6.count 0 (ldgPage + 0x50) 1).count 0 (ldgPage + 0x58) (flag divergent)).count 0 (ldgPage + 0x60)
    (flag D0.only + flag D1.only + flag D2.only)
  let s8 := (s7.count 0 (ldgPage + 0x70) overNj).count 0 (ldgPage + 0x78) measSum
  let s9 := formReceipts (s8.ledger.accounts.length + 1) w s8
  if 1000 ≤ s9.ledger.winSince then closeBlock s9 2 else s9

/-- Window 0 begins at the end of start: what was estimated and measured before belongs to no window (R242). -/
def firstWindow (s : State) : State :=
  startPeriod { s with ledger := { s.ledger with est := [], discard := [], meas := [], samples := [], faults := [] } }
    ledgerTimer s.hubUs

/-- Whether the device's start has ended. -/
def startEnded (s : State) : Bool := decide (s.start.state = 1 ∧ s.start.step = 0) && !s.start.asserted

/-- LEDGER_WINDOW_CLOSE: windows of 1 ms run from the end of start; the board regulators are read over PMBus (R218, R248). -/
def execLedgerWindowClose (pout : List (Option Nat)) (s : State) : Res :=
  .next (if startEnded s then atPeriod s ledgerTimer 1000 fun t =>
      closeWindow (if ldgSevere t then wakeIsland t 20 else t) pout
    else s)

/-! ## Signing and delivery (R255 to R258) -/

/-- A block's header (R255). -/
def blockHeader (s : State) (b : Block) : List Byte :=
  let n := b.receipts.length
  let prev := if b.no = 0 then fit 64 [] else fit 64 s.flash.lastBlock
  let root := if n = 0 then fit 64 [] else merkleRoot 13 n (b.receipts.map leafHash)
  leBytes 1 1 ++ leBytes 1 b.close ++ leBytes 2 b.flags ++ leBytes 4 n ++ leBytes 8 (serialOf s) ++ leBytes 8 b.no ++
    leBytes 8 b.firstReceipt ++ leBytes 8 b.firstWin ++ leBytes 8 b.lastWin ++ leBytes 8 b.meas ++ leBytes 8 b.overhead ++
    prev ++ root ++ fit 64 s.sec.fw

/-- A block record of 5 KiB and a receipt record of 1 KiB (R257). -/
def blockRecord (header sig : List Byte) : List Byte := fit 5120 (((2 : Byte) :: List.replicate 63 0) ++ header ++ sig)
def receiptRecord (b : Block) (hashes : List (List Byte)) (i : Nat) (receipt : List Byte) : List Byte :=
  let path := merklePath 13 b.receipts.length i hashes
  fit 1024 (leBytes 1 1 ++ leBytes 1 path.length ++ leBytes 2 0 ++ leBytes 4 i ++ leBytes 8 b.no ++ List.replicate 48 0 ++
    receipt ++ path.flatten)

/-- The records of the receipts of a block from leaf i on. -/
def receiptRecords (b : Block) (hashes : List (List Byte)) : (i : Nat) → List (List Byte) → List (List Byte)
  | _, [] => []
  | i, x :: r => receiptRecord b hashes i x :: receiptRecords b hashes (i + 1) r

/-- The oldest closed block that is not signed, put back signed. -/
def signFirst (h g : List Byte) : List Block → List Block
  | [] => []
  | b :: r => if b.signed.isNone then { b with signed := some (h, g) } :: r else b :: signFirst h g r

/-- The engine finishes signing the oldest closed block: BLOCK_NO and the digest go to flash, and its records wait to be
written (R255, R257). -/
def signBlock (s : State) : State :=
  match s.ledger.closed.find? fun b => b.signed.isNone with
  | none => s
  | some b =>
    let h := blockHeader s b
    let g := signature (ledgerSeed s) "IKIMALIS-BLK" h
    let digest := hash (h ++ g)
    let recs := blockRecord h g :: receiptRecords b (b.receipts.map leafHash) 0 b.receipts
    let L := s.ledger
    let flash := { s.flash with blockNo := b.no + 1, lastBlock := digest,
                                receiptNext := b.firstReceipt + b.receipts.length }
    let s1 := { s with ledger := { L with closed := signFirst h g L.closed, records := L.records ++ recs, prev := digest }
                       flash := flash }
    ((s1.setReg 0 (ldgPage + 0x150) b.no).count 0 (ldgPage + 0x48) 1).count 0 (secPage + 0x48) 1

/-- BLOCK_SIGNED. -/
def execBlockSigned (s : State) : Res := .next (if s.start.state = 1 then signBlock s else s)

/-- Units of a record. -/
def unitsOf (rec : List Byte) : Nat := rec.length / 1024

/-- A record is written to the host at PUT, past the end of the area at unit 0 again. -/
def writeRecord (s : State) (rec : List Byte) : State :=
  let size := 2 ^ (s.fld 0 (ldgPage + 0x108) 4 0)
  let at' := s.ldg 0x118 % size
  let base := s.ldg 0x110
  let room := (size - at') * 1024
  let s1 := s.send (.hostWrite 0 (base + at' * 1024) (rec.take room))
  if rec.length ≤ room then s1 else s1.send (.hostWrite 0 base (rec.drop room))

/-- What follows the release of a block: a close that was due, receipts that waited, and REQ_CLOSE entries that waited. -/
def afterRelease (s : State) : State :=
  let s1 := if s.ledger.openBlk.close ≠ 0 then closeBlock s s.ledger.openBlk.close else s
  settleCloses (formReceipts (s1.ledger.accounts.length + 1) (openWindow s1 - 1) s1)

/-- The oldest record is written into the output area while it is enabled and has room; a block whose last record has been
written is released (R257, R258). -/
def recordWrite (s : State) : State :=
  let cfg := s.ldg 0x108
  match s.ledger.records with
  | [] => s
  | rec :: rest =>
    let used := sub32 (s.ldg 0x118) (s.ldg 0x11C)
    if !bit cfg 31 || (s.fn 0).d3hot || (s.fn 0).draining || decide (2 ^ bits cfg 4 0 < used + unitsOf rec) then s
    else
      let s1 := (writeRecord s rec).setReg 0 (ldgPage + 0x118) (add32 (s.ldg 0x118) (unitsOf rec))
      let last := match rest with
        | [] => true
        | x :: _ => decide (x.length = 5120)
      let closed := if last then s1.ledger.closed.drop 1 else s1.ledger.closed
      let s2 := { s1 with ledger := { s1.ledger with records := rest, closed := closed } }
      if last then afterRelease s2 else s2

/-- LEDGER_RECORD_WRITE. -/
def execLedgerRecordWrite (s : State) : Res := .next (recordWrite s)

/-- LDG_STATUS.PENDING: receipts formed and not yet written to the host. -/
def ldgPending (s : State) : Nat :=
  s.ledger.openBlk.receipts.length +
    ((s.ledger.closed.filter fun b => b.signed.isNone).map fun b => b.receipts.length).sum +
    (s.ledger.records.filter fun r => decide (r.length = 1024)).length

/-- LDG_OUT_GET written: beyond PUT it is ignored (R262). -/
def writeLdgGet (s : State) (v : Nat) : State :=
  if 2 ^ 31 ≤ sub32 (s.ldg 0x118) v then errState s ldgPage else s.setReg 0 (ldgPage + 0x11C) (v % 2 ^ 32)

/-- LDG_CTRL written: LEAK_SHARE is stored, and acts from the next 4 µs window on; CLOSE_NOW closes the open block (R254, R262).
DESIGN CHOICE (log entry 89): before the start block of R256 there is no block to close. -/
def writeLdgCtrl (s : State) (v : Nat) : State :=
  let s1 := s.setReg 0 (ldgPage + 0x100) (putBits 0 30 30 (v / 2 ^ 30 % 2))
  if bit v 31 ∧ startEnded s then closeBlock s1 3 else s1

/-- LDG_OUT_CFG written: SIZE_LOG2 is 13 to 24 and changes only while EN is 0 (R262). -/
def writeLdgCfg (s : State) (v : Nat) : State :=
  let old := s.ldg 0x108
  let size := bits v 4 0
  if size < 13 ∨ 24 < size then errState s ldgPage
  else if bit old 31 ∧ size ≠ bits old 4 0 then errState s ldgPage
  else s.setReg 0 (ldgPage + 0x108) (flag (bit v 31) * 2 ^ 31 + size)

/-- LDG_OUT_BASE written, a multiple of 1 KiB, only while EN is 0 (R262); the refusal of another value is a DESIGN CHOICE (log
entry 102). -/
def writeLdgBase (s : State) (v : Nat) : State :=
  if bit (s.ldg 0x108) 31 ∨ v % 1024 ≠ 0 then errState s ldgPage else s.setReg 0 (ldgPage + 0x110) v

/-- The start block (R256): CLOSE = 4, no receipts, FIRST_RECEIPT one past the last signed receipt. -/
def startBlock (s : State) : State :=
  let b : Block := ⟨[], s.flash.receiptNext, 0, 0, 0, 0, 0, 0, none, 0⟩
  closeBlock { s with ledger := { s.ledger with openBlk := b } } 4

/-- MONITOR_SAMPLE's part in the ledger: every domain whose monitors delivered a set adds its power, a fault is noted, and
LDG_SAMPLE_CNT counts the set (R242, R246). -/
def sampleLedger (s : State) (uw : List Nat) (missing faults : Nat) : State :=
  let L := s.ledger
  let add (m : SMap Nat) (d n : Nat) : SMap Nat := mset m d (mget m d 0 + n) 0
  let meas := (span 0 3).foldl (fun m d => if bit missing d then m else add m d (uw.getD d 0)) L.meas
  let samples := (span 0 3).foldl (fun m d => if bit missing d then m else add m d 1) L.samples
  let flts := (span 0 3).foldl (fun m d => if bit faults d then add m d 1 else m) L.faults
  { s with ledger := { L with meas := meas, samples := samples, faults := flts } }.count 0 (ldgPage + 0x160) 1

end Sys2Proof.Machine
end

