-- ==== Sys2Proof/Machine/Sync.lean ====
section
/-! DEFINITION. Sys2Proof/Machine/Sync.lean: the sync store, its counters and barriers, and the mirrors of pack objects
(R164 to R184). -/

namespace Sys2Proof.Machine

open Sys2Proof

/-! ## The store -/

/-- An object of this device's store. -/
def State.obj (s : State) (o : Nat) : SyncObj := mget s.sync o SyncObj.zero

/-- An object set. -/
def State.setObj (s : State) (o : Nat) (v : SyncObj) : State := { s with sync := mset s.sync o v SyncObj.zero }

/-- WAITERS: entries held on the object, and each subscribed device once (R176, R183). -/
def SyncObj.waiting (x : SyncObj) : Nat := x.waiters.length + x.subs.length

/-- A WAIT's condition (R169). -/
def waitSatisfied (value target : Nat) : Bool := decide (sub32 value target < 2 ^ 31)

/-- Checks 3 to 5 of R165, for a requester with a partition or one that is never checked against it: 0 where all pass. -/
def storeCheck (s : State) (scope : Bool) (o kind : Nat) (part : Option Nat) : Nat :=
  let x := s.obj o
  let foreign := match part with
    | none => false
    | some p => decide (p ≠ x.part)
  if (scope && !x.pack) || (!x.pack && foreign) then 0xB
  else if x.kind ≠ kind then 1
  else if x.broken then 5
  else 0

/-- A counter of the sync page advanced (R184). -/
def syncCount (s : State) (off n : Nat) : State := s.count 0 (syncPage + off) n

/-- Whether this device forwards changes of pack objects: the manager does, once a standby is named (R275). -/
def forwards (s : State) : Bool := decide (packRole s = 3 ∧ s.fld 0 (packPage + 0x108) 15 15 = 1)

/-- What the manager forwards of an object to the standby: all of it but its waiters and subscribers (R275). -/
def forwardArgs (o : Nat) (x : SyncObj) : List Nat :=
  [o, x.kind, x.part, x.count, x.value, x.gen, x.arrived, x.early, flag x.pack, flag x.broken, flag x.saturated, flag x.misuse,
    x.cause, x.breakerMember, x.breakerRing]

/-- A change of an object that is, or was, open to the pack is forwarded to the standby (R275). -/
def forwardObj (s : State) (o : Nat) (was : Bool) : State :=
  if ((s.obj o).pack || was) && forwards s then sendMsg s .forward (s.fld 0 (packPage + 0x108) 9 0) (forwardArgs o (s.obj o)) else s

/-- A change of an object is pushed to its subscribers, and forwarded to the standby (R176, R275). -/
def publish (s : State) (o : Nat) : State :=
  let x := s.obj o
  forwardObj (x.subs.foldl (fun t m => sendMsg t .push m [o, x.value, x.gen, flag x.broken]) s) o false

/-- An entry held on an object is released with a status. -/
def release (s : State) (w : Waiter) (status res0 res1 : Nat) : State :=
  let s1 := finishEntry s w.ring w.seq status res0 res1 0
  if status = 0 then syncCount s1 0x50 1 else s1

/-- An operation of the store is counted as activity of the hub, and leaves a SYNC_OP record (R243, R363). -/
def syncOpRecord (s : State) (o data : Nat) (who : Who) : State :=
  let s1 := activity s 111 0 1 (if who.ring = 0xFFFF then none else some who.ring)
  trace s1 (blockId syncPage) 3 0 (o + data * 2 ^ 16) who

/-- A SIGNAL acts: the counter advances, and the waits it satisfies complete OK with the value (R168, R169). -/
def signalObj (s : State) (o count : Nat) (who : Who) : State :=
  let x := s.obj o
  let v := add32 x.value count
  let go := x.waiters.filter fun w => waitSatisfied v w.target
  let stay := x.waiters.filter fun w => !waitSatisfied v w.target
  let s1 := syncOpRecord (syncCount (s.setObj o { x with value := v, waiters := stay }) 0x40 1) o v who
  publish (go.foldl (fun t w => release t w 0 v 0) s1) o

/-- How an arrival is met (R172): counted in ARRIVED or EARLY, or refused as saturated or misuse. -/
inductive ArrivalKind where
  | current | early | saturated | misuse
  deriving DecidableEq, Repr

/-- The kind of an arrival with a generation at a barrier. -/
def arrivalKind (x : SyncObj) (g : Nat) : ArrivalKind :=
  let d := (g % 256 + 256 - x.gen) % 256
  if d = 0 then .current
  else if d = 1 then (if x.early + 1 = x.count then .saturated else .early)
  else .misuse

/-- The barrier after an arrival has been counted, before any entry is held or released (R172). -/
def arrivedObj (x : SyncObj) (g : Nat) : SyncObj :=
  match arrivalKind x g with
  | .current =>
    if x.arrived + 1 = x.count then { x with gen := (x.gen + 1) % 256, arrived := x.early, early := 0 }
    else { x with arrived := x.arrived + 1 }
  | .early => { x with early := x.early + 1 }
  | .saturated => { x with saturated := true }
  | .misuse => { x with misuse := true }

/-- Whether an arrival rolls the barrier over. -/
def rollsOver (x : SyncObj) (g : Nat) : Bool := decide (arrivalKind x g = .current ∧ x.arrived + 1 = x.count)

/-- An arrival acts; an entry that waits is given with its ring and sequence. A rollover releases every entry held on the
old generation, the last arriver among them (R172, R173). -/
def arriveObj (s : State) (o g : Nat) (hold : Option (Nat × Nat)) (who : Who) : State :=
  let x := s.obj o
  let y := arrivedObj x g
  match arrivalKind x g with
  | .saturated => syncCount (publish (s.setObj o y) o) 0x68 1
  | .misuse => syncCount (publish (s.setObj o y) o) 0x68 1
  | _ =>
    let mine : List Waiter := match hold with
      | none => []
      | some (r, q) => [⟨r, q, g % 256, y.gen, y.arrived⟩]
    let held := x.waiters ++ mine
    let go := if rollsOver x g then held.filter (fun w => w.target = x.gen) else []
    let stay := if rollsOver x g then held.filter (fun w => !(w.target == x.gen)) else held
    let s1 := syncOpRecord (syncCount (s.setObj o { y with waiters := stay }) 0x48 1) o
      (y.gen + y.arrived * 2 ^ 8) who
    publish (go.foldl (fun t w => release t w 0 w.res0 w.res1) s1) o

/-- An object breaks: every entry held on it is released with SYNC_BROKEN, and subscribed devices are told and held no longer,
so that WAITERS is 0 (R178, R180). Descriptors that wait on it are released by Machine/Retriever.lean. -/
def breakObj (s : State) (o cause member ring : Nat) : State :=
  let x := s.obj o
  if x.broken then s
  else
    let y := { x with broken := true, cause := cause, breakerMember := member, breakerRing := ring, waiters := [] }
    let s1 := syncCount (s.setObj o y) 0x60 1
    let s2 := publish (x.waiters.foldl (fun t w => release t w 5 w.res0 w.res1) s1) o
    s2.setObj o { s2.obj o with subs := [] }

/-! ## Mirrors (R176) -/

/-- Entries of the mirror table in use: SYNC_MIRROR. -/
def mirrorsUsed (s : State) : Nat := s.mirrors.length

/-- A mirror's state decides a waiter: 0 released OK, 5 broken, none where it goes on waiting. A wait on a counter ends when
the condition of R169 holds, a held arrival when its generation lies behind the mirrored one. -/
def mirrorDecides (m : Mirror) (barrier broken : Bool) (w : Waiter) : Option Nat :=
  if !m.known then none
  else if broken then some 5
  else if barrier then
    let d := (m.gen + 256 - w.target) % 256
    if 1 ≤ d ∧ d < 128 then some 0 else none
  else if waitSatisfied m.value w.target then some 0 else none

/-- Whether a started entry waits on a barrier. -/
def waitsOnBarrier (s : State) (w : Waiter) : Bool :=
  match openFlight (s.ring w.ring) w.seq with
  | some f => match f.wait with
    | .barrier _ _ _ => true
    | _ => false
  | none => false

/-- The waiters of a mirror are decided one by one against its state. -/
def settleMirror (s : State) (m : Mirror) (broken : Bool) : List Waiter → State × List Waiter
  | [] => (s, [])
  | w :: r =>
    match mirrorDecides m (waitsOnBarrier s w) broken w with
    | none => let (t, rest) := settleMirror s m broken r; (t, w :: rest)
    | some st => settleMirror (release s w st (if waitsOnBarrier s w then w.res0 else m.value) w.res1) m broken r

/-- A mirror put back after its waiters have been settled; it is freed when none is left, and the manager is told. -/
def putMirror (s : State) (m : Mirror) (ws : List Waiter) : State :=
  let others := s.mirrors.filter fun x => !(x.obj == m.obj)
  if ws = [] then
    sendMsg { s with mirrors := others } .subscribe (packManager s) [m.obj, 0]
  else { s with mirrors := others ++ [{ m with waiters := ws }] }

/-- Whether a pack-scope wait blocks: no mirror of its object decides it at once (R176, R184). -/
def mirrorBlocks (s : State) (o : Nat) (barrier : Bool) (w : Waiter) : Bool :=
  match s.mirrors.find? fun m => m.obj == o with
  | none => true
  | some m => (mirrorDecides m barrier false w).isNone

/-- A pack-scope wait on a worker joins the mirror of its object if there is one, and is decided against it; otherwise it
waits for MIRROR_SUBSCRIBE. -/
def joinMirror (s : State) (o : Nat) (w : Waiter) : State :=
  match s.mirrors.find? fun m => m.obj == o with
  | none => { s with mirrorWait := s.mirrorWait ++ [⟨o, w, false⟩] }
  | some m =>
    let (t, ws) := settleMirror s m false (m.waiters ++ [w])
    putMirror t m ws

/-- The kind of object that the manager has confirmed for a mirror, 0 where it has confirmed none. -/
def mirrorKind (s : State) (o : Nat) : Nat :=
  match s.mirrors.find? fun m => m.obj == o with
  | none => 0
  | some m => if m.known then m.kind else 0

/-- The value that the mirror of an object holds. -/
def mirrorValue (s : State) (o : Nat) : Nat :=
  match s.mirrors.find? fun m => m.obj == o with
  | none => 0
  | some m => m.value

/-- A pushed state of an object updates its mirror and settles its waiters. -/
def pushMirror (s : State) (o value gen : Nat) (broken : Bool) : State :=
  match s.mirrors.find? fun m => m.obj == o with
  | none => s
  | some m =>
    let m1 := { m with known := true, value := value, gen := gen }
    let (t, ws) := settleMirror s m1 broken m1.waiters
    putMirror t m1 ws

/-- A wait is taken from every list that holds it. -/
def forgetWaiter (s : State) (r q : Nat) : State :=
  let drop (ws : List Waiter) := ws.filter fun w => !(w.ring == r && w.seq == q)
  { s with sync := s.sync.map fun p => (p.1, { p.2 with waiters := drop p.2.waiters })
           mirrors := s.mirrors.map fun m => { m with waiters := drop m.waiters }
           mirrorWait := s.mirrorWait.filter fun p => !(p.waiter.ring == r && p.waiter.seq == q) }

/-- The wait of an entry, in whichever list holds it. -/
def waiterOf (s : State) (r q : Nat) : Option Waiter :=
  ((s.sync.flatMap fun p => p.2.waiters) ++ (s.mirrors.flatMap fun m => m.waiters) ++ s.mirrorWait.map (·.waiter)).find?
    fun w => w.ring == r && w.seq == q

/-- GEN and ARRIVED as they stood after a held arrival acted, which its completion shows whatever its status; 0 and 0 for a WAIT
(R171, R315). -/
def waiterRes (s : State) (r q : Nat) (w : EntryWait) : Nat × Nat :=
  match w, waiterOf s r q with
  | .barrier _ _ _, some x => (x.res0, x.res1)
  | _, _ => (0, 0)

/-- Mirrors that no wait uses are freed (R176 rule 3). -/
def freeMirrors (s : State) : State :=
  let gone := s.mirrors.filter fun m => m.waiters.isEmpty
  let left := s.mirrors.filter fun m => !m.waiters.isEmpty
  gone.foldl (fun t m => sendMsg t .subscribe (packManager t) [m.obj, 0]) { s with mirrors := left }

/-! ## Ring entries WAIT, SIGNAL and ARRIVE (R124, R165, R171) -/

/-- Whether a pack-scope operation has no pack to go to (check 2 of R165). -/
def packGone (s : State) : Bool := decide (packRole s = 0) || s.pack.mgrLost

/-- Whether an entry acts on another device's store. -/
def actsRemote (s : State) (b : List Byte) : Bool := entryScope b && decide (packRole s ≠ 3)

/-- Reserved fields of WAIT and SIGNAL are zero (R124). -/
def waitFormat (b : List Byte) : Bool :=
  decide (field b 1 1 % 64 = 0) && zeroBytes b 0x0C 28 && zeroBytes b 0x30 16

/-- Counter or barrier that an entry names. -/
def entrySync (b : List Byte) : Nat := field b 6 2

/-- The status that checks 1 to 5 of R165 give an entry of a ring on a kind of object; a remote entry is checked at the
manager from check 3 on. -/
def syncEntryCheck (s : State) (r : Nat) (b : List Byte) (fmt : Bool) (kind : Nat) : Nat :=
  if !fmt then 2
  else if entryScope b && packGone s then 0xA
  else if actsRemote s b then orRefused s r 0
  else orRefused s r (storeCheck s (entryScope b) (entrySync b) kind (some (s.ring r).part))

/-- A WAIT starts (R124, R165, R169). -/
def doWait (s : State) (r : Nat) (b : List Byte) : State :=
  let q := (s.ring r).issue
  let o := entrySync b
  let target := field b 8 4
  let w : Waiter := ⟨r, q, target, 0, 0⟩
  let st := syncEntryCheck s r b (waitFormat b) 1
  if st ≠ 0 then actEntry s r b st 0 0 0
  else if actsRemote s b then
    if mirrorKind s o = 2 then actEntry s r b 1 0 0 0
    else if mirrorBlocks s o false w then joinMirror (syncCount (beginEntry s r b (.counter o target true)) 0x58 1) o w
    else actEntry s r b 0 (mirrorValue s o) 0 0
  else if waitSatisfied (s.obj o).value target then actEntry s r b 0 (s.obj o).value 0 0
  else
    let s1 := syncCount (beginEntry s r b (.counter o target false)) 0x58 1
    s1.setObj o { s1.obj o with waiters := (s1.obj o).waiters ++ [w] }

/-- A SIGNAL starts (R124, R165, R168): at this device's store, or as a message to the manager. -/
def doSignal (s : State) (r : Nat) (b : List Byte) : State :=
  let q := (s.ring r).issue
  let o := entrySync b
  let count := field b 8 2
  let fmt := waitFormat b && decide (field b 10 2 = 0) && decide (count ≠ 0)
  let st := syncEntryCheck s r b fmt 1
  if st ≠ 0 then actEntry s r b st 0 0 0
  else if actsRemote s b then
    sendMsg (beginEntry s r b (.remote o)) .signal (packManager s) [1, o, count, r, q]
  else
    let s1 := beginEntry s r b .running
    let who : Who := ⟨r, q, entryLayer b, entryOper b, filterMatch s (entryLayer b) (entryOper b)⟩
    let s2 := signalObj s1 o count who
    finishEntry s2 r q 0 (s2.obj o).value 0 0

/-- Reserved fields of ARRIVE are zero (R171). -/
def arriveFormat (b : List Byte) : Bool :=
  decide (field b 1 1 % 32 = 0) && zeroBytes b 0x09 31 && zeroBytes b 0x30 16

/-- WAIT bit of an ARRIVE. -/
def arriveWaits (b : List Byte) : Bool := bit (field b 1 1) 5

/-- An ARRIVE starts (R165, R171, R172): at this device's store, or as a message to the manager. -/
def doArrive (s : State) (r : Nat) (b : List Byte) : State :=
  let q := (s.ring r).issue
  let o := entrySync b
  let g := field b 8 1
  let st := syncEntryCheck s r b (arriveFormat b) 2
  if st ≠ 0 then actEntry s r b st 0 0 0
  else if actsRemote s b then
    sendMsg (beginEntry s r b (.remote o)) .arrive (packManager s) [2, o, g, r, q]
  else
    let x := s.obj o
    let who : Who := ⟨r, q, entryLayer b, entryOper b, filterMatch s (entryLayer b) (entryOper b)⟩
    match arrivalKind x g with
    | .saturated => finishEntry (arriveObj (beginEntry s r b .running) o g none who) r q 1 0 0 0
    | .misuse => finishEntry (arriveObj (beginEntry s r b .running) o g none who) r q 1 0 0 0
    | _ =>
      let y := arrivedObj x g
      if arriveWaits b then
        arriveObj (syncCount (beginEntry s r b (.barrier o g false)) 0x58 (flag (!rollsOver x g))) o g (some (r, q)) who
      else finishEntry (arriveObj (beginEntry s r b .running) o g none who) r q 0 y.gen y.arrived 0

/-- WAIT. -/
def execWait (r : Nat) (s : State) : Res :=
  onUnit (decide (r < 65536)) (match nextActing s r 1 with
    | none => s
    | some b => doWait s r b)

/-- SIGNAL. -/
def execSignal (r : Nat) (s : State) : Res :=
  onUnit (decide (r < 65536)) (match nextActing s r 2 with
    | none => s
    | some b => doSignal s r b)

/-- ARRIVE. -/
def execArrive (r : Nat) (s : State) : Res :=
  onUnit (decide (r < 65536)) (match nextActing s r 3 with
    | none => s
    | some b => doArrive s r b)

/-- MIRROR_SUBSCRIBE: the first wait of a ring that has found no mirror takes a free one of the 1,024 and subscribes at the
manager; with none free it goes on waiting, counted once (R176). -/
def execMirrorSubscribe (r : Nat) (s : State) : Res :=
  onUnit (decide (r < 65536)) (match s.mirrorWait.find? fun p => p.waiter.ring == r with
    | none => s
    | some p =>
      let left := s.mirrorWait.filter fun x => !(x == p)
      if s.mirrors.any fun m => m.obj == p.obj then joinMirror { s with mirrorWait := left } p.obj p.waiter
      else if s.mirrors.length < 1024 then
        let kind := if waitsOnBarrier s p.waiter then 2 else 1
        let m : Mirror := ⟨p.obj, kind, false, 0, 0, [p.waiter]⟩
        sendMsg { s with mirrorWait := left, mirrors := s.mirrors ++ [m] } .subscribe (packManager s) [p.obj, 1, kind]
      else if p.counted then s
      else
        let mark := s.mirrorWait.map fun x => if x = p then { p with counted := true } else x
        syncCount { s with mirrorWait := mark } 0x78 1)

/-- A message of a source is applied once (R280): the state in which it counts as applied, none for a duplicate. -/
def firstTime (s : State) (src mseq : Nat) : Option State :=
  let k := src * 2 ^ 32 + mseq % 2 ^ 32
  if k ∈ s.pack.seen then none
  else some { s with pack := { s.pack with seen := putRising k s.pack.seen } }

/-- A duplicate is acknowledged again and counted, and not applied again (R280, R288). -/
def duplicate (s : State) (src mseq : Nat) : State :=
  sendMsg (s.count 0 (packPage + 0x78) 1) .mseqAck src [mseq, 0, 0, 0]

/-- The acknowledgement of an applied message, with a status and result words for a sync operation. -/
def ackMsg (s : State) (src mseq status res0 res1 : Nat) : State := sendMsg s .mseqAck src [mseq, status, res0, res1]

/-- MIRROR_PUSH: a change that the manager pushes updates the mirror and settles its waits, once, and is acknowledged (R176, R178,
R280). -/
def execMirrorPush (m : SyncMsg) (value gen : Nat) (broken : Bool) (s : State) : Res :=
  onUnit (decide (m.src < 1024 ∧ m.obj < 65536)) (match firstTime s m.src m.mseq with
    | none => duplicate s m.src m.mseq
    | some t => pushMirror (ackMsg t m.src m.mseq 0 0 0) m.obj (value % 2 ^ 32) (gen % 256) broken)

/-- A SIGNAL, ARRIVE or subscription of another member is applied at the manager's store and answered (R165, R176). -/
def packSyncAct (s : State) (src mseq op o arg : Nat) : State :=
  let who := Who.none
  if packRole s ≠ 3 then s
  else match firstTime (syncCount s 0x70 1) src mseq with
    | none => duplicate s src mseq
    | some t =>
      if op = 1 then
        let st := storeCheck t true o 1 none
        if st ≠ 0 then ackMsg t src mseq st 0 0
        else
          let u := signalObj t o arg who
          ackMsg u src mseq 0 (u.obj o).value 0
      else if op = 2 then
        let st := storeCheck t true o 2 none
        let x := t.obj o
        let y := arrivedObj x arg
        if st ≠ 0 then ackMsg t src mseq st 0 0
        else match arrivalKind x arg with
          | .saturated => ackMsg (arriveObj t o arg none who) src mseq 1 0 0
          | .misuse => ackMsg (arriveObj t o arg none who) src mseq 1 0 0
          | _ => ackMsg (arriveObj t o arg none who) src mseq 0 y.gen y.arrived
      else if op = 3 then
        let x := t.obj o
        let st := storeCheck t true o (if arg = 2 then 2 else 1) none
        if st ≠ 0 then ackMsg t src mseq st 0 0
        else
          let u := t.setObj o { x with subs := putRising src x.subs }
          sendMsg (ackMsg u src mseq 0 0 0) .push src [o, x.value, x.gen, flag x.broken]
      else if op = 4 then
        let x := t.obj o
        ackMsg (t.setObj o { x with subs := x.subs.filter (· ≠ src) }) src mseq 0 0 0
      else ackMsg t src mseq 2 0 0

/-- An object as it is forwarded (R275): a worker that gets one is the member that the manager has named standby (R271). -/
def takeForward (s : State) (o : Nat) (x : SyncObj) : State :=
  (s.setObj o { x with waiters := (s.obj o).waiters, subs := (s.obj o).subs }).setFld 0 (packPage + 0x100) 31 30 2

/-- STANDBY_SYNC_FORWARD: the manager's change of a pack object is applied to the standby's copy, once, and is acknowledged (R275,
R280). -/
def execStandbySyncForward (m : SyncMsg) (kind part count value gen arrived early : Nat) (f : ObjFlags) (s : State) : Res :=
  onUnit (decide (m.src < 1024 ∧ m.obj < 65536))
    (if (packRole s = 1 ∨ packRole s = 2) ∧ m.src = packManager s then
      match firstTime s m.src m.mseq with
      | none => duplicate s m.src m.mseq
      | some t =>
        takeForward (ackMsg t m.src m.mseq 0 0 0) m.obj
          { SyncObj.zero with kind := kind % 4, pack := f.pack, part := part % 16, count := count % 65536, value := value % 2 ^ 32
                              gen := gen % 256, arrived := arrived % 65536, early := early % 65536, broken := f.broken
                              saturated := f.saturated, misuse := f.misuse, cause := f.cause % 4, breakerMember := f.member % 1024
                              breakerRing := f.ring % 65536 }
    else s)

end Sys2Proof.Machine
end

