-- ==== Sys2Proof/Machine/Trickle.lean ====
section
/-! DEFINITION. Sys2Proof/Machine/Trickle.lean: trickle FIFOs and the writes that their windows divert (R137 to R141). -/

namespace Sys2Proof.Machine

open Sys2Proof

/-! ## Registers of a FIFO -/

/-- A trickle FIFO's store. -/
def State.trickle (s : State) (n f : Nat) : Trickle := mget (s.rtv n).trk f Trickle.zero

/-- A trickle FIFO's store set. -/
def State.setTrickle (s : State) (n f : Nat) (v : Trickle) : State :=
  s.setRtv n { s.rtv n with trk := mset (s.rtv n).trk f v Trickle.zero }

/-- FLUSH_US: 0 acts as 1 (R141). DESIGN CHOICE (log entry 83): a value above 10,000 acts as written. -/
def trkFlushUs (s : State) (n f : Nat) : Nat := max 1 (bits (trkReg s n f 0x1A8) 13 0)

/-! ## Taking units -/

/-- Units in a partial word. -/
def Trickle.units (t : Trickle) : Nat := t.part.length / 4

/-- Whether a FIFO takes n more units: whole words are held up to 64, and a write longer than that enters as the words before
it leave, once it has found none (R139). -/
def Trickle.takes (t : Trickle) (n : Nat) : Bool :=
  t.rest.isEmpty && (decide (t.words.length + (t.units + n) / 16 ≤ 64) || (t.words.isEmpty && decide (1024 < n)))

/-- The mask of a word whose first b bytes hold data. -/
def wordMask (b : Nat) : Nat := 2 ^ b - 1

/-- Units put into the partial word, whole words moved on (R138). -/
def packUnits : (fuel : Nat) → List Byte → List (List Byte × Nat) → List Byte × List (List Byte × Nat)
  | 0, part, words => (part, words)
  | fuel + 1, part, words =>
    if 64 ≤ part.length then packUnits fuel (part.drop 64) (words ++ [(part.take 64, wordMask 64)]) else (part, words)

/-- A FIFO takes bytes as 4-byte units in ascending address; bytes short of a unit are free values (log entry 32). -/
def Trickle.take (t : Trickle) (bs : List Byte) (seed : Nat) : Trickle :=
  let short := (4 - bs.length % 4) % 4
  let whole := bs ++ (span bs.length short).map (Config.freeByte seed)
  let (part, words) := packUnits (whole.length / 64 + 2) (t.part ++ whole) t.words
  let rest := if words.length ≤ 64 then [] else (words.drop 64).flatMap (·.1) ++ part
  { t with part := if words.length ≤ 64 then part else [], words := words.take 64, rest := rest,
           unitsIn := t.unitsIn + (whole.length - rest.length) / 4, quietUs := 0, stalled := !rest.isEmpty }

/-- What a long write still has to enter follows a word that has left (R139). -/
def Trickle.refill (t : Trickle) : Trickle :=
  if t.rest = [] then t
  else if 64 ≤ t.rest.length then
    { t with words := t.words ++ [(t.rest.take 64, wordMask 64)], rest := t.rest.drop 64, unitsIn := t.unitsIn + 16,
             quietUs := 0, stalled := !(t.rest.drop 64).isEmpty }
  else { t with part := t.rest, rest := [], unitsIn := t.unitsIn + t.rest.length / 4, quietUs := 0, stalled := false }

/-- The partial word is padded with zero bytes and becomes a word of its own; with no unit there is nothing to pad (R140). -/
def Trickle.pad (t : Trickle) : Trickle :=
  if t.part = [] then t
  else
    let w := t.part ++ List.replicate (64 - t.part.length) (0 : Byte)
    { t with part := [], words := t.words ++ [(w, wordMask t.part.length)], quietUs := 0 }

/-! ## Writes of stage memory that windows may divert -/

/-- A write cut at the 64-byte lines it touches. -/
def linePieces : (fuel : Nat) → Nat → List Byte → List (Nat × List Byte)
  | 0, _, _ => []
  | fuel + 1, a, bs =>
    if bs = [] then []
    else
      let n := 64 - a % 64
      (a, bs.take n) :: linePieces fuel (a + n) (bs.drop n)

/-- The pieces of a write. -/
def piecesOf (a : Nat) (bs : List Byte) : List (Nat × List Byte) := linePieces (bs.length / 64 + 2) a bs

/-- Units that each FIFO would be asked to take by a write. -/
def unitsFor (s : State) (k : Nat) (ps : List (Nat × List Byte)) : Nat :=
  ps.foldl (fun n p => if trickleAt s p.1 = some k then n + (p.2.length + 3) / 4 else n) 0

/-- Whether a write into stage memory can land now: every FIFO whose window it meets takes its units (R139). -/
def stageReady (s : State) (a : Nat) (bs : List Byte) : Bool :=
  (piecesOf a bs).all fun p => match trickleAt s p.1 with
    | none => true
    | some k => (s.trickle (k / 8) (k % 8)).takes (unitsFor s k (piecesOf a bs))

/-- The FIFOs that hold a write back are marked as holding a writer (R139, R141). -/
def markStalled (s : State) (a : Nat) (bs : List Byte) : State :=
  (piecesOf a bs).foldl (fun t p => match trickleAt t p.1 with
    | none => t
    | some k =>
      let T := t.trickle (k / 8) (k % 8)
      if T.takes (unitsFor t k (piecesOf a bs)) then t else t.setTrickle (k / 8) (k % 8) { T with stalled := true }) s

/-- Bytes written into stage memory by the fell, a Retriever or a control core: window lines go to their FIFO (R137). The
store function tells how the other lines are stored. -/
def stageWriteBy (store : State → Nat → List Byte → State) (s : State) : List (Nat × List Byte) → State
  | [] => s
  | (a, bs) :: r =>
    match trickleAt s a with
    | none => stageWriteBy store (store s a bs) r
    | some k =>
      let T := (s.trickle (k / 8) (k % 8)).take bs s.freeCtr
      stageWriteBy store (s.fresh.setTrickle (k / 8) (k % 8) T) r

/-- A write into stage memory by a Retriever or a control core. -/
def State.stageWrite (s : State) (a : Nat) (bs : List Byte) : State :=
  stageWriteBy (fun t x b => t.stageStore x b) s (piecesOf a bs)

/-! ## Writing words out -/

/-- PUT and GET of a FIFO. -/
def trkPut (s : State) (n f : Nat) : Nat := trkReg s n f 0x1A0
def trkGet (s : State) (n f : Nat) : Nat := trkReg s n f 0x1A4

/-- Bytes of a Retriever's FIFO stored at its destination: HBM, which other dies' words reach over the bridges at input 5, or
host memory of PF0 (R138, R149, log entries 24 and 34). DESIGN CHOICE (log entry 83): a destination outside the HBM map, or
behind a bridge that has been taken down, takes nothing, and PUT passes the word all the same. -/
def trkStore (s : State) (n : Nat) (host : Bool) (a : Nat) (bs : List Byte) : State :=
  if host then s.send (.hostWrite 0 a bs)
  else if inSpace 1 a bs.length && hbmMeets s (rtvDie n) a bs.length then
    (hbmTraffic s (rtvDie n) a bs.length 5 5 n true none).hbmStore a bs Who.none none
  else s

/-- FLUSH entries whose units have all been written complete, with PUT (R140, R315). -/
def settleFlush (s : State) (n f : Nat) : State :=
  let out := (s.trickle n f).unitsOut
  s.rings.foldl (fun t p => (s.ring p.1).fly.foldl (fun u fl =>
    match fl.wait with
    | .flush n' f' unit =>
      if n' = n ∧ f' = f ∧ unit ≤ out then finishEntry u p.1 fl.seq 0 (trkPut u n f) 0 0 else u
    | _ => u) t) s

/-- A FIFO that is being disabled and holds nothing more stops diverting its window (R141). -/
def settleDisable (s : State) (n f : Nat) : State :=
  let T := s.trickle n f
  match T.disabling with
  | none => s
  | some v =>
    if T.words = [] ∧ T.part = [] ∧ T.rest = [] then
      (s.setTrickle n f { T with disabling := none }).setReg f (rtvPage n + 0x184) v
    else s

/-- TRK_SYNC is signalled by 1 per word, unless it is 0xFFFF. DESIGN CHOICE (log entry 83): a FIFO has no ring and no partition,
so the signal passes no partition check, and an object that is no counter, or broken, is left alone with no report. -/
def trkSignal (s : State) (n f : Nat) : State :=
  let o := trkSync s n f
  if o = 0xFFFF ∨ storeCheck s false o 1 none ≠ 0 then s else signalObj s o 1 Who.none

/-- The oldest word and its mask are written to the destination while it is not full; PUT passes the word and TRK_SYNC is
signalled (R138, R139). -/
def writeWord (s : State) (n f : Nat) : State :=
  let T := s.trickle n f
  let put := trkPut s n f
  match T.words with
  | [] => s
  | (w, mask) :: rest =>
    if sub32 put (trkGet s n f) = 2 ^ trkLog2 s n f then s
    else
      let i := put % 2 ^ trkLog2 s n f
      let host := trkHost s n f && decide (8 ≤ n)
      let s1 := trkStore s n host (trkReg s n f 0x190 + 64 * i) w
      let s2 := trkStore s1 n host (trkReg s n f 0x198 + 8 * i) (leBytes 8 mask)
      let units := (Nat.log2 (mask + 1) + 3) / 4
      let T1 := { T with words := rest, unitsOut := T.unitsOut + units, stalled := !T.rest.isEmpty }
      let s3 := s2.setTrickle n f T1.refill
      let s4 := (s3.setReg f (rtvPage n + 0x1A0) (add32 put 1)).count 0 (rtvPage n + 0x68) 1
      settleDisable (settleFlush (trkSignal s4 n f) n f) n f

/-- The partial word of a FIFO is padded (R140). -/
def padWord (s : State) (n f : Nat) : State := settleDisable (s.setTrickle n f (s.trickle n f).pad) n f

/-- A FIFO's flush timer has run out: its partial word is padded, and the timeout counted (R140, R141). -/
def trickleTimeout (s : State) (n f : Nat) : State :=
  let T := s.trickle n f
  if T.part ≠ [] ∧ trkFlushUs s n f ≤ T.quietUs then (padWord s n f).count 0 (rtvPage n + 0x70) 1 else s

/-- Every FIFO flushes (R283). -/
def flushAll (s : State) : State := (span 0 80).foldl (fun t k => padWord t (k / 8) (k % 8)) s

/-- GET written: beyond PUT it is ignored (R141). -/
def writeGet (s : State) (n f v : Nat) : State :=
  if 2 ^ 31 ≤ sub32 (trkPut s n f) v then errState s (rtvPage n) else s.setReg f (rtvPage n + 0x1A4) (v % 2 ^ 32)

/-- RTV_TRK_CTRL written: FLUSH_US is stored, FLUSH pads the partial word (R140). -/
def writeTrkCtrl (s : State) (n f v : Nat) : State :=
  let s1 := s.setReg f (rtvPage n + 0x1A8) (bits v 13 0)
  if bit v 31 then padWord s1 n f else s1

/-- RTV_TRK_CFG written (R137, R141). While the FIFO is enabled only a write that clears EN is accepted: it flushes first, and
its value stands once the flush has drained; until then writes are accepted as while EN = 0. HOST is that of Retrievers 8 and
9 alone. DESIGN CHOICE (log entry 83): a write with DEST_LOG2 outside 6 to 24, or with EN = 1 and a HOME that is not the
Loom of Retriever 0 to 7, is refused with STATE; one that clears EN keeps DEST_LOG2 as it stood instead. -/
def writeTrkCfg (s : State) (n f v : Nat) : State :=
  let page := rtvPage n
  let old := trkReg s n f 0x184
  let T := s.trickle n f
  let v1 := if n < 8 then putBits v 30 30 0 else v
  let v2 := putBits (v1 % 2 ^ 32) 20 16 0
  let okRange := decide (6 ≤ bits v 26 21) && decide (bits v 26 21 ≤ 24)
  let okHome := decide (8 ≤ n ∨ bits v 29 27 = n ∨ ¬ bit v 31)
  if bit old 31 then
    if !bit v 31 then
      let v3 := if okRange then v2 else putBits v2 26 21 (bits old 26 21)
      settleDisable (s.setTrickle n f { T.pad with disabling := some v3 }) n f
    else if T.disabling.isSome && okRange && okHome then s.setTrickle n f { T with disabling := some v2 }
    else errState s page
  else if okRange && okHome then s.setReg f (page + 0x184) v2
  else errState s page

/-- A configuration register of a FIFO other than RTV_TRK_CFG written (R141). DESIGN CHOICE (log entry 83): a DEST or MASK that
is not aligned is refused with STATE. -/
def writeTrkReg (s : State) (n f off v : Nat) : State :=
  let page := rtvPage n
  let aligned := (off = 0x190 → v % 64 = 0) ∧ (off = 0x198 → v % 8 = 0)
  if (trkEn s n f ∧ (s.trickle n f).disabling.isNone) ∨ ¬ aligned then errState s page
  else
    let w := if off = 0x188 then v % 2 ^ 20 else if off = 0x18C then v % 2 ^ 21 else v
    s.setReg f (page + off) w

/-- A microsecond of the hub timer at the FIFOs: flush timers run, and a Retriever of which any FIFO holds a writer counts a
stall (R140, R141). -/
def trickleTick (s : State) : State :=
  s.rtvs.foldl (fun t p =>
    let trk := p.2.trk.map fun q => (q.1, if q.2.part = [] then q.2 else { q.2 with quietUs := q.2.quietUs + 1 })
    let t1 := t.setRtv p.1 { t.rtv p.1 with trk := trk }
    if p.2.trk.any fun q => q.2.stalled then t1.count 0 (rtvPage p.1 + 0x78) 1 else t1) s

/-! ## Commands -/

/-- TRICKLE_WRITE: bytes written into stage memory from a window's side; they land, or the writer stalls (R137, R139). -/
def execTrickleWrite (loom off : Nat) (data : List Byte) (s : State) : Res :=
  let a := loom * 2 ^ 26 + off
  onUnit (decide (loom < 8) && inSpace 0 a data.length)
    (if stageReady s a data then s.stageWrite a data else markStalled s a data)

/-- TRICKLE_WORD_WRITE. -/
def execTrickleWordWrite (n f : Nat) (s : State) : Res := onUnit (decide (n < 10 ∧ f < 8)) (writeWord s n f)

/-- TRICKLE_TIMEOUT. -/
def execTrickleTimeout (n f : Nat) (s : State) : Res := onUnit (decide (n < 10 ∧ f < 8)) (trickleTimeout s n f)

/-- A FLUSH entry: reserved fields, as R134 reserves them. DESIGN CHOICE (log entry 83): one that names Retriever 10 to 15, of
which the spec says nothing, fails this check with BAD_DESCRIPTOR. -/
def flushFormat (b : List Byte) : Bool :=
  decide (field b 1 1 % 128 = 0) && decide (field b 6 1 < 10) && decide (field b 7 1 < 8) && zeroBytes b 0x08 32 &&
    zeroBytes b 0x30 16

/-- A FLUSH entry acts: the partial word is padded, and the entry waits until every unit that entered before it has been
written (R140). -/
def doFlush (s : State) (r : Nat) (b : List Byte) : State :=
  let n := field b 6 1
  let f := field b 7 1
  let st := orRefused s r (if flushFormat b then 0 else 2)
  if st ≠ 0 then actEntry s r b st 0 0 0
  else
    let s1 := beginEntry s r b (.flush n f (s.trickle n f).unitsIn)
    settleFlush (padWord s1 n f) n f

/-- FLUSH. -/
def execFlush (r : Nat) (s : State) : Res :=
  onUnit (decide (r < 65536)) (match nextActing s r 8 with
    | none => s
    | some b => doFlush s r b)

end Sys2Proof.Machine
end

