-- ==== Sys2Proof/Machine/Retriever.lean ====
section
/-! DEFINITION. Sys2Proof/Machine/Retriever.lean: Retriever descriptors, their checks, requests, data rings and channels
(R114, R125 to R136, R196, R408). -/

namespace Sys2Proof.Machine

open Sys2Proof

/-! ## Checks of a descriptor (R126, R196, R308) -/

/-- RTV_FILL. -/
def descFill (b : List Byte) : Bool := descOpcode b == 0x21

/-- DST_RING and SRC_RING. -/
def descToRing (b : List Byte) : Bool := descFlag b 5
def descFromRing (b : List Byte) : Bool := descFlag b 4

/-- Bytes from the first to past the last of a descriptor's rows. -/
def descExtent (b : List Byte) (stride : Nat) : Nat := (descRows b - 1) * stride + descRowBytes b

/-- Whether an extent lies in a space (check 6): one Loom's stage memory, the HBM map, a host address of 64 bits, or the HBM
map of a peer. -/
def extentInside (sp a n : Nat) : Bool :=
  match sp with
  | 0 => decide (a < 2 ^ 29 ∧ a % 2 ^ 26 + n ≤ 2 ^ 26)
  | 2 => decide (a + n ≤ 2 ^ 64)
  | _ => decide (a + n ≤ 2 ^ 41)

/-- Whether the whole area of a data ring lies in its space. -/
def ringAreaInside (R : Ring) : Bool :=
  decide (R.base + R.slots * R.slotSize * 64 ≤ if R.space = 0 then 2 ^ 26 else 2 ^ 41)

/-- The checks of R126 in their order, as one truth: whether a descriptor run by a Retriever passes all of them. -/
def descFormat (s : State) (n : Nat) (b : List Byte) : Bool :=
  let R := s.ring (descRing b)
  let ringSide := descToRing b || descFromRing b
  let stride := if descToRing b then descDstStride b else descSrcStride b
  let c1 := decide (field b 1 1 % 16 = 0) && decide (field b 6 1 < 8) && zeroBytes b 0x36 10
  let c2 := decide (1 ≤ descClass b ∧ descClass b ≤ 5 ∧ descSrcSpace b ≤ 3 ∧ descDstSpace b ≤ 3)
  let c3 := (decide (8 ≤ n) || decide (descSrcSpace b < 2 ∧ descDstSpace b < 2)) &&
    !(descFill b && (decide (descSrcSpace b ≠ 0) || descFromRing b))
  let c4 := (descFill b || decide (descSrc b % 64 = 0)) && decide (descDst b % 64 = 0) &&
    decide (descRowBytes b % 64 = 0 ∧ descSrcStride b % 64 = 0 ∧ descDstStride b % 64 = 0 ∧ descRows b ≠ 0 ∧
      descRowBytes b ≠ 0) &&
    !(descToRing b && decide (descDst b ≠ 0)) && !(descFromRing b && decide (descSrc b ≠ 0))
  let c5 := !(descToRing b && descFromRing b) &&
    (!ringSide || (decide (R.kind = 2) && decide (descExtent b stride ≤ R.slotSize * 64)))
  let src6 := descFill b || (if descFromRing b then ringAreaInside R
    else extentInside (descSrcSpace b) (descSrc b) (descExtent b (descSrcStride b)))
  let dst6 := if descToRing b then ringAreaInside R
    else extentInside (descDstSpace b) (descDst b) (descExtent b (descDstStride b))
  c1 && c2 && c3 && c4 && c5 && src6 && dst6

/-- Whether one of `rows` rows of `len` bytes, `stride` apart from `base`, meets the addresses from lo up to hi. -/
def rowsMeet (base stride rows len lo hi : Nat) : Bool :=
  let i := if lo < base + len then 0 else if stride = 0 then rows else (lo + 1 - base - len + stride - 1) / stride
  decide (i < rows) && decide (base + i * stride < hi)

/-- Whether every row of an extent of HBM or stage memory lies in a partition's memory (R308). -/
def rowsPermitted (s : State) (part sp base stride rows len : Nat) : Bool :=
  if sp = 0 then partReaches s part 0 base 1
  else
    let n := (rows - 1) * stride + len
    (span (base / 2 ^ 30) ((base + n - 1) / 2 ^ 30 + 1 - base / 2 ^ 30)).all fun g =>
      !rowsMeet base stride rows len (g * 2 ^ 30) ((g + 1) * 2 ^ 30) || partReaches s part 1 (g * 2 ^ 30) 1

/-- Whether one side of a descriptor is permitted to a partition: its memory, or its host addresses while the function is not
disabled; peer addresses belong to the peer. -/
def sidePermitted (s : State) (part : Nat) (b : List Byte) (toRing : Bool) (sp base stride : Nat) : Bool :=
  let R := s.ring (descRing b)
  if toRing then
    rowsPermitted s part R.space (R.slotAddr 0) 0 1 (R.slots * R.slotSize * 64)
  else match sp with
    | 2 => decide (fnState s part ≠ 0)
    | 3 => true
    | _ => rowsPermitted s part sp base stride (descRows b) (descRowBytes b)

/-- A descriptor's partition check. -/
def descPermitted (s : State) (part : Nat) (b : List Byte) : Bool :=
  (descFill b || sidePermitted s part b (descFromRing b) (descSrcSpace b) (descSrc b) (descSrcStride b)) &&
    sidePermitted s part b (descToRing b) (descDstSpace b) (descDst b) (descDstStride b)

/-- The dies of HBM that one side of a descriptor touches, as a mask, and the die of its stage memory. -/
def sideDies (s : State) (b : List Byte) (toRing : Bool) (sp base stride : Nat) : Nat :=
  let R := s.ring (descRing b)
  let hbm := if toRing then decide (R.space ≠ 0) else decide (sp = 1)
  if !hbm then 0
  else
    let lo := if toRing then R.base else base
    let meets (d : Nat) : Bool :=
      if toRing then decide (lo < (d + 1) * 2 ^ 39 ∧ d * 2 ^ 39 < lo + R.slots * R.slotSize * 64)
      else rowsMeet lo stride (descRows b) (descRowBytes b) (d * 2 ^ 39) ((d + 1) * 2 ^ 39)
    (span 0 4).foldl (fun v d => v + flag (meets d) * 2 ^ d) 0

/-- Dies of one side, HBM or stage memory. -/
def sideAllDies (s : State) (b : List Byte) (toRing : Bool) (sp base stride : Nat) : Nat :=
  let R := s.ring (descRing b)
  if toRing && decide (R.space = 0) then 2 ^ (R.home / 2)
  else if !toRing && decide (sp = 0) then 2 ^ (base / 2 ^ 27 % 4)
  else sideDies s b toRing sp base stride

/-- Bridges that a side crosses from or to the dies of a mask, for a Retriever on a die: those of the other dies, and the
Retriever's own if there is another die. -/
def crossings (die mask : Nat) : Nat × Nat :=
  let others := (span 0 4).foldl (fun v d => v + flag (bit mask d && decide (d ≠ die)) * 2 ^ d) 0
  (others, if others = 0 ∨ die = 4 then 0 else 2 ^ die)

/-- Whether a mask is part of another. -/
def maskIn (a b : Nat) : Bool := a &&& b == a

/-- The declared path of an admitted ring covers a descriptor (R196): source data cross upward from their die and downward
to the Retriever's, destination data upward from the Retriever's die and downward to theirs. -/
def pathCovers (s : State) (R : Ring) (n : Nat) (b : List Byte) : Bool :=
  let src := if descFill b then 0 else sideAllDies s b (descFromRing b) (descSrcSpace b) (descSrc b) (descSrcStride b)
  let dst := sideAllDies s b (descToRing b) (descDstSpace b) (descDst b) (descDstStride b)
  let hbm := (if descFill b then 0 else sideDies s b (descFromRing b) (descSrcSpace b) (descSrc b) (descSrcStride b)) |||
    sideDies s b (descToRing b) (descDstSpace b) (descDst b) (descDstStride b)
  let (su, sd) := crossings (rtvDie n) src
  let (dd, du) := crossings (rtvDie n) dst
  maskIn hbm R.admDies && maskIn (su ||| du) R.admUp && maskIn (sd ||| dd) R.admDown

/-- Whether every HBM byte of one side lies in sector windows (R196). -/
def sideSectored (s : State) (b : List Byte) (toRing : Bool) (sp base stride : Nat) : Bool :=
  let R := s.ring (descRing b)
  let hbm := if toRing then decide (R.space ≠ 0) else decide (sp = 1)
  let lo := if toRing then R.base else base
  let n := if toRing then R.slots * R.slotSize * 64 else descExtent b stride
  !hbm || (span (lo / 2 ^ 30) ((lo + n - 1) / 2 ^ 30 + 1 - lo / 2 ^ 30)).all fun g =>
    (!toRing && !rowsMeet lo stride (descRows b) (descRowBytes b) (g * 2 ^ 30) ((g + 1) * 2 ^ 30)) ||
      inWindow s (g * 2 ^ 30)

/-- The status with which a descriptor of a ring completes instead of starting, 0 where it may start: format, partition,
then the states of R122, R196 and R197 (R319). -/
def descCheck (s : State) (r : Nat) (b : List Byte) : Nat :=
  let R := s.ring r
  if !descFormat s R.serverId b then 2
  else if !descPermitted s R.part b then 0xB
  else if R.outMode = 1 ∧ R.tagQuota = 0 then 1
  else if R.admState = 1 ∨ R.admState = 3 then 9
  else if R.admState = 2 ∧ (!pathCovers s R R.serverId b || decide (descClass b ≠ 5) ||
      (decide (R.admInput = 6) &&
        !((descFill b || sideSectored s b (descFromRing b) (descSrcSpace b) (descSrc b) (descSrcStride b)) &&
          sideSectored s b (descToRing b) (descDstSpace b) (descDst b) (descDstStride b)))) then 1
  else 0

/-! ## Descriptors in flight -/

/-- A started descriptor of a Retriever. -/
def descOf (s : State) (n d : Nat) : Option Desc := (s.rtv n).descs.find? fun x => x.id == d

/-- A descriptor put back. -/
def putDesc (s : State) (n : Nat) (d : Desc) : State :=
  s.setRtv n { s.rtv n with descs := (s.rtv n).descs.map fun x => if x.id = d.id then d else x }

/-- A descriptor removed. -/
def dropDesc (s : State) (n d : Nat) : State :=
  s.setRtv n { s.rtv n with descs := (s.rtv n).descs.filter fun x => !(x.id == d) }

/-- A descriptor starts on a Retriever. -/
def startDesc (s : State) (n : Nat) (owner : DescOwner) (b : List Byte) : State :=
  let T := s.rtv n
  let d : Desc := ⟨T.nextDesc, owner, b, descSrc b, descDst b, descToRing b || descFromRing b, 0, 0, 0, [], 0, 0, 0, none,
    false, s.freeCtr, 0, 0, 0, 0, none⟩
  s.fresh.setRtv n { T with descs := T.descs ++ [d], nextDesc := T.nextDesc + 1 }

/-- The ring that a descriptor's energy, partition and interrupts belong to (R132, R408). -/
def descAcct (s : State) (n : Nat) (d : Desc) : Nat :=
  match d.owner with
  | .entry r _ => r
  | .channel c => bits (s.reg c (rtvPage n + 0x108)) 15 0

/-- The event name of a descriptor. -/
def descWho (s : State) (_n : Nat) (d : Desc) : Who :=
  match d.owner with
  | .entry r q => match openFlight (s.ring r) q with
    | some f => f.who r
    | none => ⟨r, q, descLayer d.bytes, descOper d.bytes, false⟩
  | .channel _ => ⟨0xFFFF, 0, descLayer d.bytes, descOper d.bytes, false⟩

/-- Every descriptor in flight, with its Retriever, in start order. -/
def allDescs (s : State) : List (Nat × Desc) := s.rtvs.flatMap fun p => p.2.descs.map fun d => (p.1, d)

/-- Descriptors of a ring, with their Retrievers. -/
def ringDescs (s : State) (r : Nat) : List (Nat × Desc) :=
  (allDescs s).filter fun p => match p.2.owner with
    | .entry q _ => q == r
    | .channel _ => false

/-- Descriptors that name a data ring on one side and started before a seed. -/
def earlierOn (s : State) (toRing : Bool) (ring seed : Nat) : List (Nat × Desc) :=
  (allDescs s).filter fun p => (if toRing then descToRing p.2.bytes else descFromRing p.2.bytes) &&
    decide (descRing p.2.bytes = ring ∧ p.2.seed < seed)

/-- FILLED and FREED of a data ring: the values of its counters (R128). -/
def filledOf (s : State) (R : Ring) : Nat := (s.obj R.fillSync).value
def freedOf (s : State) (R : Ring) : Nat := (s.obj R.freeSync).value

/-- Credits of a data ring (R128); CLAIM stands in `issue`. -/
def creditsOf (s : State) (R : Ring) : Nat := R.slots - sub32 R.issue (freedOf s R)

/-- Whether the credit or the filled slot that a waiting descriptor waits for is there: a producer's once every earlier one has
claimed, a consumer's slot by its place among the readers (R128). -/
def slotThere (s : State) (D : Desc) : Bool :=
  let rid := descRing D.bytes
  let R := s.ring rid
  if descToRing D.bytes then
    decide (creditsOf s R ≠ 0) && !(earlierOn s true rid D.seed).any fun p => p.2.waiting
  else
    let ahead := sub32 (filledOf s R) (add32 (freedOf s R) (earlierOn s false rid D.seed).length)
    decide (ahead ≠ 0 ∧ ahead < 2 ^ 31)

/-- The counter that a waiting descriptor waits on: FREE_SYNC for a credit, FILL_SYNC for a slot (R177). -/
def slotSync (s : State) (D : Desc) : Nat :=
  if descToRing D.bytes then (s.ring (descRing D.bytes)).freeSync else (s.ring (descRing D.bytes)).fillSync

/-- The entry becomes eligible when its credit or slot is there (R195). -/
def slotEligible (s : State) (d : Desc) : State :=
  match d.owner with
  | .channel _ => s
  | .entry r q =>
    let R := s.ring r
    let t := d.availUs.getD s.hubUs
    let fly := R.fly.map fun f => if f.seq = q ∧ !f.isDone then { f with eligUs := max f.eligUs t } else f
    s.setRing r { R with fly := fly }

/-- A descriptor whose credit or slot is there takes it: slot CLAIM, or the slot of its place (R128). Its wait ends (R177). -/
def takeSlot (s : State) (n : Nat) (D : Desc) : State :=
  let rid := descRing D.bytes
  let R := s.ring rid
  if descToRing D.bytes then
    let D1 := { D with waiting := false, slot := R.issue, dst := R.slotAddr R.issue, stillUs := 0 }
    slotEligible (putDesc (s.setRing rid { R with issue := add32 R.issue 1 }) n D1) D1
  else
    let slot := add32 (freedOf s R) (earlierOn s false rid D.seed).length
    let D1 := { D with waiting := false, slot := slot, src := R.slotAddr slot, stillUs := 0 }
    slotEligible (putDesc s n D1) D1

/-- A microsecond of the hub timer at the descriptors: those that wait or have requests to land are timed, but not while their
ring is held for a stop or in D3hot; a waiting one notes when its credit or slot became available (R177, R195, R284, R322). -/
def descTick (s : State) : State :=
  { s with rtvs := s.rtvs.map fun p => (p.1, { p.2 with descs := p.2.descs.map fun d =>
      match d.owner with
      | .channel _ => d
      | .entry r _ =>
        let timed := ((s.ring r).holds.all fun h => decide (h = .wedge)) && !d.landed
        let d1 := if timed then { d with stillUs := d.stillUs + 1 } else d
        if d.waiting ∧ d.availUs.isNone ∧ slotThere s d then { d1 with availUs := some s.hubUs } else d1 }) }

/-! ## Tags and requests (R127, R129) -/

/-- Tags held by a Retriever's requests, those of one ring, and those of its unreserved pool. -/
def tagsHeld (s : State) (n : Nat) : Nat := ((s.rtv n).descs.map fun d => d.reqs.length).sum

/-- Tags held by a ring's requests: TAGS_HELD (R122). -/
def ringTags (s : State) (r : Nat) : Nat :=
  ((allDescs s).map fun p => match p.2.owner with
    | .entry q _ => if q = r then p.2.reqs.length else 0
    | .channel _ => 0).sum

/-- The sum of TAG_QUOTA over a Retriever's tag-mode rings: RESERVED (R129, R141). -/
def tagsReserved (s : State) (n : Nat) : Nat :=
  (s.rings.map fun p =>
    if p.2.kind = 1 ∧ p.2.server = 2 ∧ p.2.serverId = n ∧ p.2.outMode = 1 then p.2.tagQuota else 0).sum

/-- Whether a descriptor draws its tags from its ring's reserve. -/
def descReserved (s : State) (d : Desc) : Bool :=
  match d.owner with
  | .entry r _ => decide ((s.ring r).outMode = 1)
  | .channel _ => false

/-- Tags held from the unreserved pool. -/
def poolTags (s : State) (n : Nat) : Nat :=
  ((s.rtv n).descs.map fun d => if descReserved s d then 0 else d.reqs.length).sum

/-- Tags of the unreserved pool that are free. -/
def poolFree (s : State) (n : Nat) : Nat := 2048 - tagsReserved s n - poolTags s n

/-- Source and destination address of a descriptor's next request, and its length: at most 2 KiB, not across a 2 KiB
boundary of the source, or of the destination for RTV_FILL (R127). -/
def nextSrc (d : Desc) : Nat := d.src + d.row * descSrcStride d.bytes + d.col
def nextDst (d : Desc) : Nat := d.dst + d.row * descDstStride d.bytes + d.col
def nextLen (d : Desc) : Nat :=
  min (descRowBytes d.bytes - d.col) (2048 - (if descFill d.bytes then nextDst d else nextSrc d) % 2048)

/-- Every request of a descriptor has issued. -/
def allIssued (d : Desc) : Bool := decide (descRows d.bytes ≤ d.row)

/-- Spaces of a descriptor's sides, a data ring's slots included. -/
def srcSpaceOf (s : State) (b : List Byte) : Nat :=
  if descFromRing b then (s.ring (descRing b)).space else descSrcSpace b
def dstSpaceOf (s : State) (b : List Byte) : Nat :=
  if descToRing b then (s.ring (descRing b)).space else descDstSpace b

/-- CLASS, or CLASS_OVR of the ring while it is not 0 (R131). -/
def classOf (s : State) (d : Desc) : Nat :=
  match d.owner with
  | .entry r _ => if (s.ring r).classOvr = 0 then descClass d.bytes else (s.ring r).classOvr
  | .channel _ => descClass d.bytes

/-- Whether a descriptor's entry started while its ring was admitted: it completes under its bound (R197). -/
def descBound (s : State) (d : Desc) : Bool :=
  match d.owner with
  | .channel _ => false
  | .entry r q => match openFlight (s.ring r) q with
    | some f => decide (f.grant ≠ 0)
    | none => false

/-- The arbiter input of a request of `len` bytes, whether it is demoted, and the ring after its bucket has been drawn on: an
admitted ring issues at its input, 5 on bridges, while the bucket holds the bytes, and at input 4, counted, otherwise (R189,
R196); its CLASS_OVR, which a later write cannot change, does not act. -/
def issueInput (s : State) (d : Desc) (len : Nat) : Nat × Bool × State :=
  match d.owner with
  | .channel _ => (classOf s d, false, s)
  | .entry r _ =>
    let R := s.ring r
    if !descBound s d then (classOf s d, false, s)
    else if len ≤ R.bucket then (5, false, s.setRing r { R with bucket := R.bucket - len })
    else (4, true, s.setRing r { R with cntDemoted := (R.cntDemoted + 1) % 2 ^ 64 })

/-- The die of an address of a side: stage memory, HBM, or the hub for host and peer. -/
def sideDie (sp a : Nat) : Nat := if sp = 0 then a / 2 ^ 27 else if sp = 1 then a / 2 ^ 39 else 4

/-- One side of a request takes its place at the arbiters on its path. -/
def queueSide (s : State) (n sp a len input tag : Nat) (write demoted : Bool) (ring : Nat) : State :=
  let e := rtvDie n
  let d := sideDie sp a
  let s1 := if write then crossDies s e d len input n tag (some ring) else crossDies s d e len input n tag (some ring)
  if sp = 1 then hbmPieces 66 s1 a len input n tag demoted (some ring) else s1

/-- The tag under which a Retriever's request stands at arbiters and in HBM_ACCESS. -/
def reqTag (n id : Nat) : Nat := 1 + n * 2 ^ 32 + id

/-- Whether a request of a descriptor may issue now: it does not wait, is not cut, has bytes left, and its function may issue
host requests (R135, R320, R322). -/
def mayIssue (s : State) (n : Nat) (d : Desc) : Bool :=
  let r := descAcct s n d
  let f := (s.ring r).part
  let host := decide (srcSpaceOf s d.bytes = 2 ∨ dstSpaceOf s d.bytes = 2)
  !d.waiting && d.cut.isNone && !allIssued d && !(host && ((s.fn f).d3hot || (s.fn f).draining))

/-- Descriptors whose requests wait for a tag of the pool, before a descriptor: those with an earlier place, and all of them where
it has none (R129). -/
def waitsBefore (s : State) (n : Nat) (d : Desc) : Nat :=
  ((s.rtv n).descs.filter fun x => decide (x.tagWait ≠ 0 ∧ (d.tagWait = 0 ∨ x.tagWait < d.tagWait)) && !(x.id == d.id) &&
    !descReserved s x && mayIssue s n x).length

/-- Whether a descriptor's next request finds a tag: in its ring's reserve, or in the pool, in order of request (R129). -/
def tagFree (s : State) (n : Nat) (d : Desc) : Bool :=
  match d.owner with
  | .entry r _ =>
    if (s.ring r).outMode = 1 then decide (ringTags s r < (s.ring r).tagQuota)
    else decide (waitsBefore s n d < poolFree s n)
  | .channel _ => decide (waitsBefore s n d < poolFree s n)

/-- A request that finds no tag waits, at a place of its own, and is counted once (R129). -/
def waitForTag (s : State) (n : Nat) (d : Desc) : State :=
  if d.tagWait ≠ 0 then s
  else
    let T := s.rtv n
    (putDesc (s.setRtv n { T with nextWait := T.nextWait + 1 }) n { d with tagWait := T.nextWait }).count 0 (rtvPage n + 0x50) 1

/-- The 64-bit pattern of an RTV_FILL over the bytes of a request. -/
def fillBytes (d : Desc) (q : Request) : List Byte :=
  (span 0 q.len).map fun i => BitVec.ofNat 8 (descSrc d.bytes / 2 ^ (8 * ((q.dst - d.dst + i) % descDstStrideOr d % 8)))
where
  /-- Rows start the pattern anew; a row stride of 0 puts every row at one place. -/
  descDstStrideOr (d : Desc) : Nat := if descDstStride d.bytes = 0 then 2 ^ 64 else descDstStride d.bytes

/-- The bytes that a request brings from its source. -/
def sourceBytes (s : State) (d : Desc) (q : Request) (data : List Byte) : List Byte :=
  if descFill d.bytes then fillBytes d q
  else match srcSpaceOf s d.bytes with
    | 0 => s.bytesAt 0 q.src q.len
    | 1 => q.kept.getD (s.bytesAt 1 q.src q.len)
    | 2 => data
    | _ => q.data.getD []

/-- Runs of a request's bytes whose source sectors have not failed: offsets and lengths, in order (R127). -/
def goodRuns (bad : List (Nat × Nat)) (src : Nat) : (fuel off len : Nat) → (start : Option Nat) → List (Nat × Nat)
  | 0, off, _, start => match start with
    | some a => [(a, off - a)]
    | none => []
  | fuel + 1, off, len, start =>
    if len ≤ off then match start with
      | some a => [(a, off - a)]
      | none => []
    else if bad.any fun p => p.1 == (src + off) / 32 then
      (match start with
        | some a => [(a, off - a)]
        | none => []) ++ goodRuns bad src fuel (off + 32) len none
    else goodRuns bad src fuel (off + 32) len (some (start.getD off))

/-- The runs of a request that may be written. -/
def requestRuns (q : Request) (bad : List (Nat × Nat)) : List (Nat × Nat) := goodRuns bad q.src (q.len / 32 + 1) 0 q.len none

/-- The messages that write a request's bytes to a peer, one a run, numbered (R268). The bursts of the answers carry the number
above the request's own. -/
def sendPeerWrites (s : State) (n : Nat) (d : Desc) (q : Request) (bs : List Byte) (bad : List (Nat × Nat)) : State :=
  let runs := (requestRuns q bad).zipIdx
  let q1 := { q with sent := true, data := none, parts := runs.map fun p => (p.2, p.1.2), srcBad := !bad.isEmpty
                     via := routePort s (descPeer d.bytes) }
  let s1 := putDesc s n { d with reqs := d.reqs.map fun x => if x.id = q.id then q1 else x }
  runs.foldl (fun t p => sendMsgAt t .peerRequest (descPeer d.bytes)
    ([reqTag n q.id + p.2 * 2 ^ 40, 1, q.dst + p.1.1, p.1.2] ++ ((bs.drop p.1.1).take p.1.2).map BitVec.toNat) q.input
    (reqTag n q.id) (some (descAcct s n d))) s1

/-- Whether a descriptor reads or writes the memory of a peer that no route reaches: its requests end PEER_LOST at once
(R279, R318). -/
def peerGone (s : State) (d : Desc) : Bool :=
  ((!descFill d.bytes && decide (srcSpaceOf s d.bytes = 3)) || decide (dstSpaceOf s d.bytes = 3)) &&
    (routePort s (descPeer d.bytes)).isNone

/-- The next request of a descriptor, as it is issued: the mapping at its source and destination stays its own (R150). -/
def newRequest (s : State) (n : Nat) (D : Desc) (input : Nat) : Request :=
  let len := nextLen D
  let wins (a : Nat) : Bool × Bool := (inWindow s a, inWindow s (a + len - 1))
  { id := (s.rtv n).nextReq, src := nextSrc D, dst := nextDst D, len := len, input := input, data := none
    fail := if peerGone s D then 0xA else 0, lost := [], sent := false, parts := [], wrote := 0, srcBad := false, via := none
    kept := none, srcWin := wins (nextSrc D), dstWin := wins (nextDst D) }

/-- A request goes out: to the host or a peer for its source, to the arbiters on the path of each side, and an RTV_FILL's bytes
for a peer at once (R127, R131, R149, R268). -/
def sendRequest (s : State) (n : Nat) (D : Desc) (q : Request) (demoted : Bool) : State :=
  let ssp := srcSpaceOf s D.bytes
  let dsp := dstSpaceOf s D.bytes
  let acct := descAcct s n D
  let tag := reqTag n q.id
  let s1 := if descFill D.bytes then s
    else if ssp = 2 then s.send (.hostRead (s.ring acct).part q.src q.len)
    else if ssp = 3 then
      let q1 := { q with via := routePort s (descPeer D.bytes) }
      sendMsgAt (putDesc s n { D with reqs := D.reqs.map fun x => if x.id = q.id then q1 else x }) .peerRequest (descPeer D.bytes)
        [tag, 0, q.src, q.len] q.input tag (some acct)
    else queueSide s n ssp q.src q.len q.input tag false demoted acct
  if dsp = 3 then (if descFill D.bytes then sendPeerWrites s1 n D q (fillBytes D q) [] else s1)
  else if dsp = 2 then s1
  else queueSide s1 n dsp q.dst q.len q.input tag true demoted acct

/-- REQUEST_ISSUE: the next request takes a tag and goes out at its input; without a tag it waits, counted once (R127, R129,
R131, R196). -/
def issueRequest (s : State) (n d : Nat) : State :=
  match descOf s n d with
  | none => s
  | some D =>
    if !mayIssue s n D then s
    else if !tagFree s n D then waitForTag s n D
    else
      let len := nextLen D
      let (input, demoted, s1) := issueInput s D len
      let req := newRequest s n D input
      let wrap := decide (descRowBytes D.bytes ≤ D.col + len)
      let D1 := { D with reqs := D.reqs ++ [req], row := if wrap then D.row + 1 else D.row,
                         col := if wrap then 0 else D.col + len, tagWait := 0 }
      let s2 := putDesc (s1.setRtv n { s1.rtv n with nextReq := req.id + 1 }) n D1
      let s3 := s2.count 0 (rtvPage n + 0x48) 1
      if peerGone s D then s3 else sendRequest s3 n D1 req demoted

/-! ## Completion (R127, R128, R132, R408) -/

/-- The status with which a signal that a Retriever makes fails checks 3 to 5 of R165, 0 where it acts (R408). -/
def ownSignal (s : State) (o part : Nat) : Nat := storeCheck s false o 1 (some part)

/-- A signal made by a Retriever: it acts where the checks pass. -/
def makeSignal (s : State) (o part : Nat) (who : Who) : State :=
  if ownSignal s o part = 0 then signalObj s o 1 who else s

/-- The first failure among statuses, 0 for none. -/
def firstFail (a b : Nat) : Nat := if a = 0 then b else a

/-- A channel of a Retriever. -/
def State.chan (s : State) (n c : Nat) : Channel := mget (s.rtv n).chans c Channel.zero

/-- A channel set. -/
def State.setChan (s : State) (n c : Nat) (v : Channel) : State :=
  s.setRtv n { s.rtv n with chans := mset (s.rtv n).chans c v Channel.zero }

/-- STATE of a channel: idle, running, running with a shadow (R132). -/
def chanState (c : Channel) : Nat := if c.active.isNone then 0 else if c.shadow.isNone then 1 else 2

/-- Interrupt of a ring at a completion with a status (R317). -/
def ringInterrupt (s : State) (r : Nat) : State := sendVector s (s.ring r).part (s.ring r).rsVector

/-- An interrupt of a ring that no posted completion raises passes the same crossing (R132, R214). -/
def crossInterrupt (s : State) (r : Nat) : State := crossing s 0 none fun t => ringInterrupt t r

/-- A channel's descriptor has completed: LAST records it, its errors stand in the Retriever page, and its interrupt goes to
ACCT_RING (R132). -/
def channelDone (s : State) (n c : Nat) (b : List Byte) (status : Nat) : State :=
  let r := bits (s.reg c (rtvPage n + 0x108)) 15 0
  let s1 := (s.setChan n c { s.chan n c with active := none }).setReg c (rtvPage n + 0x10C) status
  let s2 := entryError s1 (rtvPage n) status ⟨0xFFFF, 0, descLayer b, descOper b, false⟩ (s.ring r).part
  if entryIrq b || decide (status ≠ 0 ∧ status ≠ 6) then crossInterrupt s2 r else s2

/-- The status with which a channel's descriptor completes instead of starting (R126, R132): the states of R196 and R197
are a ring's. DESIGN CHOICE (log entry 84): R126 lists no check of the staged OPCODE; one that is neither RTV_COPY nor RTV_FILL
completes BAD_DESCRIPTOR, as a reserved opcode of a ring does (R46). -/
def chanCheck (s : State) (n c : Nat) (b : List Byte) : Nat :=
  let r := bits (s.reg c (rtvPage n + 0x108)) 15 0
  if !descFormat s n b || decide (descOpcode b ≠ 0x20 ∧ descOpcode b ≠ 0x21) then 2
  else if !descPermitted s (s.ring r).part b then 0xB
  else 0

/-- A channel's active descriptor starts, or completes at once where its checks fail; then a shadow becomes active, though not
during a stop of the pack (R293). -/
def runChannel : (fuel : Nat) → State → Nat → Nat → State
  | 0, s, _, _ => s
  | fuel + 1, s, n, c =>
    let C := s.chan n c
    match C.active with
    | some b =>
      let st := chanCheck s n c b
      if st = 0 then startDesc s n (.channel c) b else runChannel fuel (channelDone s n c b st) n c
    | none => match C.shadow with
      | none => s
      | some b =>
        if s.pack.stopNo.isSome then s
        else runChannel fuel (s.setChan n c { C with active := some b, shadow := none, cancelling := false }) n c

/-- Channels that a stop or a restore has left without a running descriptor go on (R293, R298). -/
def kickChannels (s : State) : State :=
  s.rtvs.foldl (fun t p => p.2.chans.foldl (fun u c =>
    if (u.rtv p.1).descs.any fun d => decide (d.owner = .channel c.1) then u else runChannel 3 u p.1 c.1) t) s

/-- A descriptor completes with a status: it leaves the Retriever, and its entry or its channel completes with BYTES_DONE. -/
def completeDesc (s : State) (n : Nat) (d : Desc) (status : Nat) : State :=
  let s1 := dropDesc s n d.id
  match d.owner with
  | .entry r q => finishEntry s1 r q status d.written 0 0
  | .channel c =>
    let s2 := channelDone s1 n c d.bytes status
    runChannel 3 (s2.setChan n c { s2.chan n c with cancelling := false }) n c

/-- A descriptor is cut at the cancel point of its ring's account: it keeps the request open there, and the ledger's window (R136,
R250). -/
def cutNow (s : State) (r : Nat) (d : Desc) : Desc :=
  if d.cut.isSome then d
  else
    let no := match (s.ring r).req with
      | some q => q.no
      | none => 0
    { d with cut := some 6, cutReq := no, cutWin := openWindow s }

/-- A ring begins to be cancelled: issue stops, TAIL is noted, and its descriptors are cut (R135 order 1). -/
def beginCancel (s : State) (r : Nat) : State :=
  let R := s.ring r
  let s1 := s.setRing r { R with mode := .cancelling, cancelTail := R.tail }
  { s1 with rtvs := s1.rtvs.map fun p => (p.1, { p.2 with descs := p.2.descs.map fun d =>
      match d.owner with
      | .entry q _ => if q = r then cutNow s r d else d
      | .channel _ => d }) }

/-- Whether the signals of a landed descriptor are due: every earlier claim of its data ring has been signalled, every
earlier reader has signalled or completed (R128). -/
def turnCame (s : State) (d : Desc) : Bool :=
  if descToRing d.bytes then
    decide (d.slot = filledOf s (s.ring (descRing d.bytes))) || decide (d.status ≠ 0)
  else if descFromRing d.bytes then (earlierOn s false (descRing d.bytes) d.seed).isEmpty
  else true

/-- CLAIM of the data ring that a cancelled producer names falls back to FILLED (R135 order 3). -/
def discardClaims (s : State) (d : Desc) : State :=
  if descToRing d.bytes ∧ ¬ d.waiting then
    let rid := descRing d.bytes
    let R := s.ring rid
    s.setRing rid { R with issue := filledOf s R }
  else s

/-- A descriptor whose requests have all landed makes its signals and completes (R127, R128, R408). -/
def finishDesc (s : State) (n : Nat) (d : Desc) : State :=
  let r := descAcct s n d
  let part := (s.ring r).part
  let who := descWho s n d
  let R := s.ring (descRing d.bytes)
  let own := if descToRing d.bytes then (if d.status = 0 then some R.fillSync else none)
    else if descFromRing d.bytes then some R.freeSync else none
  let (s1, st1) := match own with
    | none => (s, d.status)
    | some o => (makeSignal s o part who, firstFail d.status (ownSignal s o part))
  let done := descFlag d.bytes 6 && decide (st1 = 0)
  let (s2, st2) := if done then (makeSignal s1 (descDoneSync d.bytes) part who, ownSignal s1 (descDoneSync d.bytes) part)
    else (s1, st1)
  let s3 := completeDesc s2 n d st2
  if descToRing d.bytes ∧ d.status = 7 then
    match d.owner with
    | .entry q _ =>
      let s4 := if (s3.ring q).mode = .on ∨ (s3.ring q).mode = .stopped then beginCancel s3 q else s3
      if (allDescs s4).any fun p => descToRing p.2.bytes && !p.2.waiting && decide (descRing p.2.bytes = descRing d.bytes) &&
          (match p.2.owner with
            | .entry r _ => r == q
            | .channel _ => false) then s4
      else discardClaims s4 d
    | .channel _ => discardClaims s3 d
  else s3

/-- A descriptor that could complete: everything has landed and its turn has come, or it has been cut, not by a
CANCEL of its ring that still runs, nothing is left in flight, and its place among the readers of a data ring has come (R128). -/
def readyDesc (s : State) (p : Nat × Desc) : Bool :=
  match p.2.cut with
  | some c => p.2.reqs.isEmpty && (decide (c = 6) || p.2.waiting || !descFromRing p.2.bytes || turnCame s p.2) &&
    match p.2.owner with
    | .entry r _ => decide (c ≠ 6 ∨ (s.ring r).mode ≠ .cancelling)
    | .channel _ => true
  | none => p.2.landed && turnCame s p.2

/-- Activity of one side of n bytes that a Retriever moves, as source, class and events: stage-memory lines, or bursts of a stack
(R221, log entry 10). -/
def sideEvents (s : State) (sp a n : Nat) (write : Bool) : List (Nat × Nat × Nat) :=
  if sp = 0 then [(9 + a / 2 ^ 26 % 8, flag write, n / 64)]
  else if sp = 1 then [(31 + stackOf s a, flag (inWindow s a), n / 32)] else []

/-- Activity along the path on which n bytes of a descriptor have been read: the source, the bridges between the dies, the
Retriever and the destination. -/
def pathEvents (s : State) (n : Nat) (d : Desc) (bytes : Nat) : List (Nat × Nat × Nat) :=
  let ssp := srcSpaceOf s d.bytes
  let dsp := dstSpaceOf s d.bytes
  let e := rtvDie n
  let hop (x : Nat) : List (Nat × Nat × Nat) :=
    if x = e then [] else ([x, e].filter (· < 4)).map fun y => (27 + y, 0, (bytes + 63) / 64)
  sideEvents s ssp d.src bytes false ++ hop (sideDie ssp d.src) ++ [(17 + n, 0, bytes / 64)] ++ hop (sideDie dsp d.dst) ++
    sideEvents s dsp d.dst bytes true

/-- Discarded femtojoules are entered for the request and the window of a cancel point: in the open window, or against k of one
that has closed since (R250). -/
def discardEnergy (s : State) (d : Desc) (dom fj : Nat) : State :=
  if d.cutWin = openWindow s then
    let k := dom * 2 ^ 64 + d.cutReq
    { s with ledger := { s.ledger with discard := mset s.ledger.discard k (mget s.ledger.discard k 0 + fj) 0 } }
  else match s.ledger.kDisc.find? fun p => p.1 == d.cutWin * 4 + dom with
    | none => s
    | some p => discardNow s d.cutReq fj p.2

/-- Bytes that a cut descriptor has read are counted as discarded, and their energy along the path is set apart (R136, R250). -/
def discardBytes (s : State) (n : Nat) (d : Desc) : State :=
  let r := descAcct s n d
  let R := s.ring r
  let s1 := s.setRing r { R with cntDiscard := (R.cntDiscard + d.read) % 2 ^ 64 }
  let s2 := (pathEvents s n d d.read).foldl (fun t e =>
    discardEnergy t d (domainOf e.1 e.2.1) (eventEnergy e.1 e.2.1 e.2.2 (vcodeOf s (sourceQuad e.1)))) s1
  s2.count 0 (rtvPage n + 0x60) d.read

/-- A cut descriptor completes. -/
def finishCut (s : State) (n : Nat) (d : Desc) (c : Nat) : State :=
  let s1 := discardClaims s d
  let s2 := if c = 6 then discardBytes s1 n d else s1
  let part := (s.ring (descAcct s n d)).part
  let s3 := if c ≠ 6 ∧ descFromRing d.bytes ∧ ¬ d.waiting then
      makeSignal s2 (s.ring (descRing d.bytes)).freeSync part (descWho s n d) else s2
  completeDesc s3 n d c

/-- Descriptors that can complete do so, one after another. -/
def settleDescs : (fuel : Nat) → State → State
  | 0, s => s
  | fuel + 1, s =>
    match (allDescs s).find? (readyDesc s) with
    | none => s
    | some (n, d) => match d.cut with
      | some c => settleDescs fuel (finishCut s n d c)
      | none => settleDescs fuel (finishDesc s n d)

/-- Enough fuel: each round completes a descriptor, and a channel's shadow may start another. -/
def settle (s : State) : State := settleDescs (2 * (allDescs s).length + 2) s

/-! ## Landing (R127) -/

/-- Whether a 64-byte line of the destination lies under the descriptor's own source rows (R127). -/
def overlaps (s : State) (d : Desc) (a : Nat) : Bool :=
  !descFill d.bytes && decide (srcSpaceOf s d.bytes = dstSpaceOf s d.bytes ∧ srcSpaceOf s d.bytes < 2) &&
    inRows d.src (descSrcStride d.bytes) (descRows d.bytes) (descRowBytes d.bytes) a

/-- Bytes of a space become undefined. -/
def loseBytes (s : State) (sp a n : Nat) : State :=
  let t := s.fresh
  if sp = 0 then noteRace { t with stage := t.stage.lose a (a + n) s.freeCtr } a (a + n)
  else { t with hbm := t.hbm.lose a (a + n) s.freeCtr }

/-- One piece of 32 bytes is written at a destination: a line of stage memory, or the sector of HBM that the mapping at issue
gives it (R127, R150). One that lies under the source becomes undefined. -/
def landPiece (s : State) (d : Desc) (q : Request) (dsp dst : Nat) (piece : List Byte) (ring : Nat) : State :=
  if overlaps s d dst then loseBytes s dsp dst piece.length
  else if dsp = 0 then s.stageWrite dst piece
  else
    let win := if dst / 2 ^ 30 = q.dst / 2 ^ 30 then q.dstWin.1 else q.dstWin.2
    let at' := placeNow s win dst
    hbmSectors (moveSector s dst win false (some ring)) [] at' piece [at' / 32]

/-- The pieces of 32 bytes of a request are written one by one; those whose source failed are left out, and so are those whose
own burst was lost. Answers the state, the bytes written and the sectors lost. -/
def landPieces (s : State) (d : Desc) (q : Request) (bad : List (Nat × Nat)) (dsp ring : Nat) :
    (fuel : Nat) → Nat → Nat → List Byte → State × Nat × List (Nat × Nat)
  | 0, _, _, _ => (s, 0, [])
  | fuel + 1, src, dst, bs =>
    if bs = [] then (s, 0, [])
    else
      let piece := bs.take 32
      let kind := if dsp = 1 then lostKind q.lost (dst / 32) true else 0
      let left := bad.any fun p => p.1 == src / 32
      let s1 := if left ∨ kind ≠ 0 then s else landPiece s d q dsp dst piece ring
      let (t, m, l) := landPieces s1 d q bad dsp ring fuel (src + 32) (dst + 32) (bs.drop 32)
      (t, m + (if left ∨ kind ≠ 0 then 0 else piece.length), if !left ∧ kind ≠ 0 then (dst / 32, kind) :: l else l)

/-- Whether a request still stands at an arbiter. -/
def atArbiter (s : State) (tag : Nat) : Bool :=
  s.arbs.any fun p => p.2.waiting.any (fun q => q.tag == tag) || (match p.2.serving with
    | some q => q.tag == tag
    | none => false)

/-- Whether the bytes of a request's source are there: its places at the arbiters are served, its host data have come in full
length, its peer has answered. -/
def sourceReady (s : State) (n : Nat) (d : Desc) (q : Request) (data : List Byte) : Bool :=
  let ssp := srcSpaceOf s d.bytes
  !atArbiter s (reqTag n q.id) && (descFill d.bytes || (if ssp = 2 then decide (data.length = q.len)
    else if ssp = 3 then q.data.isSome else true))

/-- Whether a request can come to its end: a failure has been given to it, its peer has answered every write, or its source is
there. -/
def requestReady (s : State) (n : Nat) (d : Desc) (q : Request) (data : List Byte) : Bool :=
  decide (q.fail ≠ 0 ∧ q.parts = []) ||
    (if dstSpaceOf s d.bytes = 3 then q.sent && decide (q.parts = []) else sourceReady s n d q data)

/-- The source of a request is read: its bursts move at the stacks and its failures are recorded. Answers the sectors that failed
(R155, R156). -/
def readSource (s : State) (n : Nat) (d : Desc) (q : Request) : State × List (Nat × Nat) :=
  let r := descAcct s n d
  if descFill d.bytes ∨ 2 ≤ srcSpaceOf s d.bytes then (s, [])
  else if srcSpaceOf s d.bytes = 0 then (activity s (9 + q.src / 2 ^ 26 % 8) 0 (q.len / 64) (some r), [])
  else
    let bad := readFailures s q.lost q.src q.len
    (failAccess (moveBursts s q.src q.len false (fun _ => q.srcWin.1) (some r)) (descWho s n d) bad [], bad)

/-- A request that carries data to a peer sends them once its source is there. -/
def relayRequest (s : State) (n : Nat) (d : Desc) (q : Request) (data : List Byte) : State :=
  if dstSpaceOf s d.bytes ≠ 3 ∨ q.sent ∨ q.fail ≠ 0 ∨ !sourceReady s n d q data then s
  else if peerGone s d then
    putDesc s n { d with reqs := d.reqs.map fun x => if x.id = q.id then { q with fail := 0xA } else x }
  else
    let (s1, bad) := readSource s n d q
    sendPeerWrites s1 n d q (sourceBytes s d q data) bad

/-- Whether a side of a request crosses a bridge that has been taken down, or reaches a stack whose controller is being reset
(R17, R336). -/
def sideDown (s : State) (n sp a len : Nat) : Bool :=
  !diesMeet s (rtvDie n) (sideDie sp a) || (decide (sp = 1) && !hbmMeets s (rtvDie n) a len)

/-- Whether a request is cut off in this way. -/
def requestDown (s : State) (n : Nat) (d : Desc) (q : Request) : Bool :=
  (!descFill d.bytes && sideDown s n (srcSpaceOf s d.bytes) q.src q.len) ||
    sideDown s n (dstSpaceOf s d.bytes) q.dst q.len

/-- A request leaves every arbiter. -/
def leaveArbs (s : State) (tag : Nat) : State :=
  { s with arbs := s.arbs.map fun p =>
      (p.1, { p.2 with waiting := p.2.waiting.filter (fun q => !(q.tag == tag)),
                       serving := p.2.serving.filter fun q => !(q.tag == tag) }) }

/-- A landed request's bookkeeping: the tag returns, bytes are counted, and the descriptor may complete. -/
def requestDone (s : State) (n : Nat) (d : Desc) (q : Request) (status written read : Nat) : State :=
  let who := descWho s n d
  let D1 := { d with reqs := d.reqs.filter (fun x => !(x.id == q.id)), read := d.read + read,
                     written := d.written + written, status := firstFail d.status status, stillUs := 0 }
  let D2 := { D1 with landed := D1.cut.isNone && allIssued D1 && D1.reqs.isEmpty }
  let r := descAcct s n d
  let R := s.ring r
  let s1 := match d.owner with
    | .entry _ _ => s.setRing r { R with cntBytes := (R.cntBytes + written) % 2 ^ 64 }
    | .channel _ => s
  let s2 := (putDesc s1 n D2).count 0 (rtvPage n + 0x40) written
  let s3 := filterCount s2 who.filt 0x120 written
  settle (activity s3 (17 + n) 0 (q.len / 64) (some r))

/-- Bytes that a request has read: none for RTV_FILL, else all but those of failed sectors. -/
def bytesRead (d : Desc) (q : Request) (bad : List (Nat × Nat)) : Nat := if descFill d.bytes then 0 else q.len - 32 * bad.length

/-- A request whose bytes can land does so (R127): at the host and in HBM and stage memory without those of failed sectors. -/
def landBytes (s : State) (n : Nat) (d : Desc) (q : Request) (data : List Byte) : State :=
  let dsp := dstSpaceOf s d.bytes
  let bs := sourceBytes s d q data
  let r := descAcct s n d
  if dsp = 0 ∧ !stageReady s q.dst bs then markStalled s q.dst bs
  else
    let (s1, bad) := readSource s n d q
    let st := if bad = [] then 0 else 7
    if dsp = 2 then
      let runs := requestRuns q bad
      let t := runs.foldl (fun u p => u.send (.hostWrite (s.ring r).part (q.dst + p.1) ((bs.drop p.1).take p.2))) s1
      requestDone t n d q st ((runs.map Prod.snd).sum) (bytesRead d q bad)
    else
      let (s2, w, lost) := landPieces s1 d q bad dsp r 66 q.src q.dst bs
      let s3 := failAccess s2 (descWho s n d) lost []
      let s4 := if dsp = 0 then activity s3 (9 + q.dst / 2 ^ 26 % 8) 1 (q.len / 64) (some r) else s3
      requestDone s4 n d q (if lost = [] then st else 7) w (bytesRead d q bad)

/-- REQUEST_LAND (R127): a request comes to its end, or one for a peer sends its bytes on. The bytes of a descriptor cut by a
watchdog or a block reset are discarded (R178, R336), and a transfer across a bridge that is down ends ISOLATED (R17). -/
def landRequest (s : State) (n id : Nat) (data : List Byte) : State :=
  match (s.rtv n).descs.find? (fun d => d.reqs.any fun q => q.id == id) with
  | none => s
  | some d => match d.reqs.find? fun q => q.id == id with
    | none => s
    | some q =>
      let dropped := match d.cut with
        | some c => decide (c ≠ 6)
        | none => false
      if requestDown s n d q then requestDone (leaveArbs s (reqTag n id)) n d q 3 0 0
      else if !requestReady s n d q data then relayRequest s n d q data
      else if q.fail ≠ 0 then requestDone s n d q q.fail q.wrote 0
      else if dropped then requestDone s n d q 0 0 0
      else if dstSpaceOf s d.bytes = 3 then
        requestDone s n d q (if q.srcBad then 7 else 0) q.wrote (bytesRead d q [])
      else landBytes s n d q data

/-! ## Commands -/

/-- Whether a ring's next entry may start beside those in flight: each of them is a descriptor (R123, R127), and the limit of
software mode has room (R129). -/
def descRoom (R : Ring) : Bool :=
  (R.fly.all fun f => f.isDone || decide (entryOp f.bytes = 0x20 ∨ entryOp f.bytes = 0x21)) &&
    (decide (R.outMode = 1) || decide (R.inFlight < R.limit))

/-- A descriptor entry starts, or completes at once where a check fails. -/
def doDesc (s : State) (r : Nat) (b : List Byte) : State :=
  let st := descCheck s r b
  if st ≠ 0 then actEntry s r b st 0 0 0
  else startDesc (beginEntry s r b .running) (s.ring r).serverId (.entry r (s.ring r).issue) b

/-- The next entry as a descriptor of an opcode. -/
def nextDesc (s : State) (r op : Nat) : Option (List Byte) :=
  match nextEntry s r with
  | none => none
  | some b => if entryOp b = op ∧ opServed (s.ring r) op ∧ descRoom (s.ring r) then some b else none

/-- RTV_COPY. -/
def execRtvCopy (r : Nat) (s : State) : Res :=
  onUnit (decide (r < 65536)) (match nextDesc s r 0x20 with
    | none => s
    | some b => doDesc s r b)

/-- RTV_FILL. -/
def execRtvFill (r : Nat) (s : State) : Res :=
  onUnit (decide (r < 65536)) (match nextDesc s r 0x21 with
    | none => s
    | some b => doDesc s r b)

/-- The staging words of a channel (R132). -/
def stagingBytes (s : State) (n c : Nat) : List Byte :=
  (span 0 16).flatMap fun i => leBytes 4 (s.reg c (rtvPage n + 0x140 + 4 * i))

/-- A channel is armed from its staging words (R132, R133). -/
def armChannel (s : State) (n c : Nat) : State :=
  let C := s.chan n c
  let b := stagingBytes s n c
  if C.active.isNone then runChannel 3 (s.setChan n c { C with active := some b }) n c
  else if C.shadow.isNone then s.setChan n c { C with shadow := some b }
  else (s.setChan n c { C with shadow := some b }).count 0 (rtvPage n + 0x58) 1

/-- A channel is cancelled: its shadow is discarded and its active descriptor is cut (R135). -/
def cancelChannel (s : State) (n c : Nat) : State :=
  let C := s.chan n c
  let T := s.rtv n
  let acct := bits (s.reg c (rtvPage n + 0x108)) 15 0
  let descs := T.descs.map fun d => if d.owner = .channel c then cutNow s acct d else d
  let s1 := s.setRtv n { T with descs := descs }
  settle (s1.setChan n c { C with shadow := none, cancelling := C.active.isSome })

/-- RTV_KICK's checks in order (R134). -/
def kickCheck (s : State) (r : Nat) (b : List Byte) : Nat :=
  let n := (s.ring r).serverId
  let c := field b 6 1 % 64
  let acct := bits (s.reg c (rtvPage n + 0x108)) 15 0
  if !(decide (field b 1 1 % 128 = 0) && decide (field b 6 1 < 64) && zeroBytes b 0x07 33 && zeroBytes b 0x30 16) then 2
  else if (s.ring acct).part ≠ (s.ring r).part then 0xB
  else if (s.chan n c).cancelling then 1
  else 0

/-- RTV_KICK acts (R134). -/
def doKick (s : State) (r : Nat) (b : List Byte) : State :=
  let n := (s.ring r).serverId
  let c := field b 6 1 % 64
  let st := orRefused s r (kickCheck s r b)
  if st ≠ 0 then actEntry s r b st 0 0 0
  else
    let had := (s.chan n c).shadow.isSome
    let running := (s.chan n c).active.isSome
    actEntry (armChannel s n c) r b 0 (if running then 2 else 1) (flag had) 0

/-- RTV_KICK. -/
def execRtvKick (r : Nat) (s : State) : Res :=
  onUnit (decide (r < 65536)) (match nextActing s r 0x22 with
    | none => s
    | some b => doKick s r b)

/-- DATA_RING_CLAIM: a descriptor that waits takes its slot; one that finds neither credit nor slot and whose counter is broken
is released with SYNC_BROKEN (R128, R180). -/
def claimSlot (s : State) (n d : Nat) : State :=
  match descOf s n d with
  | none => s
  | some D =>
    if !D.waiting || D.cut.isSome then s
    else if slotThere s D then takeSlot s n D
    else if (s.obj (slotSync s D)).broken then completeDesc s n D 5
    else s

/-- DATA_RING_CLAIM. -/
def execDataRingClaim (n d : Nat) (s : State) : Res := onUnit (decide (n < 10)) (claimSlot s n d)

/-- REQUEST_ISSUE. -/
def execRequestIssue (n d : Nat) (s : State) : Res := onUnit (decide (n < 10)) (issueRequest s n d)

/-- REQUEST_LAND. -/
def execRequestLand (n req : Nat) (data : List Byte) (s : State) : Res :=
  onUnit (decide (n < 10)) (landRequest s n req data)

/-! ## Breaking objects with their descriptors (R178) -/

/-- A waiting descriptor is released from its data ring with a status. -/
def releaseDescs (s : State) (o status : Nat) : State :=
  ((allDescs s).filter fun p => p.2.waiting && decide (o = slotSync s p.2)).foldl (fun t p => completeDesc t p.1 p.2 status) s

/-- An object breaks with everything that waits on it, descriptors of data rings included (R178, R180). -/
def breakAll (s : State) (o cause member ring : Nat) : State :=
  releaseDescs (if (s.obj o).broken then s else breakObj s o cause member ring) o 5

end Sys2Proof.Machine
end

