-- ==== Sys2Proof/Machine/Ring.lean ====
section
/-! DEFINITION. Sys2Proof/Machine/Ring.lean: the ring window's writes, doorbell updates of TAIL, cancelling, result slots and the
posting of completions (R121, R122, R135, R174, R313 to R317, R409). -/

namespace Sys2Proof.Machine

open Sys2Proof

/-! ## Result slots (R313, R314, R316) -/

/-- Address of the result slot of a sequence. -/
def resultAddr (R : Ring) (q : Nat) : Nat := R.rsBase + 64 * (q % R.slots)

/-- Bytes written at a result slot: in host memory of the ring's function, or in HBM where the map and the partition hold them,
else counted (R313). A function that is draining writes no host memory (R320). -/
def slotStore (s : State) (R : Ring) (a : Nat) (bs : List Byte) : State :=
  if R.rsSpace = 0 then
    if (s.fn R.part).draining then s else s.send (.hostWrite R.part a bs)
  else if inSpace 1 a bs.length && partReaches s R.part 1 a bs.length then
    if hbmMeets s 4 a bs.length then (hbmTraffic s 4 a bs.length 5 5 1023 true none).hbmStore a bs Who.none none else s
  else s.count 0 (pciPage + 0x68) 1

/-- The header of a free slot: SEQ, NOT_READY and zeros. -/
def freeHeader (seq : Nat) : List Byte := leBytes 4 seq ++ [0xFF, 0, 0, 0]

/-- Headers of a run of slots are written. -/
def writeHeaders (s : State) (R : Ring) (seq : Nat) (qs : List Nat) : State :=
  qs.foldl (fun t q => slotStore t R (resultAddr R q) (freeHeader seq)) s

/-- Every header of a ring is initialised. -/
def initHeaders (s : State) (r seq : Nat) : State :=
  let R := s.ring r
  writeHeaders s R seq (span 0 R.slots)

/-- The two writes of a completion: bytes 0x08 to 0x3F, then bytes 0x00 to 0x07 (R314). -/
def completionHigh (c : Completion) : List Byte :=
  leBytes 8 c.tag ++ leBytes 2 c.layer ++ leBytes 2 c.oper ++ leBytes 4 0 ++ leBytes 8 c.res0 ++ leBytes 8 c.res1 ++
    leBytes 8 c.res2 ++ List.replicate 16 0
def completionLow (q : Nat) (c : Completion) : List Byte :=
  leBytes 4 q ++ leBytes 1 c.status ++ leBytes 1 c.opcode ++ leBytes 2 0

/-- Slots up to sequence q are released: P is the count of completions posted, which is HEAD (R316). -/
def releaseSlots (s : State) (r q : Nat) : State :=
  let R := s.ring r
  let d := sub32 (q + 1) R.released
  if d = 0 ∨ 2 ^ 31 ≤ d then s
  else if sub32 R.head (q + 1) ≥ 2 ^ 31 then s.count 0 (pciPage + 0x48) 1
  else
    let s1 := writeHeaders s R (sub32 R.head 1) ((span 0 d).map fun i => add32 R.released i)
    (s1.setRing r { s1.ring r with released := add32 q 1 }).count 0 (pciPage + 0x50) d

/-! ## TAIL (R121) -/

/-- TAIL moved to v, or none where the update is ignored: backwards, beyond SLOTS, or a data ring. -/
def moveTail (s : State) (r v : Nat) : Option State :=
  let R := s.ring r
  if R.kind = 2 ∨ 2 ^ 31 ≤ sub32 v R.tail ∨ R.slots < sub32 v R.head then none
  else some (s.setRing r { R with tail := v % 2 ^ 32,
                                  tails := if v % 2 ^ 32 = R.tail then R.tails else R.tails ++ [(v % 2 ^ 32, s.hubUs)] })

/-- RING_TAIL written. -/
def writeTail (s : State) (r v : Nat) : State :=
  match moveTail s r v with
  | some t => t
  | none => errState s (ringPage (dieOfRing r))

/-! ## Configuration (R122) -/

/-- Whether a started descriptor of any ring or channel names a data ring. -/
def ringNamed (s : State) (r : Nat) : Bool :=
  (allDescs s).any fun p => (descToRing p.2.bytes || descFromRing p.2.bytes) && decide (descRing p.2.bytes = r)

/-- Whether offsets 0x00 to 0x08, 0x1C and 0x28 accept writes. -/
def ringWritable (s : State) (r : Nat) : Bool :=
  let R := s.ring r
  R.holds.isEmpty &&
    (decide (R.mode = .off) || (decide (R.mode = .stopped) && decide (R.inFlight = 0)) ||
      (decide (R.kind = 2 ∧ R.mode = .on) && !ringNamed s r))

/-- Whether RING_CFG's value keeps its stated ranges (R122, R114). -/
def ringCfgRange (r v : Nat) : Bool :=
  let kind := bits v 31 30
  let server := bits v 11 8
  let id := bits v 7 4
  decide (kind ≠ 3) && decide (2 ≤ bits v 23 12) &&
    (decide (kind ≠ 1) || (decide (server = 1) ||
      (decide (server = 2) && (decide (id = 8 ∨ id = 9) || decide (id < 8 ∧ id / 2 = dieOfRing r))))) &&
    (decide (kind ≠ 2) || decide (server = 0 ∧ id = 0))

/-- What holds a ring of a partition that leaves OFF now: a pack stop, and D3hot of its function (R283, R322). -/
def presentHolds (s : State) (part : Nat) : List Hold :=
  (if s.pack.stopNo.isSome then [.packStop] else []) ++ (if (s.fn part).d3hot then [.d3hot] else [])

/-- A ring leaves OFF (R122, R226, R313). -/
def ringLeaveOff (s : State) (r : Nat) : State :=
  let R := s.ring r
  let s1 := s.setRing r { R with
    mode := .on, head := 0, tail := 0, issue := 0, energy := 0, phase := 1, savedPhase := 1, fly := [], tails := []
    waitUs := 0, heldUs := 0, wdogUs := 0, holds := presentHolds s R.part, released := if R.rsEn then 0 else R.released }
  if R.rsEn ∧ R.kind = 1 then initHeaders s1 r 0xFFFFFFFF else s1

/-- A ring goes to OFF; an open request closes ABANDONED (R122, R241). -/
def ringToOff (s : State) (r : Nat) : State :=
  let s1 := abandonRequest s r
  s1.setRing r { s1.ring r with mode := .off, kind := 0, fly := [], tails := [], wdogUs := 0, holds := [] }

/-- RING_CFG written with an accepted value; a VF keeps its own number in PART (R309). -/
def writeRingCfg (s : State) (r v : Nat) (vf : Option Nat) : State :=
  let R := s.ring r
  let kind := bits v 31 30
  let was := R.mode
  let size := if kind = 1 then 1 else R.slotSize
  let s1 := s.setRing r { R with
    kind := kind, outMode := bits v 29 29, space := bits v 28 28, home := bits v 27 25, slotsM1 := bits v 23 12
    server := bits v 11 8, serverId := bits v 7 4, part := vf.getD (bits v 3 0), slotSize := size }
  if kind = 0 then (if was = .off then s1 else ringToOff s1 r)
  else if was = .off then ringLeaveOff s1 r
  else s1

/-- Configuration of a ring written at a window offset: refused in the wrong state or out of range (R122, R141). -/
def writeRingConfig (s : State) (r off v : Nat) (vf : Option Nat) : State :=
  let page := ringPage (dieOfRing r)
  let R := s.ring r
  if !ringWritable s r then errState s page
  else if off = 0x00 then
    let others := tagsReserved (s.setRing r { R with tagQuota := 0 }) (bits v 7 4)
    let tags := decide (bits v 31 30 = 1 ∧ bits v 29 29 = 1 ∧ bits v 11 8 = 2 ∧ 2048 < others + R.tagQuota)
    if ringCfgRange r v && !tags then writeRingCfg s r v vf else errState s page
  else if off = 0x04 then
    if 1 ≤ bits v 20 0 ∧ bits v 20 0 ≤ 2 ^ 20 then
      s.setRing r { R with slotSize := if R.kind = 1 then 1 else bits v 20 0 }
    else errState s page
  else if off = 0x08 then
    if v % 64 = 0 then s.setRing r { R with base := v } else errState s page
  else if off = 0x1C then
    let quota := bits v 27 16
    let limit := bits v 8 0
    let others := tagsReserved (s.setRing r { R with tagQuota := 0 }) R.serverId
    if limit = 0 ∨ 256 < limit ∨ 2048 < quota then errState s page
    else if R.kind = 1 ∧ R.server = 2 ∧ R.outMode = 1 ∧ 2048 < others + quota then errState s page
    else s.setRing r { R with tagQuota := quota, limit := limit }
  else s.setRing r { R with freeSync := bits v 31 16, fillSync := bits v 15 0 }

/-- RING_SR_SEED, RING_SR_STREAM and WDOG_MS written (R88, R122). -/
def writeRingPlain (s : State) (r off v : Nat) : State :=
  let R := s.ring r
  if off = 0x2C then s.setRing r { R with wdogMs := v % 2 ^ 16 }
  else if off = 0x30 then s.setRing r { R with srSeed := v }
  else s.setRing r { R with srStream := v }

/-- Admission fields written: only in STATE NONE or REFUSED; REQUEST and RELEASE act; a LARGEST that
is not a multiple of 64 is refused (R122, R192, R204). -/
def writeRingAdm (s : State) (r off v : Nat) : State :=
  let R := s.ring r
  let free := decide (R.admState = 0 ∨ R.admState = 3)
  let page := ringPage (dieOfRing r)
  if off = 0x40 then
    let same := decide (bits v 3 0 = R.admInput)
    let s1 := if same then s else if free then s.setRing r { R with admInput := bits v 3 0 } else errState s page
    if bit v 31 then admRequest s1 r else if bit v 30 then admRelease s1 r else s1
  else if !free then errState s page
  else if off = 0x44 then s.setRing r { R with admDies := bits v 11 8, admUp := bits v 7 4, admDown := bits v 3 0 }
  else if off = 0x48 then s.setRing r { R with admRate := v % 2 ^ 32 }
  else if off = 0x4C then (if v % 64 = 0 then s.setRing r { R with admLargest := v % 2 ^ 32 } else errState s page)
  else s.setRing r { R with admNeed := v % 2 ^ 32 }

/-! ## START, STOP and CANCEL (R122, R135, R174) -/

/-- Waiting entries of a ring of a kind are withdrawn from their objects and complete CANCELLED; a withdrawn ARRIVE shows GEN and
ARRIVED as they stood after it arrived (R171, R174). -/
def withdraw (s : State) (r : Nat) (which : EntryWait → Bool) : State :=
  let waits := (s.ring r).fly.filter fun f => !f.isDone && which f.wait
  freeMirrors (waits.foldl (fun t f =>
    let (a, b) := waiterRes t r f.seq f.wait
    finishEntry (forgetWaiter t r f.seq) r f.seq 6 a b 0) s)

/-- STOP of a command ring. -/
def ringStop (s : State) (r : Nat) : State :=
  let R := s.ring r
  if R.kind = 1 ∧ R.mode = .on then withdraw (s.setRing r { R with mode := .stopped }) r EntryWait.withdrawn else s

/-- START of a ring. -/
def ringStart (s : State) (r : Nat) : State :=
  let R := s.ring r
  if R.mode = .stopped then s.setRing r { R with mode := .on } else s

/-- CANCEL of a command ring that runs or has stopped: the cancel point (R135 order 1). -/
def ringCancel (s : State) (r : Nat) : State :=
  let R := s.ring r
  if R.kind = 1 ∧ (R.mode = .on ∨ R.mode = .stopped) then withdraw (beginCancel s r) r EntryWait.cancelled else s

/-- RING_CTRL written (R122, R196): KEY is checked before CANCEL reaches this. -/
def writeRingCtrl (s : State) (r v : Nat) : State :=
  let R := s.ring r
  let page := ringPage (dieOfRing r)
  let ovr := bits v 2 0
  if 6 ≤ ovr then errState s page
  else
    let s1 := if ovr = R.classOvr then s
      else if R.admState = 2 then errState s page
      else s.setRing r { R with classOvr := ovr }
    let s2 := if bit v 5 then ringCancel s1 r else s1
    let s3 := if bit v 6 then ringStop s2 r else s2
    if bit v 7 then ringStart s3 r else s3

/-- Result-slot registers written (R313, R324): a STOPPED ring whose EN is set gets fresh headers. A refusal is that of
the page written; an unaligned PCI_RS_BASE is one: DESIGN CHOICE, log entry 102. -/
def writeRs (s : State) (page r off v : Nat) : State :=
  let R := s.ring r
  let ok := R.holds.isEmpty && decide (R.mode = .off ∨ (R.mode = .stopped ∧ R.inFlight = 0))
  if !ok then errState s page
  else if off = 0x134 then
    let en := bit v 31
    let R1 := { R with rsEn := en, rsSpace := bits v 30 30, rsVector := bits v 10 0 }
    if en ∧ !R.rsEn ∧ R.mode = .stopped ∧ R.kind = 1 then
      initHeaders (s.setRing r { R1 with released := R.head }) r (sub32 R.head 1)
    else s.setRing r R1
  else if v % 64 = 0 then s.setRing r { R with rsBase := v }
  else errState s page

/-! ## The end of a cancel (R135 orders 3 to 5) -/

/-- Whether what a cancelled ring had started is at rest: no request in flight, and every other started entry complete. -/
def cancelQuiet (s : State) (r : Nat) : Bool :=
  (ringDescs s r).all (fun p => p.2.reqs.isEmpty) &&
    (s.ring r).fly.all fun f => f.isDone || (ringDescs s r).any fun p => p.2.owner == .entry r f.seq

/-- Entries that never started complete CANCELLED with the fields of their slots (R135); a slot that cannot be read leaves them
zero (R409). -/
def cancelUnstarted : (fuel : Nat) → State → Nat → State
  | 0, s, _ => s
  | fuel + 1, s, r =>
    let R := s.ring r
    if R.issue = R.cancelTail then s
    else
      let b := if R.slotInside R.issue && !slotEcc s R R.issue then slotBytesOf s R R.issue else List.replicate 64 0
      let f : Flight := ⟨R.issue, b, .running, none, false, s.hubUs, 0⟩
      let s1 := s.setRing r { R with issue := add32 R.issue 1, fly := R.fly ++ [f] }
      cancelUnstarted fuel (finishEntry s1 r R.issue 6 0 0 0) r

/-- The claims beyond FILLED of every data ring that the cancelled descriptors name are discarded, then every entry up to
CANCEL_TAIL − 1 completes CANCELLED in sequence order, and the ring is STOPPED. -/
def cancelComplete (s : State) (r : Nat) : State :=
  if (s.ring r).mode = .cancelling ∧ cancelQuiet s r then
    let s1 := (ringDescs s r).foldl (fun t p => finishCut t p.1 p.2 6) s
    let s2 := cancelUnstarted 4096 s1 r
    s2.setRing r { s2.ring r with mode := .stopped, tails := [] }
  else s

/-- A microsecond of the hub timer at the held rings: they have no eligible entries (R322). -/
def holdTick (s : State) : State :=
  { s with rings := s.rings.map fun p => if p.2.holds = [] then p else (p.1, { p.2 with heldUs := s.hubUs }) }

/-! ## Posting (R200, R313, R317, R179) -/

/-- The status with which a completion is posted: OK of a late admitted descriptor under a suspension becomes
GUARANTEE_SUSPENDED; and whether it counts as late, which an error status does not (R200). The entry has the bound under which it
started (R197). -/
def postedStatus (s : State) (f : Flight) (c : Completion) : Nat × Bool :=
  let desc := decide (c.opcode = 0x20 ∨ c.opcode = 0x21)
  let late := desc && decide (c.status = 0 ∧ f.grant ≠ 0 ∧ f.grant < (s.hubUs - f.eligUs) * 1000)
  let susp := admSuspended s || decide (f.eligUs < s.power.suspUs)
  if late && susp then (0xC, false) else (c.status, late)

/-- Whether a completion's slot is free, its host may be written, and it may be posted. -/
def postReady (s : State) (R : Ring) : Bool :=
  (!R.rsEn || decide (sub32 R.head R.released < R.slots)) &&
    !(R.rsEn && decide (R.rsSpace = 0) && (s.fn R.part).d3hot)

/-- An interrupt of the ring passes its event crossing, or is overrun there (R214, R317). -/
def crossIrq (s : State) (r : Nat) (full : Option Bool) : State :=
  crossing s 0 full fun t => ringInterrupt t r

/-- The oldest completion of a ring is posted (R313). -/
def postHead (s : State) (r : Nat) (f : Flight) (rest : List Flight) (c0 : Completion) (full : Option Bool) :
    State :=
  let R := s.ring r
  let (status, late) := postedStatus s f c0
  let c := { c0 with status := status }
  let s1 := if status = c0.status then s else entryError s (servePage s r f.bytes) status (f.who r) R.part
  let a := resultAddr R R.head
  let s2 := if R.rsEn then slotStore (slotStore s1 R (a + 8) (completionHigh c)) R a (completionLow R.head c) else s1
  let R2 := s2.ring r
  let mode := if c.stops ∧ R2.mode = .on then .stopped else R2.mode
  let s3 := s2.setRing r { R2 with head := add32 R2.head 1, fly := rest, mode := mode }
  let s4 := (s3.count 0 (pciPage + 0x58) 1).count 0 (hubPage + 0x218) (flag late)
  let s5 := trace s4 (blockId (servePage s r f.bytes)) 2 status c.res0 (f.who r)
  if c.irq || decide (status ≠ 0 ∧ status ≠ 6) then crossIrq s5 r full else s5

/-- Whether the oldest entry of a ring is complete and can be posted. -/
def canPost (s : State) (r : Nat) : Bool :=
  match (s.ring r).fly with
  | [] => false
  | f :: _ => f.isDone && postReady s (s.ring r)

/-- COMPLETION_POST's effect: without a free slot the completion waits. -/
def postCompletion (s : State) (r : Nat) (full : Option Bool) : State :=
  let R := s.ring r
  match R.fly with
  | [] => s
  | f :: rest => match f.done with
    | none => s
    | some c => if postReady s R then postHead s r f rest c full else s

/-- COMPLETION_POST. -/
def execCompletionPost (r : Nat) (full : Bool) (s : State) : Res := onUnit (decide (r < 65536)) (postCompletion s r (some full))

/-- CANCEL_COMPLETE. -/
def execCancelComplete (r : Nat) (s : State) : Res := onUnit (decide (r < 65536)) (cancelComplete s r)

/-! ## Entries that no block runs (R46, R123, R409) -/

/-- RESERVED_OPCODE: the next entry has an opcode that is reserved or not its server's. -/
def execReservedOpcode (r : Nat) (s : State) : Res :=
  onUnit (decide (r < 65536)) (match nextEntry s r with
    | none => s
    | some b => if opServed (s.ring r) (entryOp b) ∨ !(s.ring r).quiet then s else actEntry s r b 2 0 0 0)

/-- The next entry's slot cannot be read: it lies outside its space, or meets an uncorrectable error, which the sync page records
too because the ring stops (R179, R409). -/
def slotFailure (s : State) (r : Nat) : State :=
  let R := s.ring r
  let zero : List Byte := List.replicate 64 0
  let page := ringPage (dieOfRing r)
  let streams := R.fly.all fun f =>
    f.isDone || decide (entryOp f.bytes = 0x10 ∨ entryOp f.bytes = 0x20 ∨ entryOp f.bytes = 0x21)
  if !ringMayStart R || !ringServed s r R || !slotReached s r R || !streams then s
  else if !R.slotInside R.issue then
    finishWith (beginEntry s r zero .running) r R.issue page (completionOf zero 2 0 0 0)
  else if slotEcc s R R.issue then
    let c := { completionOf zero 7 0 0 0 with stops := true }
    let t := finishWith (beginEntry s r zero .running) r R.issue page c
    raiseErr t syncPage 7 Who.none R.part
  else s

/-- SLOT_READ_FAILURE. -/
def execSlotReadFailure (r : Nat) (s : State) : Res := onUnit (decide (r < 65536)) (slotFailure s r)

/-! ## Power phases (R226, R227) -/

/-- Reserved fields of PWR_PHASE and PWR_RESTORE are zero. -/
def phaseFormat (b : List Byte) : Bool :=
  decide (field b 1 1 % 128 = 0) && decide (field b 6 1 < 8) && zeroBytes b 0x07 33 && zeroBytes b 0x30 16

/-- PWR_PHASE acts: it saves the ring's phase and sets the new one. -/
def doPhase (s : State) (r : Nat) (b : List Byte) : State :=
  let R := s.ring r
  let p := field b 6 1 % 8
  let st := orRefused s r (if phaseFormat b then 0 else 2)
  if st = 0 then actEntry (s.setRing r { R with savedPhase := R.phase, phase := p }) r b 0 p R.phase 0
  else actEntry s r b st 0 0 0

/-- PWR_RESTORE acts: the phase is the saved one again. -/
def doRestorePhase (s : State) (r : Nat) (b : List Byte) : State :=
  let R := s.ring r
  let st := orRefused s r (if phaseFormat b && decide (field b 6 1 = 0) then 0 else 2)
  if st = 0 then actEntry (s.setRing r { R with phase := R.savedPhase }) r b 0 R.savedPhase R.savedPhase 0
  else actEntry s r b st 0 0 0

/-- PWR_PHASE. -/
def execPwrPhase (r : Nat) (s : State) : Res :=
  onUnit (decide (r < 65536)) (match nextActing s r 6 with
    | none => s
    | some b => doPhase s r b)

/-- PWR_RESTORE. -/
def execPwrRestore (r : Nat) (s : State) : Res :=
  onUnit (decide (r < 65536)) (match nextActing s r 7 with
    | none => s
    | some b => doRestorePhase s r b)

end Sys2Proof.Machine
end

