-- ==== Sys2Proof/Machine/Dies.lean ====
section
/-! DEFINITION. Sys2Proof/Machine/Dies.lean: bridges between the dies, and the control cores under the management core's watch
(R15 to R21, R25, R26). -/

namespace Sys2Proof.Machine

open Sys2Proof

/-! ## Bridges (R17, R25) -/

/-- Key of HUB_BRIDGE_STATUS of a die. -/
def bridgeReg (die : Nat) : Nat := hubPage + 0x110 + 4 * die

/-- Every request of a Retriever that crosses a bridge taken down completes ISOLATED. -/
def isolateRequests (s : State) : State :=
  (allDescs s).foldl (fun t p => p.2.reqs.foldl (fun u q =>
    match (u.rtv p.1).descs.find? fun d => d.id == p.2.id with
    | none => u
    | some d => if requestDown u p.1 d q then requestDone (leaveArbs u (reqTag p.1 q.id)) p.1 d q 3 0 0 else u) t) s

/-- The bridge of a die is taken down: its transfers complete ISOLATED, and the die is reported lost to the host. -/
def takeBridgeDown (s : State) (die : Nat) : State :=
  let s1 := s.setFld 0 (bridgeReg die) 31 31 0
  let s2 := { s1 with dies := { s1.dies with bridgeDown := putRising die s1.dies.bridgeDown } }
  errEvent (isolateRequests s2) 0

/-- A lane group fails in one direction of a bridge: it is recorded, and fewer than eight working groups take the bridge
down. -/
def failGroup (s : State) (die dir group : Nat) : State :=
  let k := 2 * die + dir
  let mask := mget s.dies.groupsFailed k 0 ||| 2 ^ group
  let s1 := { s with dies := { s.dies with groupsFailed := mset s.dies.groupsFailed k mask 0 } }
  let a := bridgeReg die
  let s2 := raiseErr ((s1.setReg 0 a (s1.reg 0 a ||| 2 ^ group)).count 0 (hubPage + 0x48) 1) hubPage 13 Who.none 0
  if ((span 0 16).filter fun g => bit mask g).length ≤ 8 then s2 else takeBridgeDown s2 die

/-- A beat on a lane group: a parity error makes it replay, which is counted, and the third failed replay of one beat fails the
group. The beats of a packet are counted as activity when its unit completes (R187); a replay is one more. -/
def bridgeBeat (s : State) (die dir group : Nat) (bad : Bool) : State :=
  let k := 32 * die + 16 * dir + group
  let n := mget s.dies.replays k 0
  let put (t : State) (v : Nat) : State := { t with dies := { t.dies with replays := mset t.dies.replays k v 0 } }
  if die ∈ s.dies.bridgeDown ∨ bit (mget s.dies.groupsFailed (2 * die + dir) 0) group then s
  else
    if !bad then put s 0
    else if n < 3 then put ((activity s (27 + die) 0 1 none).count 0 (hubPage + 0x40) 1) (n + 1)
    else failGroup (put s 0) die dir group

/-- BRIDGE_BEAT. -/
def execBridgeBeat (die dir group : Nat) (bad : Bool) (s : State) : Res :=
  onUnit (decide (die < 4 ∧ dir < 2 ∧ group < 16)) (bridgeBeat s die dir group bad)

/-! ## Control cores (R20, R21) -/

/-- Whether a control core is in service. -/
def coreRuns (s : State) (c : Nat) : Bool := decide (s.start.state = 1) && decide (c ∉ s.dies.coreHeld)

/-- Requester number of a control core (R382). -/
def coreRq (c : Nat) : Nat := 17 + c

/-- A control core is reset alone: its selectors and its KEY return to their reset values, and its watchdog begins anew. -/
def resetCore (s : State) (c : Nat) : State :=
  { s with sels := s.sels.filter fun p => decide (p.1 / 2 ^ 32 ≠ coreRq c)
           dies := { s.dies with coreSince := mset s.dies.coreSince c s.hubUs 0, coreMissed := mset s.dies.coreMissed c 0 0 } }

/-- A control core fails (R21): the rings it serves stop, it is reset and reloaded, and the host is told; a second failure on
its die within 1 s keeps both cores in reset. -/
def failCore (s : State) (c : Nat) : State :=
  let rings := (s.dies.coreRings.filter fun p => p.1 == c).map (·.2)
  let s1 := resetCore (rings.foldl ringStop (s.count 0 (hubPage + 0x50) 1)) c
  let D := s1.dies
  let other := (span (c / 8 * 8) 8).find? fun o =>
    let t := mget D.coreFailUs o 0
    decide (o ≠ c ∧ t ≠ 0 ∧ s.hubUs + 1 < t + 1000000)
  let held := match other with
    | none => D.coreHeld
    | some o => putRising c (putRising o D.coreHeld)
  errEvent { s1 with dies := { D with coreFailUs := mset D.coreFailUs c (s.hubUs + 1) 0, coreHeld := held } } 0

/-- One core at a heartbeat check: the second miss in a row fails it. -/
def checkHeartbeat (s : State) (c : Nat) (alive : Bool) : State :=
  let D := s.dies
  let n := mget D.coreMissed c 0
  let put (v : Nat) : State := { s with dies := { D with coreMissed := mset D.coreMissed c v 0 } }
  if !coreRuns s c then s
  else if alive then put 0
  else if n = 0 then put 1
  else failCore s c

/-- HEARTBEAT_CHECK: once per millisecond the management core reads every control core's heartbeat counter, which wakes an
island whose clock is stopped (R20, R218). -/
def execHeartbeatCheck (alive : Nat) (s : State) : Res :=
  .next (atPeriod s heartbeatTimer 1000 fun t => (span 0 32).foldl (fun u c =>
    checkHeartbeat (if coreRuns u c then wakeIsland u (16 + c / 8) else u) c (bit alive c)) t)

/-- The watchdog time in microseconds that a restart at a hub time takes: HUB_CORE_WDOG.MS as it stood then, 10 ms at reset; 0
acts as 1, a value above 100 as 100 (R26). -/
def coreWdogUs (s : State) (kick : Nat) : Nat :=
  1000 * min 100 (max 1 (match s.dies.wdogSet.find? fun p => decide (p.1 ≤ kick) with
    | some p => p.2
    | none => 10))

/-- Hub time at which a core left reset last, which starts its watchdog. -/
def coreStartUs (s : State) (c : Nat) : Nat := max (mget s.dies.coreSince c 0) (mget s.dies.coreSince 32 0)

/-- HUB_CORE_WDOG written: it acts at each core's next restart of its watchdog (R26). -/
def writeCoreWdog (s : State) (v : Nat) : State :=
  { s with dies := { s.dies with wdogSet := (s.hubUs, bits v 6 0) :: s.dies.wdogSet } }.setReg 0 (hubPage + 0x120) (bits v 6 0)

/-- CORE_WATCHDOG_EXPIRY: the watchdog time in force has passed since the core restarted its watchdog. DESIGN CHOICE (log entry
88): the spec has no step by which a core does so, and the command names the hub time of the last restart. -/
def execCoreWatchdogExpiry (core : Nat × Nat) (s : State) : Res :=
  onUnit (decide (core.1 < 32))
    (if coreRuns s core.1 && decide (coreStartUs s core.1 ≤ core.2) && decide (core.2 + coreWdogUs s core.2 ≤ s.hubUs) then
      failCore s core.1 else s)

/-- A schedule table that a control core has published for a ring fails its check: the host is told, it is counted, and the ring
starts no entry until a sound table is published (R20, R386, log entry 40). -/
def badTable (s : State) (ring : Nat) : State :=
  errEvent ({ s with dies := { s.dies with badTables := putRising ring s.dies.badTables } }.count 0 (hubPage + 0x58) 1) 0

/-- SCHEDULE_DIGEST_CHECK: the digest of a schedule table that a core has published for a ring is checked; a table that holds
makes the core the ring's server. -/
def execScheduleDigestCheck (core ring : Nat) (table digest : List Byte) (s : State) : Res :=
  onUnit (decide (core < 32 ∧ ring < 65536)) (
    if hash table = digest then
      let others := s.dies.coreRings.filter fun p => !(p.2 == ring)
      { s with dies := { s.dies with coreRings := others ++ [(core, ring)], badTables := s.dies.badTables.filter (· ≠ ring) } }
    else badTable s ring)

end Sys2Proof.Machine
end

