-- ==== Sys2Proof/Machine/Reset.lean ====
section
/-! DEFINITION. Sys2Proof/Machine/Reset.lean: the full device reset that every source takes, its recorded cause, and the start
journal (R325, R326, R338, R342). -/

namespace Sys2Proof.Machine

open Sys2Proof

/-- A start-journal record is appended; the oldest of the 4 MiB region's 131,072 records gives way (R338). -/
def journalAdd (s : State) (step event level result detail : Nat) : State :=
  let r : JournalRec := ⟨s.flash.startNo, s.hubUs % 2 ^ 32, step, event, level, result, detail⟩
  let j := if s.flash.journal.length < 131072 then s.flash.journal else s.flash.journal.drop 1
  { s with flash := { s.flash with journal := j ++ [r] } }

/-- Microseconds for which a source holds the device at least: 1 ms, but for PERST# and a thermal trip, which hold by their
pins (R325, R330). -/
def resetHold (code : Nat) : Nat := if code = 2 ∨ code = 8 then 0 else 1000

/-- The package under a full reset of a source: everything takes its reset value, flash survives, memory is undefined, and the
link is kept for sources 5 to 7 (R325, R326). The first source is recorded in CODE, a later one in ALSO. -/
def resetWith (s : State) (code sub : Nat) (first : Bool) : State :=
  let old := s.reg 0 (rstPage + 0x104)
  let cause := if first then sub * 2 ^ 16 + code else old ||| 2 ^ (7 + code)
  let kept := decide (5 ≤ code ∧ code ≤ 7)
  let pf0 := { Fn.zero with memSpace := kept && (s.fn 0).memSpace }
  let hold := if s.start.asserted then max s.start.holdUs (resetHold code) else resetHold code
  let start := { Start.zero with asserted := true, pwrOk := s.start.pwrOk, perst := s.start.perst, trip := s.start.trip,
                                 holdUs := hold, step := 0 }
  let z := { State.reset with
    regs := [], stage := Memory.unwritten (8 * 2 ^ 26) s.freeCtr, hbm := Memory.unwritten (2 ^ 41) (s.freeCtr + 1)
    flash := s.flash, start := start, out := s.out, freeCtr := s.freeCtr + 2, pending := s.pending }
  (z.setReg 0 (rstPage + 0x104) cause).setFn 0 pf0

/-- A reset source arrives: it is the first one unless reset or start is under way (R325, R342). -/
def assertReset (s : State) (code sub : Nat) : State :=
  resetWith s code sub (!s.start.asserted && decide (s.start.state ≠ 0))

/-- A sensor reads 85 °C or more in a thermal-trip hold: its second begins anew (R330). -/
def stillHot (s : State) : State := { s with start := { s.start with coolUs := 0 } }

/-- A thermal trip: THERMTRIP# is asserted and the device held (R330). -/
def thermalTrip (s : State) : State :=
  if s.start.trip then s
  else
    let t := assertReset s 8 0
    { t with start := { t.start with trip := true } }

end Sys2Proof.Machine
end

