-- ==== Sys2Proof/Machine/Hbm.lean ====
section
/-! DEFINITION. Sys2Proof/Machine/Hbm.lean: bursts at the stacks, patrol, refresh, temperatures and sector windows (R147, R150,
R155 to R163). -/

namespace Sys2Proof.Machine

open Sys2Proof

/-! ## Bursts (R155, R156) -/

/-- The Retriever request of a tag, with its Retriever and descriptor. -/
def requestOf (s : State) (tag : Nat) : Option (Nat × Desc × Request) :=
  let n := (tag - 1) / 2 ^ 32
  let id := (tag - 1) % 2 ^ 32
  if tag = 0 then none
  else match (s.rtv n).descs.find? fun d => d.reqs.any fun q => q.id == id with
    | none => none
    | some d => (d.reqs.find? fun q => q.id == id).map fun q => (n, d, q)

/-- A sector joins the failed ones. -/
def addBadSector (s : State) (x : Nat) : State :=
  { s with stackSet := { s.stackSet with badSectors := putRising x s.stackSet.badSectors } }

/-- A request has lost the burst of a sector on its way. -/
def loseBurst (s : State) (tag k : Nat) : State :=
  match requestOf s tag with
  | none => s
  | some (n, d, q) =>
    putDesc s n { d with reqs := d.reqs.map fun y => if y.id = q.id then { y with lost := putRising k y.lost } else y }

/-- KIND of a burst's failure: none; in storage, where a read of a failed sector always fails; parity of the interface, 2 for a
read and 3 for a write; parity of the fabric (R155, R162). -/
def burstKind (s : State) (x : Nat) (write : Bool) (kind : Nat) : Nat :=
  if !write && decide (x ∈ s.stackSet.badSectors) then 1
  else match kind % 4 with
    | 0 => 0
    | 1 => 1
    | 2 => if write then 3 else 2
    | _ => 4

/-- A burst of 32 bytes completes at a stack (R155, R156): its retries and its correction are counted. A burst that fails in
storage leaves its sector failed. One that fails on its way has been retried twice, and is held for the access it belongs to:
that of a Retriever's request, of a tag, or of another block, which the access's own row ends. An access of a control core's own
is its burst alone (log entry 27). -/
def hbmBurst (s : State) (addr write retries kind corrected agent who : Nat) : State :=
  let x := addr / 32
  let w := decide (write ≠ 0)
  let page := stackPage (stackOf s addr)
  let k := burstKind s x w kind
  let tries := if k = 2 ∨ k = 3 then 2 else min retries 2
  let s1 := (s.count 0 (page + 0x60) tries).count 0 (page + 0x50) (flag (decide (corrected ≠ 0)))
  let s2 := if agent = 0 then moveBursts s1 (32 * x) 32 w (inWindow s) none else s1
  if k = 0 then s2
  else
    let s3 := if k = 1 then addBadSector s2 x else s2
    if agent = 0 then hbmEcc s3 addr k false Who.none
    else if k = 1 then s3
    else if agent = 1 then loseBurst s3 who (lostKey x w k)
    else { s3 with stackSet := { s3.stackSet with lost := putRising (lostKey x w k) s3.stackSet.lost } }

/-- HBM_ACCESS: an access inside the map wakes a stack whose clock is stopped (R218). -/
def execHbmAccess (addr write retries kind corrected agent who : Nat) (s : State) : Res :=
  onUnit (decide (addr < 2 ^ 41)) (hbmBurst (wakeIsland s (stackOf s addr)) addr write retries kind corrected agent who)

/-! ## Patrol (R157) -/

/-- PERIOD_H as it acts. -/
def scrubHours (s : State) (st : Nat) : Nat := min 168 (s.fld 0 (stackPage st + 0x10C) 7 0)

/-- Whether no request waits at the arbiter of an address. -/
def pseudoIdle (s : State) (addr : Nat) : Bool :=
  let A := s.arb (hbmArb s addr)
  A.waiting.isEmpty && A.serving.isNone

/-- Whether a sector is the next that the patrol reads in its pseudo-channel. DESIGN CHOICE (log entry 30): in ascending order of
the offset within the pseudo-channel. -/
def patrolNext (s : State) (addr : Nat) : Bool :=
  decide (channelOffset (inWindow s addr) addr / 32 = mget s.stackSet.patrolled (hbmArb s addr) 0)

/-- A patrol read of a sector. -/
def patrol (s : State) (addr result : Nat) : State :=
  let st := stackOf s addr
  let page := stackPage st
  let x := addr / 32
  let a := hbmArb s addr
  if scrubHours s st = 0 ∨ st ∈ s.power.stopped ∨ !pseudoIdle s addr ∨ !patrolNext s addr then s
  else
    let bad := decide (x ∈ s.stackSet.badSectors) || decide (result = 2)
    let done := mset s.stackSet.patrolled a (mget s.stackSet.patrolled a 0 + 1) 0
    let s1 := activity { s with stackSet := { s.stackSet with patrolled := done } } (31 + st) 0 1 none
    if bad then hbmEcc (addBadSector s1 x) addr 1 true Who.none
    else if result = 1 then s1.count 0 (page + 0x50) 1
    else s1

/-- PATROL_READ. -/
def execPatrolRead (addr result : Nat) (s : State) : Res := onUnit (decide (addr < 2 ^ 41)) (patrol s addr result)

/-- Whether the patrol has covered every sector of a stack: 2^27 of each pseudo-channel. -/
def patrolDone (s : State) (st : Nat) : Bool :=
  (span (32 * st) 32).all fun a => decide (2 ^ 27 ≤ mget s.stackSet.patrolled a 0)

/-- The end of a patrol period of PERIOD_H hours, once they have passed: SCRUB_LATE is set where the patrol has not covered the
stack, and it carries on from where it stopped; a patrol that has covered it begins anew. -/
def scrubEnd (s : State) (st : Nat) : State :=
  if scrubHours s st = 0 ∨ s.hubUs < mget s.stackSet.scrubUs st 0 + scrubHours s st * 3600000000 then s
  else
    let t := { s with stackSet := { s.stackSet with scrubUs := mset s.stackSet.scrubUs st s.hubUs 0 } }
    if !patrolDone s st then raiseErr t (stackPage st) 13 Who.none 0
    else
      let left := (span (32 * st) 32).foldl (fun m a => mset m a 0 0) t.stackSet.patrolled
      { t with stackSet := { t.stackSet with patrolled := left } }

/-- SCRUB_LATE. -/
def execScrubLate (st : Nat) (s : State) : Res := onUnit (decide (st < 16)) (scrubEnd s st)

/-! ## Refresh and temperature (R158 to R161) -/

/-- Average refresh interval of a bank in ns: halved at step 4 (R160). -/
def refreshNs (s : State) (st : Nat) : Nat := if stackStep s st = 4 then 1950 else 3900

/-- A refresh takes its slot at input 7 of its pseudo-channel: it is granted at once, and a request of a lower input in service
gives way between its units (R160, R187). -/
def refreshGrant (s : State) (a : Nat) : State :=
  let A := s.arb a
  let s1 := s.count (arbSel a 7) (arbPage a + 0x310) 1
  let A1 := { A with granted := putRising 7 A.granted }
  match A.serving with
  | some q =>
    if q.input < 7 then
      (s1.setArb a { A1 with serving := none, waiting := { q with since := s.hubUs } :: A.waiting }).count
        (arbSel a q.input) (arbPage a + 0x318) 1
    else s1.setArb a A1
  | none => s1.setArb a A1

/-- A refresh of a bank that is due is issued and counted, and the next is due an interval later. -/
def refreshBank (s : State) (st ch bank : Nat) : State :=
  let a := 32 * st + ch
  let k := a * 2 ^ 32 + bank
  let due := mget s.stackSet.refreshAt k 0
  if s.hubUs * 1000 + 999 < due then s
  else
    let next := mset s.stackSet.refreshAt k (due + refreshNs s st) 0
    let s1 := refreshGrant { s with stackSet := { s.stackSet with refreshAt := next } } a
    activity (s1.count 0 (stackPage st + 0x78) 1) (31 + st) 2 1 none

/-- HBM_REFRESH of a bank of a pseudo-channel; a stack in self-refresh needs none. -/
def execHbmRefresh (st : Nat) (bank : Nat × Nat) (s : State) : Res :=
  onUnit (decide (st < 16 ∧ bank.1 < 32))
    (if st ∈ s.power.stopped ∨ st ∈ s.stackSet.selfRefresh then s else refreshBank s st bank.1 (bank.2 % 2 ^ 32))

/-- Entry temperature of a thermal step (R159). -/
def stepTemp (k : Nat) : Nat := 83 + 3 * k

/-- The highest step whose entry temperature is at or below a reading. -/
def riseStep (t : Nat) : Nat := if 95 ≤ t then 4 else if 92 ≤ t then 3 else if 89 ≤ t then 2 else if 86 ≤ t then 1 else 0

/-- A step falls one at a time while the reading is at or below its entry temperature minus 3 °C. -/
def fallStep (t : Nat) : (step : Nat) → Nat
  | 0 => 0
  | k + 1 => if t + 3 ≤ stepTemp (k + 1) then fallStep t k else k + 1

/-- The step after a reading (R159). -/
def nextStep (old t : Nat) : Nat := if old < riseStep t then riseStep t else fallStep t old

/-- A good reading of a stack: TEMP, PEAK and STEP are updated; above 105 °C the device trips (R158, R159, R162). -/
def tempReading (s : State) (st t : Nat) : State :=
  let page := stackPage st
  let v := s.reg 0 (page + 0x100)
  let v1 := putBits (putBits (putBits v 28 28 0) 15 8 t) 2 0 (nextStep (bits v 2 0) t)
  let fails := mset s.stackSet.tempFails st 0 0
  let s1 := { s with stackSet := { s.stackSet with tempFails := fails } }.setReg 0 (page + 0x100) v1
  let s2 := s1.setFld 0 (page + 0x104) 7 0 (max t (s1.fld 0 (page + 0x104) 7 0))
  if 105 < t then thermalTrip s2 else s2

/-- A failed reading: the third in a row sets SENSOR_FAIL (R158). -/
def tempFailure (s : State) (st : Nat) : State :=
  let n := mget s.stackSet.tempFails st 0 + 1
  let s1 := { s with stackSet := { s.stackSet with tempFails := mset s.stackSet.tempFails st n 0 } }
  if 3 ≤ n then s1.setFld 0 (stackPage st + 0x100) 28 28 1 else s1

/-- HBM_TEMP_READ, every 1 ms: a reading in whole °C, or none where the read has failed. In a thermal-trip hold it is the trip
monitor's (R158, R330). -/
def execHbmTempRead (st : Nat) (reading : Option Nat) (s : State) : Res :=
  onUnit (decide (st < 16)) (
    if s.start.asserted then (match reading with
      | none => s
      | some t => if 85 ≤ t then stillHot s else s)
    else atPeriod s (tempTimer st) 1000 fun u => match reading with
      | none => tempFailure u st
      | some t => tempReading u st (min t 255))

/-- HBM_TEMP_PEAK.CLEAR written: PEAK takes the present TEMP (R162). -/
def clearPeak (s : State) (st : Nat) : State :=
  s.setFld 0 (stackPage st + 0x104) 7 0 (s.fld 0 (stackPage st + 0x100) 15 8)

/-! ## Sector windows (R150, R163) -/

/-- Whether a value's enabled range meets another enabled window of the die. -/
def windowMeets (s : State) (die w v : Nat) : Bool :=
  (span 0 8).any fun i =>
    let c := s.reg i (dmapPage die + 0x104)
    !(i == w) && bit c 31 && decide (bits c 8 0 < bits v 8 0 + bits v 18 9) && decide (bits v 8 0 < bits c 8 0 + bits c 18 9)

/-- The bytes under a window's value become undefined, if it is enabled. -/
def loseWindow (s : State) (die v : Nat) : State :=
  if bit v 31 then loseBytes s 1 (die * 2 ^ 39 + bits v 8 0 * 2 ^ 30) (bits v 18 9 * 2 ^ 30) else s

/-- A request that was issued under another mapping reads its source as it stood before the change (R150). -/
def keepSource (s t : State) (d : Desc) (q : Request) : Request :=
  if !descFill d.bytes && decide (srcSpaceOf s d.bytes = 1) && q.kept.isNone && decide (inWindow s q.src ≠ inWindow t q.src) then
    { q with kept := some (s.bytesAt 1 q.src q.len) }
  else q

/-- The sources of all requests in flight kept as they stand in `s`, where the map of `t` differs there. -/
def keepSources (s t : State) : State :=
  { t with rtvs := t.rtvs.map fun p => (p.1, { p.2 with descs := p.2.descs.map fun d =>
      { d with reqs := d.reqs.map (keepSource s t d) } }) }

/-- HBM_WIN_CFG written: refused, or the mapping changes and the bytes it covers are undefined afterwards (R150, R163). -/
def writeWindow (s : State) (die w v : Nat) : State :=
  let page := dmapPage die
  let old := s.reg w (page + 0x104)
  let new := flag (bit v 31) * 2 ^ 31 + bits v 18 9 * 2 ^ 9 + bits v 8 0
  if bit v 31 ∧ (bits v 18 9 = 0 ∨ 512 < bits v 8 0 + bits v 18 9 ∨ windowMeets s die w v) then errState s page
  else if bit old 31 ∧ bits old 18 0 ≠ bits new 18 0 then errState s page
  else if new = old then s
  else loseWindow (loseWindow (keepSources s (s.setReg w (page + 0x104) new)) die old) die new

/-- A microsecond of the hub timer at the stacks: time at step 1 or above (R161), and time without access of each die (R237). -/
def hbmTick (s : State) : State :=
  let s1 := (span 0 16).foldl (fun t st => if 1 ≤ stackStep t st then t.count 0 (stackPage st + 0x68) 1 else t) s
  { s1 with stackSet := { s1.stackSet with
      idleUs := (span 0 4).foldl (fun m d => mset m d (mget m d 0 + 1) 0) s1.stackSet.idleUs } }

end Sys2Proof.Machine
end

