-- ==== Sys2Proof/Machine/Security.lean ====
section
/-! DEFINITION. Sys2Proof/Machine/Security.lean: firmware images, certificates and evidence, the DOE mailbox, and the monitor
unlock (R345 to R358). -/

namespace Sys2Proof.Machine

open Sys2Proof

/-- A signature made is counted, and so is a verification that failed (R358). -/
def countSign (s : State) (n : Nat) : State := s.count 0 (secPage + 0x48) n
def countVerify (s : State) (ok : Bool) : State := s.count 0 (secPage + 0x50) (flag !ok)

/-- Whether a signature verifies under its context string (R347). -/
def verifies (key : List Byte) (context : String) (message sig : List Byte) : Bool :=
  Config.mldsaVerify key (ascii context) message sig

/-! ## Firmware images (R349, R350) -/

/-- Fields of an image. -/
def imageVersion (img : List Byte) : Nat := field img 4 4
def imageSvn (img : List Byte) : Nat := field img 8 4
def imagePayload (img : List Byte) : List Byte := (img.drop 0x2000).take (field img 0x10 8)
def imageKey (img : List Byte) : List Byte := (img.drop 0x200).take 2592

/-- Whether the bytes of a field are zero. -/
def zeroField (b : List Byte) (off n : Nat) : Bool := ((b.drop off).take n).all (· == 0)

/-- Whether MAGIC, the reserved fields and LENGTH are right. -/
def imageForm (img : List Byte) : Bool :=
  decide (img.take 4 = ascii "DZFW") && zeroField img 0x0C 4 && zeroField img 0x18 40 && zeroField img 0x80 384 &&
    zeroField img 0x1E33 461 && decide (0x2000 + field img 0x10 8 ≤ min img.length (2 ^ 24))

/-- Whether an image's signature verifies with the key that it carries. -/
def imageSigned (img : List Byte) : Bool :=
  verifies (imageKey img) "DZIDEX-FW" (img.take 0x200) ((img.drop 0xC20).take 4627)

/-- The result of the checks of R350 on an image: 0 where it passes every check. -/
def imageCheck (s : State) (img : List Byte) : Nat :=
  if !imageForm img then 1
  else if hash (imageKey img) ≠ fit 64 Config.fwRoot then 2
  else if !imageSigned img then 3
  else if imageSvn img < s.flash.svnFuse then 4
  else if hash (imagePayload img) ≠ (img.drop 0x40).take 64 then 5
  else 0

/-- The image that passed runs: FW is computed from its payload. -/
def runImage (s : State) (img : List Byte) : State :=
  { s with sec := { s.sec with fw := hash (imagePayload img), version := imageVersion img, svn := imageSvn img } }

/-- An image is refused: SEC_CNT_FW_REFUSED counts it, in flash. -/
def refuseImage (s : State) (result : Nat) : State :=
  countVerify { s with flash := { s.flash with cntFwRefused := s.flash.cntFwRefused + 1 } } (decide (result ≠ 3))

/-- Step 2's check of an image: the state after it and the result code. -/
def takeImage (s : State) (img : List Byte) : State × Nat :=
  let r := imageCheck s img
  if r = 0 then (runImage s img, 0) else (refuseImage s r, r)

/-! ## The token (R355, R356) -/

/-- Whether a token opens a start. -/
def tokenOpens (t : Token355) (n : Nat) : Bool := decide (t.first ≤ n ∧ n + 1 ≤ t.first + t.starts)

/-- Whether step 3 of this start has ended: the keys stand ready, and the token has been checked (R345, R356). -/
def keysReady (s : State) : Bool := !s.start.asserted && decide (s.start.state = 1 ∨ 3 < s.start.step)

/-- SCOPE as unlocked now: bit 0 poke, bit 1 reset. -/
def unlockScope (s : State) : Nat :=
  match s.flash.token with
  | some t => if keysReady s && tokenOpens t s.flash.startNo then t.scope % 4 else 0
  | none => 0

/-- STARTS_LEFT: starts left on the token, this one included. -/
def startsLeft (s : State) : Nat :=
  match s.flash.token with
  | some t => if keysReady s && tokenOpens t s.flash.startNo then t.first + t.starts - s.flash.startNo else 0
  | none => 0

/-- SEC_STATUS (R358). -/
def secStatus (s : State) : Nat :=
  unlockScope s % 2 * 2 ^ 31 + unlockScope s / 2 * 2 ^ 30 + startsLeft s % 64 * 2 ^ 16 + s.flash.svnFuse % 64 * 2 ^ 8 +
    s.sec.svn % 64

/-- At step 3 a token whose window has passed is erased. -/
def expireToken (s : State) : State :=
  match s.flash.token with
  | some t => if s.flash.startNo < t.first + t.starts then s else { s with flash := { s.flash with token := none } }
  | none => s

/-- Whether SET_UNLOCK accepts a token and a key (R356). -/
def tokenGood (s : State) (payload : List Byte) : Bool :=
  let tok := payload.take 32
  let sig := (payload.drop 32).take 4627
  let key := (payload.drop 4659).take 2592
  decide (hash key = fit 64 Config.unlockRoot) && verifies key "DZIDEX-UNLOCK" tok sig &&
    decide (field tok 8 8 = serialOf s) && zeroField tok 4 4 && zeroField tok 0x18 8 &&
    decide (field tok 0 1 = 1 ∧ field tok 1 1 < 4 ∧ 1 ≤ field tok 2 2 ∧ field tok 2 2 ≤ 63) &&
    decide (s.flash.startNo < field tok 0x10 8 + field tok 2 2)

/-! ## Certificates and evidence (R348, R353) -/

/-- A certificate's body. -/
def certBody (s : State) (kind : Nat) (key : List Byte) : List Byte :=
  leBytes 1 1 ++ leBytes 1 kind ++ leBytes 2 0 ++ leBytes 4 (if kind = 1 then 0 else s.sec.svn) ++ leBytes 8 (serialOf s) ++
    (if kind = 1 then fit 64 [] else fit 64 s.sec.fw) ++ fit 2592 key

/-- The three certificates, each with its signature. -/
def certificates (s : State) : List Byte :=
  let id := certBody s 1 (publicKey identitySeed)
  let al := certBody s 2 (publicKey (aliasSeed s))
  let lg := certBody s 3 (publicKey (ledgerSeed s))
  id ++ fit 4627 Config.caSignature ++ al ++ signature identitySeed "DZIDEX-CERT" al ++
    lg ++ signature identitySeed "DZIDEX-CERT" lg

/-- The evidence record. -/
def evidence (s : State) (nonce : List Byte) : List Byte :=
  leBytes 1 1 ++ leBytes 1 s.start.state ++ leBytes 1 (unlockScope s) ++ leBytes 1 (startsLeft s) ++
    leBytes 4 s.sec.version ++ leBytes 8 (serialOf s) ++ leBytes 4 s.sec.svn ++ leBytes 4 s.flash.svnFuse ++
    leBytes 8 s.flash.startNo ++ leBytes 8 (s.reg 0 (ldgPage + 0x150)) ++ fit 32 nonce ++
    leBytes 4 (s.reg 0 (hubPage + 0x104)) ++ leBytes 2 (s.fld 0 (hubPage + 0x100) 15 0) ++ fit 50 [] ++ fit 64 s.sec.fw ++
    hash Config.packConfig ++ fit 64 s.flash.lastBlock ++ hash (publicKey identitySeed) ++ fit 128 []

/-- The evidence with its signature by the alias key. -/
def signedEvidence (s : State) (nonce : List Byte) : List Byte :=
  evidence s nonce ++ signature (aliasSeed s) "DZIDEX-EVIDENCE" (evidence s nonce)

/-! ## The DOE mailbox (R352) -/

/-- A response waits in the mailbox: its STATUS and payload. -/
def respond (s : State) (status : Nat) (payload : List Byte) : State :=
  { s with sec := { s.sec with doe := some (leBytes 4 status ++ payload) } }

/-- GET_CERTS. -/
def doGetCerts (s : State) (payload : List Byte) : State :=
  if payload = [] then respond s 0 (certificates s) else respond s 1 []

/-- GET_EVIDENCE: the evidence is signed by the alias key and counted. -/
def doGetEvidence (s : State) (payload : List Byte) : State :=
  if payload.length = 32 then
    (countSign (respond s 0 (signedEvidence s payload)) 1).count 0 (secPage + 0x40) 1
  else respond s 1 []

/-- SET_UNLOCK: a good token replaces the stored one; any other is refused and counted. -/
def doSetUnlock (s : State) (payload : List Byte) : State :=
  if payload.length < 7251 ∨ 7252 < payload.length then respond s 1 []
  else if tokenGood s payload then
    let tok := payload.take 32
    let t : Token355 := ⟨field tok 1 1, field tok 2 2, field tok 0x10 8⟩
    respond { s with flash := { s.flash with token := some t } } 0 []
  else
    let sound := verifies ((payload.drop 4659).take 2592) "DZIDEX-UNLOCK" (payload.take 32) ((payload.drop 32).take 4627)
    (respond (countVerify s sound) 2 []).count 0 (secPage + 0x58) 1

/-- Whether the mailbox answers: with the configuration space that holds it, from the end of step 1 (R333). -/
def doeOpen (s : State) : Bool := !s.start.asserted && !decide (s.start.state = 0 ∧ s.start.step ≤ 1)

/-- A request of R352 at the mailbox. DESIGN CHOICE (log entry 103): before step 3 has ended there are no keys to serve it with, and the
answer is REFUSED. -/
def serveDoe (s t : State) : State := if keysReady s then t else if doeOpen s then respond s 2 [] else s

/-- GET_CERTS. -/
def execGetCerts (payload : List Byte) (s : State) : Res := .next (serveDoe s (doGetCerts s payload))

/-- GET_EVIDENCE. -/
def execGetEvidence (payload : List Byte) (s : State) : Res := .next (serveDoe s (doGetEvidence s payload))

/-- SET_UNLOCK. -/
def execSetUnlock (payload : List Byte) (s : State) : Res := .next (serveDoe s (doSetUnlock s payload))

/-- DOE_ABORT: the request being served is discarded. -/
def execDoeAbort (s : State) : Res := .next { s with sec := { s.sec with doe := none } }

/-- DOE_DISCOVERY, PRESUMED from the PCI Express DOE protocol: index 0 names the discovery type, indices 1 to 3 the three types
of R352, each with the next index. -/
def doDiscovery (s : State) (payload : List Byte) : State :=
  let i := field payload 0 1
  let entry := if i = 0 then 1 + 2 ^ 24
    else if i ≤ 3 then Config.vendorId % 2 ^ 16 + i * 2 ^ 16 + (if i = 3 then 0 else i + 1) * 2 ^ 24
    else 0xFFFF
  { s with sec := { s.sec with doe := some (leBytes 4 entry) } }

/-- DOE_DISCOVERY. -/
def execDoeDiscovery (payload : List Byte) (s : State) : Res :=
  .next (if doeOpen s then doDiscovery s payload else s)

/-! ## SEC_CTRL (R351, R356) -/

/-- SEC_CTRL written: SVN_COMMIT has passed its key check. -/
def writeSecCtrl (s : State) (v : Nat) : State :=
  let s1 := if bit v 31 then
      { s with flash := { s.flash with svnFuse := max s.flash.svnFuse (min 63 s.sec.svn) } } else s
  if bit v 30 then { s1 with flash := { s1.flash with token := none } } else s1

end Sys2Proof.Machine
end

