-- ==== Sys2Proof/Machine/Num.lean ====
section
/-! DEFINITION. Sys2Proof/Machine/Num.lean: the numbers of the part (R67 to R73, R76, R78, R83 to R87) as exact values
and as the roundings that the manual names. -/

namespace Sys2Proof.Machine

/-! ## Exact values -/

/-- Positive zero. -/
def numZero : FNum := .fin false 0 0

/-- m × 2^(e − q), for a value on the grid 2^q. -/
def onGrid (m : Nat) (e q : Int) : Nat := if q ≤ e then m * 2 ^ (e - q).toNat else m / 2 ^ (q - e).toNat

/-- floor(log2) of the magnitude m × 2^e, for m not zero. -/
def magLog (m : Nat) (e : Int) : Int := (Nat.log2 m : Int) + e

/-- Exponent of the grid on which a significand of p bits rounds m × 2^e, no finer than 2^qMin. -/
def gridExp (m : Nat) (e : Int) (p : Nat) (qMin : Int) : Int := max (magLog m e + 1 - p) qMin

/-- m × 2^e in units of 2^q, rounded to nearest, ties to even. -/
def roundUnits (m : Nat) (e q : Int) : Nat :=
  if q ≤ e then m * 2 ^ (e - q).toNat
  else
    let sh := (q - e).toNat
    let lo := m / 2 ^ sh
    let rem2 := 2 * (m % 2 ^ sh)
    if rem2 > 2 ^ sh ∨ (rem2 = 2 ^ sh ∧ lo % 2 = 1) then lo + 1 else lo

/-- Round to nearest even to p significand bits on a grid no finer than 2^qMin. -/
def roundNear (p : Nat) (qMin : Int) (neg : Bool) (m : Nat) (e : Int) : FNum :=
  if m = 0 then .fin neg 0 0
  else
    let q := gridExp m e p qMin
    .fin neg (roundUnits m e q) q

/-- The exact sum of two finite values, as a signed multiple of a power of two. -/
def exactSum (n1 : Bool) (m1 : Nat) (e1 : Int) (n2 : Bool) (m2 : Nat) (e2 : Int) : Int × Int :=
  let q := min e1 e2
  let a : Int := onGrid m1 e1 q
  let b : Int := onGrid m2 e2 q
  ((if n1 then -a else a) + (if n2 then -b else b), q)

/-- The negation of a value. -/
def numNeg : FNum → FNum
  | .nan => .nan
  | .inf n => .inf (!n)
  | .fin n m e => .fin (!n) m e

/-- Whether a value is finite. -/
def numFinite : FNum → Bool
  | .fin _ _ _ => true
  | _ => false

/-- Whether a value is a zero of either sign. -/
def numIsZero : FNum → Bool
  | .fin _ 0 _ => true
  | _ => false

/-- The exact product (R73.1, R73.3). -/
def numMul : FNum → FNum → FNum
  | .nan, _ => .nan
  | _, .nan => .nan
  | .inf a, .inf b => .inf (a != b)
  | .inf a, .fin b m _ => if m = 0 then .nan else .inf (a != b)
  | .fin a m _, .inf b => if m = 0 then .nan else .inf (a != b)
  | .fin a m e, .fin b n f => .fin (a != b) (m * n) (e + f)

/-- An exact sum, then one rounding given as an argument; the zero rules of R73.2. -/
def numAddWith (rnd : Bool → Nat → Int → FNum) : FNum → FNum → FNum
  | .nan, _ => .nan
  | _, .nan => .nan
  | .inf a, .inf b => if a = b then .inf a else .nan
  | .inf a, .fin _ _ _ => .inf a
  | .fin _ _ _, .inf b => .inf b
  | .fin a m e, .fin b n f =>
    if m = 0 ∧ n = 0 then .fin (a && b) 0 0
    else
      let s := exactSum a m e b n f
      if s.1 = 0 then numZero else rnd (decide (s.1 < 0)) s.1.natAbs s.2

/-! ## Y40 (R72, R73) -/

/-- One rounding into Y40: 30 significand bits, no subnormals, and infinity at 2^512 and above. -/
def y40Round (neg : Bool) (m : Nat) (e : Int) : FNum :=
  match roundNear 30 (-100000) neg m e with
  | .fin n m' e' =>
    if m' = 0 then .fin n 0 0
    else if magLog m' e' < -510 then .fin n 0 0
    else if magLog m' e' ≥ 512 then .inf n
    else .fin n m' e'
  | x => x

/-- add_y40 of R73.2. -/
def addY40 (a b : FNum) : FNum := numAddWith y40Round a b

/-- A product rounded once to Y40, as for the squares of R80. -/
def mulY40Rounded (a b : FNum) : FNum :=
  match numMul a b with
  | .fin n m e => if m = 0 then .fin n 0 0 else y40Round n m e
  | x => x

/-- The pairwise tree of R76 over the values v, of which there are n ≥ 1. The fuel bounds its depth. -/
def treeSum : (fuel : Nat) → (n : Nat) → (v : List FNum) → FNum
  | 0, _, v => v.headD numZero
  | fuel + 1, n, v =>
    if n ≤ 1 then v.headD numZero
    else
      let h := 2 ^ Nat.log2 (n - 1)
      addY40 (treeSum fuel h (v.take h)) (treeSum fuel (n - h) (v.drop h))

/-- The tree of R76 over a whole row. -/
def tree (v : List FNum) : FNum := treeSum (v.length + 1) v.length v

/-! ## binary32 (R71, R73.4, R77) -/

/-- Rounding to binary32, to nearest even with subnormals; infinity from (2 − 2^-24) × 2^127 on. -/
def f32Round (neg : Bool) (m : Nat) (e : Int) : FNum :=
  match roundNear 24 (-149) neg m e with
  | .fin n m' e' => if m' = 0 then .fin n 0 0 else if magLog m' e' ≥ 128 then .inf n else .fin n m' e'
  | x => x

/-- to_fp32 of R73.4. -/
def toF32 : FNum → FNum
  | .fin n m e => f32Round n m e
  | x => x

/-- RNE32 of a sum. -/
def f32Add (a b : FNum) : FNum := numAddWith f32Round a b

/-- RNE32 of a difference. -/
def f32Sub (a b : FNum) : FNum := f32Add a (numNeg b)

/-- RNE32 of a product. -/
def f32Mul (a b : FNum) : FNum := toF32 (numMul a b)

/-- num ÷ den × 2^e rounded once to binary32, den not zero: 64 quotient bits and a sticky bit decide the rounding. -/
def f32Ratio (neg : Bool) (num den : Nat) (e : Int) : FNum :=
  if num = 0 then .fin neg 0 0
  else
    let k := 64 + Nat.log2 den
    let q := (num * 2 ^ k) / den
    let sticky := if (num * 2 ^ k) % den = 0 then 0 else 1
    f32Round neg (2 * q + sticky) (e - k - 1)

/-- RNE32 of a quotient. -/
def f32Div : FNum → FNum → FNum
  | .nan, _ => .nan
  | _, .nan => .nan
  | .inf _, .inf _ => .nan
  | .inf a, .fin b _ _ => .inf (a != b)
  | .fin a _ _, .inf b => .fin (a != b) 0 0
  | .fin a m e, .fin b n f =>
    if n = 0 then (if m = 0 then .nan else .inf (a != b)) else f32Ratio (a != b) m n (e - f)

/-- q(a, N) of R80: a Y40 value divided by the integer N, rounded once to binary32. -/
def f32OverNat (a : FNum) (n : Nat) : FNum := f32Div a (.fin false n 0)

/-- Whether a < b, for values that are numbers. -/
def numLt : FNum → FNum → Bool
  | .nan, _ => false
  | _, .nan => false
  | .inf a, .inf b => a && !b
  | .inf a, .fin _ _ _ => a
  | .fin _ _ _, .inf b => !b
  | .fin a m e, .fin b n f => decide ((exactSum a m e (!b) n f).1 < 0)

/-- Whether a value is a NaN. -/
def numIsNan : FNum → Bool
  | .nan => true
  | _ => false

/-! ## Element formats (R48, R67) -/

/-- Bits of an element of a format code. -/
def fmtBits (f : Nat) : Nat :=
  if f = 0 ∨ f = 1 then 8 else if f = 2 ∨ f = 3 then 6 else if f = 4 then 4 else if f = 5 ∨ f = 6 then 16 else 32

/-- Fraction bits of a format. -/
def fmtFrac (f : Nat) : Nat :=
  match f with
  | 0 => 3 | 1 => 2 | 2 => 3 | 3 => 2 | 4 => 1 | 5 => 7 | 6 => 10 | _ => 23

/-- Exponent bias of a format. -/
def fmtBias (f : Nat) : Nat :=
  match f with
  | 0 => 7 | 1 => 15 | 2 => 1 | 3 => 3 | 4 => 1 | 5 => 127 | 6 => 15 | _ => 127

/-- emax of a format. -/
def fmtEmax (f : Nat) : Int :=
  match f with
  | 0 => 8 | 1 => 15 | 2 => 2 | 3 => 4 | 4 => 2 | 5 => 127 | 6 => 15 | _ => 127

/-- The largest normal value of a format, as m × 2^e. -/
def fmtMax (f : Nat) : Nat × Int :=
  match f with
  | 0 => (7, 6) | 1 => (7, 13) | 2 => (15, -1) | 3 => (7, 2) | 4 => (3, 1)
  | 5 => (255, 120) | 6 => (2047, 5) | _ => (16777215, 104)

/-- The exponent of the finest grid of a format: its smallest subnormal. -/
def fmtGrid (f : Nat) : Int := 1 - (fmtBias f : Int) - (fmtFrac f : Int)

/-- Whether a format is block-scaled. -/
def fmtBlock (f : Nat) : Bool := decide (f ≤ 4)

/-- The class of a format of X or W: 0 for 8-bit, 1 for 6-bit, 2 for FP4, and BF16 and binary16 each with itself (R48). -/
def fmtClass (f : Nat) : Nat :=
  if f ≤ 1 then 0 else if f ≤ 3 then 1 else f - 2

/-- The value of an element code (R67). -/
def decodeElem (f code : Nat) : FNum :=
  let mb := fmtFrac f
  let eb := fmtBits f - 1 - mb
  let neg := decide (code / 2 ^ (mb + eb) % 2 = 1)
  let ex := code / 2 ^ mb % 2 ^ eb
  let fr := code % 2 ^ mb
  if f = 0 ∧ ex = 15 ∧ fr = 7 then .nan
  else if (f = 1 ∨ 5 ≤ f) ∧ ex = 2 ^ eb - 1 then (if fr = 0 then .inf neg else .nan)
  else if ex = 0 then .fin neg fr (fmtGrid f)
  else .fin neg (2 ^ mb + fr) (fmtGrid f + (ex : Int) - 1)

/-- The code of a value that the format can hold; NaN is the canonical quiet NaN of R71. -/
def encodeElem (f : Nat) (v : FNum) : Nat :=
  let mb := fmtFrac f
  let eb := fmtBits f - 1 - mb
  let sgn (n : Bool) : Nat := if n then 2 ^ (mb + eb) else 0
  match v with
  | .nan => (2 ^ eb - 1) * 2 ^ mb + 2 ^ (mb - 1)
  | .inf n => sgn n + (2 ^ eb - 1) * 2 ^ mb
  | .fin n m e =>
    if m = 0 then sgn n
    else
      let ex := magLog m e
      if ex < 1 - (fmtBias f : Int) then sgn n + onGrid m e (fmtGrid f)
      else sgn n + (ex + fmtBias f).toNat * 2 ^ mb + (onGrid m e (ex - mb) - 2 ^ mb)

/-- The binary32 value of a word. -/
def f32OfBits (b : Nat) : FNum := decodeElem 7 b

/-- The word of a binary32 value. -/
def f32ToBits (v : FNum) : Nat := encodeElem 7 v

/-- A value times 2^k. -/
def numScale (v : FNum) (k : Int) : FNum :=
  match v with
  | .fin n m e => .fin n m (e + k)
  | x => x

/-- The value of an element under its E8M0 scale byte (R69). -/
def scaledElem (f code scale : Nat) : FNum :=
  if scale = 255 then .nan else numScale (decodeElem f code) ((scale : Int) - 127)

/-! ## Stochastic rounding (R86, R87) -/

/-- mix64 of R87. -/
def mix64 (z0 : Nat) : Nat :=
  let w := 2 ^ 64
  let z1 := ((z0 ^^^ (z0 / 2 ^ 30)) * 0xBF58476D1CE4E5B9) % w
  let z2 := ((z1 ^^^ (z1 / 2 ^ 27)) * 0x94D049BB133111EB) % w
  z2 ^^^ (z2 / 2 ^ 31)

/-- sr_bits of R87: the 24 random bits of output (m, n) of a command of N columns. -/
def srBits (seed stream m n cols : Nat) : Nat :=
  let w := 2 ^ 64
  mix64 ((seed + mix64 ((stream + 1) % w) + (m * cols + n + 1) * 0x9E3779B97F4A7C15) % w) / 2 ^ 40

/-- The magnitude m × 2^e on the grid of format f, rounded to nearest even, or under R86 by the random bits given. -/
def roundMag (f : Nat) (m : Nat) (e : Int) (sr : Option Nat) : Nat × Int :=
  let q := gridExp m e (fmtFrac f + 1) (fmtGrid f)
  match sr with
  | none => (roundUnits m e q, q)
  | some r =>
    if q ≤ e then (onGrid m e q, q)
    else
      let sh := (q - e).toNat
      let lo := m / 2 ^ sh
      let d := (m % 2 ^ sh) * 2 ^ 24 / 2 ^ sh
      (if r < d then lo + 1 else lo, q)

/-- Whether m1 × 2^e1 exceeds m2 × 2^e2. -/
def magGt (m1 : Nat) (e1 : Int) (m2 : Nat) (e2 : Int) : Bool := numLt (.fin false m2 e2) (.fin false m1 e1)

/-- What the conversion of one block leaves (R83): its scale byte, its element codes, whether it counts as non-finite,
whether it sets UFL, and how many elements were clamped. -/
def quantBlock (f : Nat) (ys : List FNum) (sr : List (Option Nat)) : Nat × List Nat × Bool × Bool × Nat :=
  if ys.any (fun y => !numFinite y) then (255, ys.map (fun _ => 0), true, false, 0)
  else if ys.all numIsZero then (127, ys.map (encodeElem f), false, false, 0)
  else
    let amax := ys.foldl (fun a y => match a, y with
      | (m0, e0), .fin _ m e => if magGt m e m0 e0 then (m, e) else (m0, e0)
      | a, _ => a) ((0, 0) : Nat × Int)
    let e0 := magLog amax.1 amax.2 - fmtEmax f
    let big := roundNear (fmtFrac f + 1) (-100000) false amax.1 (amax.2 - e0)
    let e1 := if numLt (.fin false (fmtMax f).1 (fmtMax f).2) big then e0 + 1 else e0
    let ufl := decide (e1 < -127)
    let ex := if e1 < -127 then -127 else e1
    let els := (ys.zip sr).map (fun p => match p with
      | (.fin n m e, r) =>
        if m = 0 then (encodeElem f (.fin n 0 0), false)
        else
          let g := roundMag f m (e - ex) r
          if magGt g.1 g.2 (fmtMax f).1 (fmtMax f).2 then (encodeElem f (.fin n (fmtMax f).1 (fmtMax f).2), true)
          else (encodeElem f (.fin n g.1 g.2), false)
      | (_, _) => (0, false))
    ((ex + 127).toNat, els.map (·.1), false, ufl, (els.filter (·.2)).length)

/-- The conversion of one value to BF16 or binary16 (R84): its code, and whether it counts as non-finite under R91. -/
def quant16 (f : Nat) (y : FNum) (sr : Option Nat) : Nat × Bool :=
  match y with
  | .fin n m e =>
    if m = 0 then (encodeElem f (.fin n 0 0), false)
    else
      let g := roundMag f m e sr
      if magGt g.1 g.2 (fmtMax f).1 (fmtMax f).2 then (encodeElem f (.inf n), true)
      else (encodeElem f (.fin n g.1 g.2), false)
  | y => (encodeElem f y, true)

/-! ## The correctly rounded functions (R78)

Each function is enclosed between two integers in units of 2^-512; where both ends round to the same binary32 value, that
is the correctly rounded value. Where they do not, the value is the opaque `Config.crOpen` (log entry 6). -/

/-- The unit of the enclosures: 2^512. -/
def ivOne : Nat := 2 ^ 512

/-- sqrt(2π) in units of 2^-512, rounded down. -/
def ivSqrtTwoPi : Nat :=
  0x281b263fec4e0b2caf9483f5ce459dc5f19f3ea6416000b50dc2f412ddeeb948b5068337b65698726847d560b8818fb98307f0f37d42a17c1c2b86baec9ffa598

/-- The partial sum of Σ (−t)^k ÷ k!, each term rounded down: `acc` plus the terms from number k on. -/
def expTerms : (fuel : Nat) → (k : Nat) → (t term : Nat) → (acc : Int) → Int
  | 0, _, _, _, acc => acc
  | fuel + 1, k, t, term, acc =>
    let acc' : Int := if k % 2 = 0 then acc + term else acc - term
    expTerms fuel (k + 1) t (term * t / ivOne / (k + 1)) acc'

/-- An enclosure squared n times. -/
def squareIv : (n : Nat) → Nat × Nat → Nat × Nat
  | 0, iv => iv
  | n + 1, iv => squareIv n (iv.1 * iv.1 / ivOne, iv.2 * iv.2 / ivOne + 1)

/-- An enclosure of e^(−x) for x = m × 2^e, e at least −496. -/
def expNegIv (m : Nat) (e : Int) : Nat × Nat :=
  if magGt m e 400 0 then (0, 1)
  else
    let t := onGrid m e (-496)
    let s := expTerms 80 0 t ivOne 0
    squareIv 16 ((s - 400).toNat, (s + 400).toNat)

/-- Σ x^(2k+1) ÷ (2k+1)!! in units of 2^-512, each term rounded down. -/
def phiTerms : (fuel : Nat) → (k : Nat) → (x2 term : Nat) → (acc : Nat) → Nat
  | 0, _, _, _, acc => acc
  | fuel + 1, k, x2, term, acc => phiTerms fuel (k + 1) x2 (term * x2 / ivOne / (2 * k + 3)) (acc + term)

/-- An enclosure of the standard normal density at x = m × 2^e, with |x| at most 16. -/
def densityIv (m : Nat) (e : Int) : Nat × Nat :=
  let u := expNegIv (m * m) (2 * e - 1)
  (u.1 * ivOne / (ivSqrtTwoPi + 1), u.2 * ivOne / ivSqrtTwoPi + 1)

/-- An enclosure of Φ(x) − 1/2 for x = m × 2^e from 0 to 16. -/
def halfPhiIv (m : Nat) (e : Int) : Nat × Nat :=
  let x := onGrid m e (-512)
  let s := phiTerms 1200 0 (x * x / ivOne) x 0
  let s2 := phiTerms 1200 0 (x * x / ivOne + 1) x 0
  let d := densityIv m e
  (d.1 * s / ivOne, d.2 * (s2 + 4000) / ivOne + 1)

/-- The binary32 value that both ends of an enclosure round to; the ends are in units of 2^q. -/
def crPick (fn bits : Nat) (neg : Bool) (lo hi : Nat) (q : Int) : FNum :=
  let a := f32ToBits (f32Round neg lo q)
  f32OfBits (if a = f32ToBits (f32Round neg hi q) then a else (Config.crOpen fn bits).toNat)

/-- As `crPick`, for an enclosure whose ends carry a sign. -/
def crPickSigned (fn bits : Nat) (lo hi : Int) (q : Int) : FNum :=
  if 0 < lo then crPick fn bits false lo.natAbs hi.natAbs q
  else if hi < 0 then crPick fn bits true lo.natAbs hi.natAbs q
  else f32OfBits (Config.crOpen fn bits).toNat

/-- cr(e^v). Code 0 of `Config.crOpen`. -/
def crExp (v : FNum) : FNum :=
  match v with
  | .nan => .nan
  | .inf n => if n then numZero else .inf false
  | .fin n m e =>
    if m = 0 then .fin false 1 0
    else if n then
      let u := expNegIv m e
      crPick 0 (f32ToBits v) false u.1 u.2 (-512)
    else if magGt m e 89 0 then .inf false
    else
      let u := expNegIv m e
      crPick 0 (f32ToBits v) false (ivOne * ivOne / u.2) (ivOne * ivOne / u.1 + 1) (-512)

/-- GELU of R77: cr(v × Φ(v)). Code 1. -/
def crGelu (v : FNum) : FNum :=
  match v with
  | .nan => .nan
  | .inf n => if n then .fin true 0 0 else .inf false
  | .fin n m e =>
    if m = 0 then v
    else if magGt m e 16 0 then (if n then .fin true 0 0 else v)
    else
      let b := halfPhiIv m e
      let half := ivOne / 2
      if n then crPick 1 (f32ToBits v) true (m * (half - b.2)) (m * (half - b.1)) (e - 512)
      else crPick 1 (f32ToBits v) false (m * (half + b.1)) (m * (half + b.2)) (e - 512)

/-- SILU of R77: cr(v ÷ (1 + e^(−v))). Code 2. -/
def crSilu (v : FNum) : FNum :=
  match v with
  | .nan => .nan
  | .inf n => if n then .fin true 0 0 else .inf false
  | .fin n m e =>
    if m = 0 then v
    else
      let u := expNegIv m e
      if n then
        crPick 2 (f32ToBits v) true (m * (u.1 * ivOne / (ivOne + u.1))) (m * (u.2 * ivOne / (ivOne + u.2) + 1)) (e - 512)
      else
        crPick 2 (f32ToBits v) false (m * (ivOne * ivOne / (ivOne + u.2))) (m * (ivOne * ivOne / (ivOne + u.1) + 1))
          (e - 512)

/-- The derivative of R105 for GELU_BWD: cr(Φ(h) + h × φ(h)). Code 3. -/
def crGeluD (h : FNum) : FNum :=
  match h with
  | .nan => .nan
  | .inf n => if n then numZero else .fin false 1 0
  | .fin n m e =>
    if m = 0 then .fin false 1 (-1)
    else if magGt m e 16 0 then (if n then .fin true 0 0 else .fin false 1 0)
    else
      let b := halfPhiIv m e
      let d := densityIv m e
      let x := onGrid m e (-512)
      let half : Int := ivOne / 2
      let lo : Int := d.1 * x / ivOne
      let hi : Int := d.2 * x / ivOne + 1
      if n then crPickSigned 3 (f32ToBits h) (half - b.2 - hi) (half - b.1 - lo) (-512)
      else crPickSigned 3 (f32ToBits h) (half + b.1 + lo) (half + b.2 + hi) (-512)

/-- The derivative of R105 for SILU_BWD: cr(σ(h) × (1 + h × (1 − σ(h)))). Code 4. -/
def crSiluD (h : FNum) : FNum :=
  match h with
  | .nan => .nan
  | .inf n => if n then numZero else .fin false 1 0
  | .fin n m e =>
    if m = 0 then .fin false 1 (-1)
    else if magGt m e 400 0 then (if n then .fin true 0 0 else .fin false 1 0)
    else
      let u := expNegIv m e
      let x := onGrid m e (-512)
      let dLo := (ivOne + u.1) * (ivOne + u.1)
      let dHi := (ivOne + u.2) * (ivOne + u.2)
      if n then
        let tLo : Int := (ivOne + u.1 : Nat) - (x : Int)
        let tHi : Int := (ivOne + u.2 : Nat) - (x : Int)
        if 0 ≤ tLo then
          crPick 4 (f32ToBits h) false (u.1 * tLo.natAbs * ivOne / dHi) (u.2 * tHi.natAbs * ivOne / dLo + 1) (-512)
        else if tHi ≤ 0 then
          crPick 4 (f32ToBits h) true (u.1 * tHi.natAbs * ivOne / dHi) (u.2 * tLo.natAbs * ivOne / dLo + 1) (-512)
        else f32OfBits (Config.crOpen 4 (f32ToBits h)).toNat
      else
        let nLo := ivOne + u.1 + x * u.1 / ivOne
        let nHi := ivOne + u.2 + x * u.2 / ivOne + 1
        crPick 4 (f32ToBits h) false (nLo * ivOne * ivOne / dHi) (nHi * ivOne * ivOne / dLo + 1) (-512)

/-- The integer square root, bit by bit from bit `k` down. -/
def isqrtBits : (k : Nat) → (n r : Nat) → Nat
  | 0, _, r => r
  | k + 1, n, r => isqrtBits k n (if (r + 2 ^ k) * (r + 2 ^ k) ≤ n then r + 2 ^ k else r)

/-- cr(1 ÷ sqrt(x)) of R78, exact: 60 root bits and a sticky bit decide the rounding. -/
def crRsqrt (x : FNum) : FNum :=
  match x with
  | .nan => .nan
  | .inf n => if n then .nan else numZero
  | .fin n m e =>
    if m = 0 then .inf n
    else if n then .nan
    else
      -- x = m' × 2^(2h), so 1 ÷ sqrt(x) = sqrt(1 ÷ m') × 2^(−h)
      let odd := decide (e % 2 ≠ 0)
      let m' := if odd then 2 * m else m
      let h : Int := (if odd then e - 1 else e) / 2
      let j := 60 + (Nat.log2 m' + 1) / 2 + 1
      let r := isqrtBits (j + 1) (2 ^ (2 * j) / m') 0
      let sticky := if r * r * m' = 2 ^ (2 * j) then 0 else 1
      f32Round false (2 * r + sticky) (-h - j - 1)

end Sys2Proof.Machine
end

