-- ==== Sys2Proof/Machine/Operands.lean ====
section
/-! DEFINITION. Sys2Proof/Machine/Operands.lean: the geometry of Looms and panels (R12, R43, R54, R55, R61, R62), a LOOM_GEMM's
fields and tile descriptors (R47, R50, R52, R81, R90, R104), the tiles, passes and weft steps that a command needs (R36, R37,
R49), and the elements of its operands (R52, R68, R69). -/

namespace Sys2Proof.Machine

open Sys2Proof

/-- a ÷ b rounded up. -/
def ceilDiv (a b : Nat) : Nat := (a + b - 1) / b

/-! ## Looms and panels -/

/-- A Loom's own store. -/
def State.loom (s : State) (n : Nat) : Loom := mget s.looms n Loom.zero

/-- A Loom's own store set. -/
def State.setLoom (s : State) (n : Nat) (v : Loom) : State := { s with looms := mset s.looms n v Loom.zero }

/-- A quadrant. -/
def State.quad (s : State) (q : Nat) : Quad := mget s.power.quads q Quad.zero

/-- A quadrant set. -/
def State.setQuad (s : State) (q : Nat) (v : Quad) : State :=
  { s with power := { s.power with quads := mset s.power.quads q v Quad.zero } }

/-- CUTS of LOOM_PANEL_MAP: bit g − 1 is set when seam g is cut (R64). -/
def loomCuts (s : State) (n : Nat) : Nat := s.fld 0 (loomPage n + 0x110) 6 0

/-- Segments from g on that no cut seam of a mask parts. -/
def segRun (cuts : Nat) : (fuel : Nat) → (g : Nat) → Nat
  | 0, _ => 1
  | fuel + 1, g => if g + 1 < 8 ∧ ¬ bit cuts g then 1 + segRun cuts fuel (g + 1) else 1

/-- The leftmost segment of the panel that holds segment g. -/
def segHead (cuts : Nat) : (g : Nat) → Nat
  | 0 => 0
  | g + 1 => if bit cuts g then g + 1 else segHead cuts g

/-- Live physical columns of a run of segments, from the left (R55, R61). -/
def segCols (s : State) (n g segs : Nat) : List Nat :=
  (span (32 * g) (32 * segs)).filter fun c => !bit (s.reg 0 (loomPage n + 0x124)) (c / 16)

/-- Segments of a panel. -/
def panelSegs (s : State) (p : Nat) : Nat := segRun (loomCuts s (p / 8)) 8 (p % 8)

/-- Live columns of a panel. -/
def panelCols (s : State) (p : Nat) : List Nat := segCols s (p / 8) (p % 8) (panelSegs s p)

/-- w of a panel: its live core columns. -/
def panelWidth (s : State) (p : Nat) : Nat := (panelCols s p).length

/-- The panel of a physical column of a Loom. -/
def panelAt (s : State) (n col : Nat) : Nat := 8 * n + segHead (loomCuts s n) (col / 32)

/-- Number of a live column within its panel. -/
def liveIndex (s : State) (p col : Nat) : Nat := ((panelCols s p).filter fun c => decide (c < col)).length

/-- Whether a physical column of a Loom is live. -/
def colLive (s : State) (n col : Nat) : Bool := !bit (s.reg 0 (loomPage n + 0x124)) (col / 16)

/-- Whether a band of a Loom is darned, and its f_b (R61, R64). -/
def bandDarned (s : State) (n b : Nat) : Bool := bit (s.reg 0 (loomPage n + 0x120)) b
def bandFaulty (s : State) (n b : Nat) : Nat := bits (s.reg 0 (loomPage n + 0x128 + 4 * (b / 8))) (4 * (b % 8) + 3) (4 * (b % 8))

/-- e(r) of R62. -/
def rowShift (s : State) (n r : Nat) : Nat :=
  flag (bandDarned s n (r / 16) && decide (bandFaulty s n (r / 16) ≤ r % 16))

/-- phys(r) of R62. -/
def rowPhys (s : State) (n r : Nat) : Nat := 17 * (r / 16) + r % 16 + rowShift s n r

/-- offset(r) = stage(r) of R62. -/
def rowOffset (s : State) (n r : Nat) : Nat :=
  r + ((span 0 (r / 16)).filter (bandDarned s n)).length + rowShift s n r

/-- LOOM_FOT_DATA for a logical row (R63, R64). -/
def fotData (s : State) (n r : Nat) : Nat := rowPhys s n r * 2 ^ 16 + rowOffset s n r

/-- A core, by logical row and physical column. -/
def coreKey (n r col : Nat) : Nat := (n * 512 + r) * 256 + col
def State.core (s : State) (n r col : Nat) : Core := mget s.cores (coreKey n r col) Core.zero

/-- A core set. -/
def State.setCore (s : State) (n r col : Nat) (v : Core) : State :=
  { s with cores := mset s.cores (coreKey n r col) v Core.zero }

/-- The cluster of a core (R12). -/
def clusterOf (n r col : Nat) : Nat := n * 512 + r / 16 * 16 + col / 16

/-- A cluster. -/
def State.cluster (s : State) (c : Nat) : Cluster := mget s.power.clusters c Cluster.zero

/-- A cluster set. -/
def State.setCluster (s : State) (c : Nat) (v : Cluster) : State :=
  { s with power := { s.power with clusters := mset s.power.clusters c v Cluster.zero } }

/-! ## Tile descriptors (R52) -/

/-- The 64 bytes of a table entry of a Loom (R50 check 5, R53, R64). -/
def tdtBytes (s : State) (n idx : Nat) : List Byte :=
  s.bytesAt 0 (n * 2 ^ 26 + 64 * (s.fld 0 (loomPage n + 0x118) 19 0 + idx)) 64

/-- The fields of a tile descriptor. -/
def tileOf (b : List Byte) : Tile :=
  { layout := bits (field b 1 1) 7 7, baxis := bits (field b 1 1) 6 6, blk := bits (field b 1 1) 5 4,
    fmt := bits (field b 1 1) 3 0, home := field b 2 1 % 8, elemBase := field b 4 4, stride := field b 8 4,
    rows := field b 12 4, cols := field b 16 4, scaleBase := field b 0x14 4, scaleStride := field b 0x18 4 }

/-- Whether DTYPE is 0x01 and every reserved field of a descriptor is zero. -/
def tileForm (b : List Byte) : Bool :=
  decide (field b 0 1 = 1) && decide (field b 2 1 < 8) && zeroBytes b 3 1 && zeroBytes b 0x1C 36

/-- Elements in a block. -/
def Tile.block (t : Tile) : Nat := 16 * 2 ^ t.blk

/-- Stored lines of a descriptor, and elements of a line. -/
def Tile.lines (t : Tile) : Nat := if t.layout = 0 then t.rows else t.cols
def Tile.lineLen (t : Tile) : Nat := if t.layout = 0 then t.cols else t.rows

/-- One past the last byte of a run of lines. -/
def runEnd (base stride lines len : Nat) : Nat := if lines = 0 ∨ len = 0 then base else base + (lines - 1) * stride + len

/-- Whether the declared extent lies in the 64 MiB of HOME (R52). -/
def Tile.inside (t : Tile) : Bool :=
  decide (runEnd t.elemBase t.stride t.lines (ceilDiv (t.lineLen * fmtBits t.fmt) 8) ≤ 2 ^ 26) &&
    (!fmtBlock t.fmt ||
      decide ((if t.baxis = 0 then runEnd t.scaleBase t.scaleStride t.lines (ceilDiv t.lineLen t.block)
        else runEnd t.scaleBase t.scaleStride (ceilDiv t.lines t.block) t.lineLen) ≤ 2 ^ 26))

/-- The rules of check 6 that hold for every descriptor a command names. -/
def Tile.sound (t : Tile) (fmt rows cols : Nat) : Bool :=
  decide (t.fmt = fmt) &&
    decide (t.elemBase % 64 = 0 ∧ t.stride % 64 = 0 ∧ t.scaleBase % 64 = 0 ∧ t.scaleStride % 64 = 0) &&
    decide (rows ≤ t.rows ∧ cols ≤ t.cols) && t.inside

/-! ## Elements (R52, R68, R69) -/

/-- Storage coordinates of element (i, j). -/
def Tile.coords (t : Tile) (i j : Nat) : Nat × Nat := if t.layout = 0 then (i, j) else (j, i)

/-- Address and bit offset of an element. -/
def Tile.elemAt (t : Tile) (i j : Nat) : Nat × Nat :=
  let (p, q) := t.coords i j
  (t.home * 2 ^ 26 + t.elemBase + p * t.stride + q * fmtBits t.fmt / 8, q * fmtBits t.fmt % 8)

/-- Address of the scale byte of an element. -/
def Tile.scaleAt (t : Tile) (i j : Nat) : Nat :=
  let (p, q) := t.coords i j
  t.home * 2 ^ 26 + t.scaleBase +
    (if t.baxis = 0 then p * t.scaleStride + q / t.block else p / t.block * t.scaleStride + q)

/-- The code of an element. -/
def readCode (s : State) (t : Tile) (i j : Nat) : Nat :=
  let (a, off) := t.elemAt i j
  leNat (s.bytesAt 0 a ((off + fmtBits t.fmt + 7) / 8)) / 2 ^ off % 2 ^ fmtBits t.fmt

/-- The value of an element, its block's scale applied. -/
def readElem (s : State) (t : Tile) (i j : Nat) : FNum :=
  if fmtBlock t.fmt then scaledElem t.fmt (readCode s t i j) (s.byteAt 0 (t.scaleAt i j)).toNat
  else decodeElem t.fmt (readCode s t i j)

/-! ## LOOM_GEMM (R47) -/

/-- Fields of the entry that its checks and its start use. -/
def gemmM (b : List Byte) : Nat := field b 0x0C 4
def gemmN (b : List Byte) : Nat := field b 0x10 4
def gemmK (b : List Byte) : Nat := field b 0x14 4
def gemmX (b : List Byte) : Nat := field b 0x18 2
def gemmW (b : List Byte) : Nat := field b 0x1A 2
def gemmY (b : List Byte) : Nat := field b 0x1C 2
def gemmR (b : List Byte) : Nat := field b 0x1E 2
def gemmHist (b : List Byte) : Nat := field b 0x0A 2
def gemmMTile (b : List Byte) : Nat := field b 0x20 2
def gemmNTile (b : List Byte) : Nat := field b 0x22 2
def gemmMode (b : List Byte) : Nat := bits (field b 6 1) 7 6
def gemmBlkY (b : List Byte) : Nat := bits (field b 6 1) 5 4
def gemmFmtY (b : List Byte) : Nat := bits (field b 6 1) 3 0
def gemmFmtX (b : List Byte) : Nat := bits (field b 7 1) 7 4
def gemmFmtW (b : List Byte) : Nat := bits (field b 7 1) 3 0
def gemmEpi (b : List Byte) : Nat := field b 8 1
def gemmOrder (b : List Byte) : Nat := bits (field b 1 1) 5 5
def gemmHasHist (b : List Byte) : Bool := bit (field b 1 1) 4
def gemmStoch (b : List Byte) : Bool := bit (field b 1 1) 3

/-- MODE, FMT_X and FMT_W: what makes commands one stream (R34). DESIGN CHOICE (log entry 97): 'the same format' is that of the
operands that the array streams; FMT_Y, which the fell alone writes, does not count. -/
def gemmKind (b : List Byte) : Nat × Nat × Nat := (gemmMode b, gemmFmtX b, gemmFmtW b)

/-- Whether an epilogue code is a row epilogue (R81 check 10). -/
def rowEpi (e : Nat) : Bool := decide (e = 8 ∨ e = 9 ∨ e = 0xC ∨ e = 0xD ∨ e = 0x18 ∨ e = 0x19 ∨ e = 0x1A)

/-- Whether an epilogue code is assigned (R77). -/
def epiKnown (e : Nat) : Bool := decide (e ≤ 4) || rowEpi e || decide (0x1B ≤ e ∧ e ≤ 0x1D)

/-- Shape of the operand of DESC_R, where the epilogue names one (R77, R104). -/
def epiOperand (e m n : Nat) : Option (Nat × Nat) :=
  if e = 1 ∨ e = 0x18 ∨ (0x1B ≤ e ∧ e ≤ 0x1D) then some (m, n)
  else if e = 0xC then some (2, n)
  else if e = 0xD then some (1, n)
  else if e = 0x19 then some (m + 3, n)
  else if e = 0x1A then some (m + 2, n)
  else none

/-- Checks 1 to 4 of R50 for a panel w live columns wide. -/
def gemmForm (b : List Byte) (w : Nat) : Bool :=
  let fp4 := gemmFmtX b = 4
  let mode := gemmMode b
  let long := if fp4 then 1024 else 2048
  let wide := if fp4 then 4 * w else 2 * w
  let mMax := if mode = 0 then long else if mode = 1 then wide else 4096
  let nMax := if mode = 1 then long else wide
  decide (field b 1 1 % 8 = 0) && zeroBytes b 9 1 && zeroBytes b 0x24 4 && zeroBytes b 0x30 16 &&
    decide (mode ≠ 3 ∧ gemmFmtX b ≤ 6 ∧ gemmFmtW b ≤ 6 ∧ gemmFmtY b ≤ 7) &&
    decide (fmtClass (gemmFmtX b) = fmtClass (gemmFmtW b)) &&
    decide (0 < gemmM b ∧ gemmM b < 2 ^ 31 ∧ 0 < gemmN b ∧ gemmN b < 2 ^ 31 ∧ 0 < gemmK b ∧ gemmK b < 2 ^ 31) &&
    decide (0 < gemmMTile b ∧ gemmMTile b ≤ mMax ∧ 0 < gemmNTile b ∧ gemmNTile b ≤ nMax)

/-- Whether an index names a table entry of a Loom that is a sound descriptor for an operand (checks 5 and 6). -/
def operandSound (s : State) (n idx fmt rows cols : Nat) : Bool :=
  let tdt := s.reg 0 (loomPage n + 0x118)
  decide (idx < bits tdt 31 20) && decide (64 * (bits tdt 19 0 + idx) + 63 < 2 ^ 26) &&
    tileForm (tdtBytes s n idx) && (tileOf (tdtBytes s n idx)).sound fmt rows cols

/-- Checks 5 to 7 of R50 on the Loom that runs the command. -/
def gemmOperands (s : State) (n : Nat) (b : List Byte) : Bool :=
  let y := tileOf (tdtBytes s n (gemmY b))
  operandSound s n (gemmX b) (gemmFmtX b) (gemmM b) (gemmK b) &&
    operandSound s n (gemmW b) (gemmFmtW b) (gemmK b) (gemmN b) &&
    operandSound s n (gemmY b) (gemmFmtY b) (gemmM b) (gemmN b) &&
    (!fmtBlock (gemmFmtY b) || decide (y.blk = gemmBlkY b ∧ y.baxis = y.layout)) &&
    (match epiOperand (gemmEpi b) (gemmM b) (gemmN b) with
      | some (r, c) => decide (gemmR b ≠ 0xFFFF) && operandSound s n (gemmR b) 7 r c
      | none => decide (gemmR b = 0xFFFF)) &&
    (if gemmHasHist b then decide (gemmHist b ≠ 0xFFFF) && operandSound s n (gemmHist b) 7 1 64
      else decide (gemmHist b = 0xFFFF))

/-- Bytes of the warp tile of a pass over k indices of K and `cols` stationary columns from column `first` on: its elements, and
one scale for each block that they lie in, blocks along K or across it (R118). DEDUCED (log entry 96): a block that the tile
cuts counts once. -/
def warpTile (t : Tile) (alongK : Bool) (k first cols : Nat) : Nat :=
  ceilDiv (k * cols * fmtBits t.fmt) 8 +
    (if !fmtBlock t.fmt then 0
    else if alongK then ceilDiv k t.block * cols
    else k * (ceilDiv (first + cols) t.block - first / t.block))

/-- Bytes that the warp tile of a command's largest pass takes, for a stationary dimension of n columns cut into tiles of nTile
(R119 check 13). A tile's start within its block comes round after at most 128 tiles. -/
def warpBytes (t : Tile) (alongK : Bool) (k n nTile : Nat) : Nat :=
  (span 0 (min (ceilDiv n nTile) 128)).foldl (fun a i =>
    max a (warpTile t alongK (min k 1024) (i * nTile) (min nTile (n - i * nTile)))) 0

/-- Checks 8 to 13 of R81, R108 and R119. -/
def gemmEpilogue (s : State) (n : Nat) (b : List Byte) (w : Nat) : Bool :=
  let e := gemmEpi b
  let tiles := ceilDiv (gemmN b) (gemmNTile b)
  let aligned (k : Nat) : Bool := decide (gemmN b ≤ gemmNTile b ∨ gemmNTile b % k = 0)
  let x := tileOf (tdtBytes s n (gemmX b))
  let y := tileOf (tdtBytes s n (gemmW b))
  let warp := if gemmMode b = 0 then warpBytes y (decide (y.layout ≠ y.baxis)) (gemmK b) (gemmN b) (gemmNTile b)
    else warpBytes x (decide (x.layout = x.baxis)) (gemmK b) (gemmM b) (gemmMTile b)
  epiKnown e &&
    (!rowEpi e || decide (gemmOrder b = 0 ∧ gemmMTile b * gemmNTile b * tiles ≤ 1048576)) &&
    (if fmtBlock (gemmFmtY b) then aligned (16 * 2 ^ gemmBlkY b) else (!gemmHasHist b || aligned 32)) &&
    (decide (e ≠ 0x19) || decide (2 * gemmN b ≤ 64 * w)) && (decide (e ≠ 0x1A) || decide (gemmN b ≤ 64 * w)) &&
    (decide (gemmMode b = 2) || decide (warp ≤ 16384 * s.fld 0 (loomPage n + 0x190) 23 16))

/-- Every check that completes a LOOM_GEMM with BAD_DESCRIPTOR (R50, R81, R108, R119): they all give one status, so their order
does not show. -/
def gemmSound (s : State) (p : Nat) (b : List Byte) : Bool :=
  gemmForm b (panelWidth s p) && gemmOperands s (p / 8) b && gemmEpilogue s (p / 8) b (panelWidth s p)

/-! ## Tiles, passes and weft steps (R36, R49, R35) -/

/-- Tiles down M and across N, and K passes. -/
def Gemm.mTiles (c : Gemm) : Nat := ceilDiv c.m c.mTile
def Gemm.nTiles (c : Gemm) : Nat := ceilDiv c.n c.nTile
def Gemm.passes (c : Gemm) : Nat := ceilDiv c.k 1024

/-- Rows and columns of a tile; the last one may be short. -/
def Gemm.tileRows (c : Gemm) (mt : Nat) : Nat := min c.mTile (c.m - mt * c.mTile)
def Gemm.tileCols (c : Gemm) (nt : Nat) : Nat := min c.nTile (c.n - nt * c.nTile)

/-- Number of a tile in the command's tile order (R49). -/
def Gemm.tileNo (c : Gemm) (mt nt : Nat) : Nat := if c.order = 0 then mt * c.nTiles + nt else nt * c.mTiles + mt

/-- Weft steps of one pass over a tile: four rows of M, or four columns of N, or one k at a time. -/
def Gemm.passLen (c : Gemm) (mt nt pass : Nat) : Nat :=
  if c.mode = 0 then ceilDiv (c.tileRows mt) 4
  else if c.mode = 1 then ceilDiv (c.tileCols nt) 4
  else min 1024 (c.k - 1024 * pass)

/-- Weft steps of the tiles of the streamed dimension (M, or N in activation-stationary mode): those of a full tile over all
passes, and of the last one. -/
def Gemm.fullLen (c : Gemm) : Nat := c.passes * (if c.mode = 0 then ceilDiv c.mTile 4 else ceilDiv c.nTile 4)
def Gemm.lastLen (c : Gemm) : Nat :=
  c.passes * (if c.mode = 0 then ceilDiv (c.tileRows (c.mTiles - 1)) 4 else ceilDiv (c.tileCols (c.nTiles - 1)) 4)

/-- Tiles of the streamed dimension and of the other one. -/
def Gemm.streamed (c : Gemm) : Nat := if c.mode = 1 then c.nTiles else c.mTiles
def Gemm.still (c : Gemm) : Nat := if c.mode = 1 then c.mTiles else c.nTiles

/-- Weft steps of the whole command. -/
def Gemm.total (c : Gemm) : Nat :=
  if c.mode = 2 then c.mTiles * c.nTiles * c.k
  else c.still * ((c.streamed - 1) * c.fullLen + c.lastLen)

/-- The tile of a weft step of the command, and the step within the tile. -/
def Gemm.tileAt (c : Gemm) (j : Nat) : Nat × Nat × Nat :=
  if c.mode = 2 then
    let u := j / c.k
    if c.order = 0 then (u / c.nTiles, u % c.nTiles, j % c.k) else (u % c.mTiles, u / c.mTiles, j % c.k)
  else
    let inner := if c.mode = 0 then decide (c.order = 0) else decide (c.order ≠ 0)
    let a := if inner then min (j / (c.still * c.fullLen)) (c.streamed - 1)
      else min (j % ((c.streamed - 1) * c.fullLen + c.lastLen) / c.fullLen) (c.streamed - 1)
    let per := if a + 1 = c.streamed then c.lastLen else c.fullLen
    let b := if inner then (j - a * c.still * c.fullLen) / per else j / ((c.streamed - 1) * c.fullLen + c.lastLen)
    let rest := if inner then (j - a * c.still * c.fullLen) % per
      else j % ((c.streamed - 1) * c.fullLen + c.lastLen) - a * c.fullLen
    if c.mode = 0 then (a, b, rest) else (b, a, rest)

/-- Where a weft step of a stream belongs. -/
structure Place where
  cmd : Gemm
  mt : Nat
  nt : Nat
  pass : Nat
  /-- The step within its pass, and the weft steps of the pass. -/
  t : Nat
  len : Nat
  deriving DecidableEq, Repr

/-- The place of a weft step of a panel's stream. -/
def locate (P : Panel) (step : Nat) : Option Place :=
  match (P.cmds ++ P.past).find? fun c => decide (c.base ≤ step ∧ step < c.base + c.total) with
  | none => none
  | some c =>
    let (mt, nt, rest) := c.tileAt (step - c.base)
    if c.mode = 2 then some ⟨c, mt, nt, rest / 1024, rest % 1024, c.passLen mt nt (rest / 1024)⟩
    else
      let len := c.passLen mt nt 0
      some ⟨c, mt, nt, rest / len, rest % len, len⟩

/-- The first output row and column of a place's tile. -/
def Place.m0 (l : Place) : Nat := l.mt * l.cmd.mTile
def Place.n0 (l : Place) : Nat := l.nt * l.cmd.nTile

/-- The first and one past the last k of a place's pass. -/
def Place.k0 (l : Place) : Nat := 1024 * l.pass
def Place.kEnd (l : Place) : Nat := min l.cmd.k (1024 * (l.pass + 1))

/-- Whether a place belongs to the last K pass of its tile. -/
def Place.lastPass (l : Place) : Bool := decide (l.pass + 1 = l.cmd.passes)

/-- What owns an accumulator half: the tile, or under a row epilogue the band of its M tile (R37, R81). -/
def Place.owner (l : Place) : Nat := if rowEpi l.cmd.epi then l.mt else l.cmd.tileNo l.mt l.nt

/-- An element of X or W at (row, column), absent beyond the tile or the reduction. -/
def Place.x (l : Place) (s : State) (m k : Nat) : Option FNum :=
  if m < l.m0 + l.cmd.tileRows l.mt ∧ k < l.kEnd then some (readElem s l.cmd.descX m k) else none
def Place.w (l : Place) (s : State) (k n : Nat) : Option FNum :=
  if n < l.n0 + l.cmd.tileCols l.nt ∧ k < l.kEnd then some (readElem s l.cmd.descW k n) else none

/-- Live columns apart that a cell's second FP4 column stands: twice the panel's width, which is the 512 of R35 at full width.
DEDUCED (log entry 98): R35 gives a panel of w columns an FP4 tile of 4w, so a cell's second weight stands 2w further on. -/
def fp4Step (w : Nat) : Nat := 2 * w

/-- Whether a command is of the FP4 class, or of the 16-bit class (R35). -/
def Gemm.fp4 (c : Gemm) : Bool := decide (c.fmtX = 4)
def Gemm.wide (c : Gemm) : Bool := decide (5 ≤ c.fmtX)

/-- Stationary values of core (r, live column j) for a pass: (i, j) at 2i + j, and FP4's second columns behind them (R29,
R31, R35). -/
def warpValues (s : State) (l : Place) (w r j : Nat) : List (Option FNum) :=
  let at' (d i : Nat) (jj : Nat) : Option FNum :=
    let k := l.k0 + 2 * r + i
    if l.cmd.mode = 0 then l.w s k (l.n0 + 2 * j + jj + d) else l.x s (l.m0 + 2 * j + jj + d) k
  let one (d : Nat) : List (Option FNum) := [at' d 0 0, at' d 0 1, at' d 1 0, at' d 1 1]
  one 0 ++ (if l.cmd.fp4 then one (fp4Step w) else [])

/-- Weft elements that row r's feeder injects for a place: (e, i) at 2e + i (R30, R31, R32). -/
def weftValues (s : State) (l : Place) (r : Nat) : List (Option FNum) :=
  (span 0 8).map fun u =>
    let e := u / 2
    let i := u % 2
    if l.cmd.mode = 0 then l.x s (l.m0 + 4 * l.t + e) (l.k0 + 2 * r + i)
    else if l.cmd.mode = 1 then l.w s (l.k0 + 2 * r + i) (l.n0 + 4 * l.t + e)
    else l.x s (l.m0 + 8 * r + 2 * e + i) (l.k0 + l.t)

/-- Warp values that the top feeder of live column j injects for a place in output-stationary mode. -/
def streamWarp (s : State) (l : Place) (w j : Nat) : List (Option FNum) :=
  let one (d : Nat) : List (Option FNum) :=
    [l.w s (l.k0 + l.t) (l.n0 + 2 * j + d), l.w s (l.k0 + l.t) (l.n0 + 2 * j + 1 + d)]
  one 0 ++ (if l.cmd.fp4 then one (fp4Step w) else [])

/-- The output (m, n) that a partial sum (e, j) of live column `col` carries, with its FP4 half; none beyond the tile. -/
def sumOutput (l : Place) (w col e j half : Nat) : Option (Nat × Nat) :=
  let still := 2 * col + j + half * fp4Step w
  let (m, n) := if l.cmd.mode = 0 then (4 * l.t + e, still) else (still, 4 * l.t + e)
  if m < l.cmd.tileRows l.mt ∧ n < l.cmd.tileCols l.nt then some (l.m0 + m, l.n0 + n) else none

/-- Sums that enter row 0: positive zero for each output that exists, at 2e + j and 8 further on. -/
def zeroSums (l : Place) (w col : Nat) : List (Option FNum) :=
  (span 0 (if l.cmd.fp4 then 16 else 8)).map fun u =>
    (sumOutput l w col (u % 8 / 2) (u % 2) (u / 8)).map fun _ => numZero

end Sys2Proof.Machine
end

