-- ==== Sys2Proof/Machine/Flags.lean ====
section
/-! DEFINITION. Sys2Proof/Machine/Flags.lean: the flags and counts that writing outputs sets (R83, R84, R91), and the bins of
the exponent histogram (R89). -/

namespace Sys2Proof.Machine

open Sys2Proof

/-! ## Numeric events (R91) -/

/-- What writing outputs raises: OVF by a non-finite count above 0, UFL, and the two counts. -/
structure NumEvents where
  ufl : Bool
  nonfinite : Nat
  clamps : Nat
  deriving DecidableEq, Repr

/-- No event. -/
def NumEvents.zero : NumEvents := ⟨false, 0, 0⟩

/-- The events of two writes. -/
def NumEvents.both (a b : NumEvents) : NumEvents := ⟨a.ufl || b.ufl, a.nonfinite + b.nonfinite, a.clamps + b.clamps⟩

/-- Events recorded in LOOM_NUM_STATUS, LOOM_NUM_NONFINITE and LOOM_NUM_SR_CLAMP. -/
def recordNum (s : State) (n : Nat) (e : NumEvents) : State :=
  let page := loomPage n
  let old := s.reg 0 (page + 0x150)
  let new := old ||| (flag (decide (0 < e.nonfinite)) + 2 * flag e.ufl)
  ((s.setReg 0 (page + 0x150) new).count 0 (page + 0x158) e.nonfinite).count 0 (page + 0x160) e.clamps

/-! ## Groups along a row -/

/-- A list cut into groups of `size`, the last one perhaps short. -/
def groupsOf {α : Type} : (fuel : Nat) → (size : Nat) → List α → List (List α)
  | 0, _, _ => []
  | fuel + 1, size, l => if l.isEmpty then [] else l.take size :: groupsOf fuel size (l.drop size)

/-- A list cut into all its groups. -/
def chunks {α : Type} (size : Nat) (l : List α) : List (List α) := groupsOf (l.length + 1) size l

/-! ## Output conversion (R83, R84) -/

/-- The codes and scale bytes of consecutive outputs of a row, with their events. The list of random values is that of R87,
none where the rounding is to nearest even. The first output stands at a block boundary. -/
def convertRow (fmt blk : Nat) (ys : List FNum) (sr : List (Option Nat)) : List Nat × List Nat × NumEvents :=
  if fmtBlock fmt then
    let parts := (chunks (16 * 2 ^ blk) (ys.zip sr)).map fun g => quantBlock fmt (g.map (·.1)) (g.map (·.2))
    (parts.flatMap (fun q => q.2.1), parts.map (fun q => q.1),
      parts.foldl (fun e q => e.both ⟨q.2.2.2.1, flag q.2.2.1, q.2.2.2.2⟩) NumEvents.zero)
  else if fmt = 7 then
    (ys.map f32ToBits, [], ⟨false, (ys.filter fun y => !numFinite y).length, 0⟩)
  else
    let qs := (ys.zip sr).map fun p => quant16 fmt p.1 p.2
    (qs.map (·.1), [], ⟨false, (qs.filter (·.2)).length, 0⟩)

/-! ## Histogram bins (R89) -/

/-- x(y): the exponent of a finite non-zero value. -/
def binExp : FNum → Option Int
  | .fin _ m e => if m = 0 then none else some (magLog m e)
  | _ => none

/-- G of a group, if it has a finite non-zero value. -/
def groupMax (g : List FNum) : Option Int :=
  g.foldl (fun a y => match a, binExp y with
    | none, x => x
    | some a, none => some a
    | some a, some x => some (max a x)) none

/-- The bin of a value in a group whose largest exponent is known; NaN and infinity have none. -/
def binOf (top : Option Int) (y : FNum) : Option Nat :=
  if !numFinite y then none
  else match binExp y, top with
    | some x, some t => some (min (t - x).toNat 30)
    | _, _ => some 31

/-- A bin advanced. -/
def addBin (bins : List Nat) (b : Nat) : List Nat := setAt bins b (bins.getD b 0 + 1)

/-- Thirty-two bins of zero. -/
def binsZero : List Nat := List.replicate 32 0

/-- The bins with the values of one group added. -/
def binGroup (bins : List Nat) (g : List FNum) : List Nat :=
  let top := groupMax g
  g.foldl (fun a y => match binOf top y with
    | none => a
    | some b => addBin a b) bins

/-- The bins with consecutive outputs of a row added; the first output stands at a group boundary. -/
def binRow (fmt blk : Nat) (bins : List Nat) (ys : List FNum) : List Nat :=
  (chunks (if fmtBlock fmt then 16 * 2 ^ blk else 32) ys).foldl binGroup bins

/-- Two lists of bins added. -/
def addBins (a b : List Nat) : List Nat := (a.zip b).map fun p => p.1 + p.2

end Sys2Proof.Machine
end

