-- ==== Sys2Proof/Machine/Fell.lean ====
section
/-! DEFINITION. Sys2Proof/Machine/Fell.lean: the epilogues that the fell lanes apply to an output row (R76 to R80, R104 to
R108). Values are binary32 throughout. -/

namespace Sys2Proof.Machine

open Sys2Proof

/-- RELU of R77. -/
def relu (v : FNum) : FNum :=
  if numIsNan v then .nan else if numLt numZero v then v else numZero

/-- RELU_BWD of R105. -/
def reluBwd (h v : FNum) : FNum :=
  if numIsNan h || numIsNan v then .nan else if numLt numZero h then v else numZero

/-- An elementwise epilogue on v, with the element r of DESC_R (R77, R105). -/
def epiElement (e : Nat) (v r : FNum) : FNum :=
  match e with
  | 1 => f32Add v r
  | 2 => relu v
  | 3 => crGelu v
  | 4 => crSilu v
  | 0x1B => reluBwd r v
  | 0x1C => f32Mul v (crGeluD r)
  | 0x1D => f32Mul v (crSiluD r)
  | _ => v

/-- The exact maximum of a row: NaN if any value is NaN. -/
def rowMax (vs : List FNum) : FNum :=
  if vs.any numIsNan then .nan else vs.foldl (fun a v => if numLt a v then v else a) (.inf true)

/-- SOFTMAX of R79. -/
def softmax (vs : List FNum) : List FNum :=
  let mx := rowMax vs
  if !numFinite mx then vs.map fun _ => .nan
  else
    let es := vs.map fun v => crExp (f32Sub v mx)
    let t := toF32 (tree es)
    es.map fun e => f32Div e t

/-- A row masked for SOFTMAX_CAUSAL: −∞ beyond column m. -/
def causal (m : Nat) (vs : List FNum) : List FNum :=
  (vs.zip (span 0 vs.length)).map fun p => if m < p.2 then .inf true else p.1

/-- The mean of a row of binary32 values: q(tree, N) of R80. -/
def rowMean (vs : List FNum) : FNum := f32OverNat (tree vs) vs.length

/-- The mean of the squares of a row. -/
def rowMeanSq (vs : List FNum) : FNum := f32OverNat (tree (vs.map fun d => mulY40Rounded d d)) vs.length

/-- cr(1 ÷ sqrt(RNE32(x + eps))). -/
def rsqrtEps (x eps : FNum) : FNum := crRsqrt (f32Add x eps)

/-- Three lists joined element by element. -/
def zip3 (a b c : List FNum) : List (FNum × FNum × FNum) := a.zip (b.zip c)

/-- LAYERNORM of R80. -/
def layernorm (vs gamma beta : List FNum) (eps : FNum) : List FNum :=
  let mu := rowMean vs
  let d := vs.map fun v => f32Sub v mu
  let r := rsqrtEps (rowMeanSq d) eps
  (zip3 d gamma beta).map fun p => f32Add (f32Mul (f32Mul p.1 r) p.2.1) p.2.2

/-- RMSNORM of R80. -/
def rmsnorm (vs gamma : List FNum) (eps : FNum) : List FNum :=
  let r := rsqrtEps (rowMeanSq vs) eps
  (vs.zip gamma).map fun p => f32Mul (f32Mul p.1 r) p.2

/-- SOFTMAX_BWD of R106. -/
def softmaxBwd (vs yf : List FNum) : List FNum :=
  let dot := toF32 (tree ((yf.zip vs).map fun p => f32Mul p.1 p.2))
  (yf.zip vs).map fun p => f32Mul p.1 (f32Sub p.2 dot)

/-- LAYERNORM_BWD of R107: y and xh of the row. -/
def layernormBwd (vs h gamma : List FNum) (eps : FNum) : List FNum × List FNum :=
  let mu := rowMean h
  let g := (vs.zip gamma).map fun p => f32Mul p.1 p.2
  let m1 := rowMean g
  let d := h.map fun x => f32Sub x mu
  let r := rsqrtEps (rowMeanSq d) eps
  let xh := d.map fun x => f32Mul x r
  let m2 := rowMean ((g.zip xh).map fun p => f32Mul p.1 p.2)
  ((g.zip xh).map fun p => f32Mul r (f32Sub (f32Sub p.1 m1) (f32Mul p.2 m2)), xh)

/-- RMSNORM_BWD of R107: y and xh of the row. -/
def rmsnormBwd (vs h gamma : List FNum) (eps : FNum) : List FNum × List FNum :=
  let r := rsqrtEps (rowMeanSq h) eps
  let xh := h.map fun x => f32Mul x r
  let g := (vs.zip gamma).map fun p => f32Mul p.1 p.2
  let m2 := rowMean ((g.zip xh).map fun p => f32Mul p.1 p.2)
  ((g.zip xh).map fun p => f32Mul r (f32Sub p.1 (f32Mul p.2 m2)), xh)

/-- The epilogue of a command on consecutive outputs of row m. The function gives the element of DESC_R at (row, output
number). Answers y and, for the backward norms, xh. A row epilogue is given the whole row. -/
def epilogueRow (e m rows : Nat) (eps : FNum) (vs : List FNum) (r : Nat → Nat → FNum) : List FNum × List FNum :=
  let line (i : Nat) : List FNum := (span 0 vs.length).map (r i)
  match e with
  | 8 => (softmax vs, [])
  | 9 => (softmax (causal m vs), [])
  | 0xC => (layernorm vs (line 0) (line 1) eps, [])
  | 0xD => (rmsnorm vs (line 0) eps, [])
  | 0x18 => (softmaxBwd vs (line m), [])
  | 0x19 => layernormBwd vs (line m) (line rows) eps
  | 0x1A => rmsnormBwd vs (line m) (line rows) eps
  | 0 => (vs, [])
  | 2 => (vs.map relu, [])
  | 3 => (vs.map crGelu, [])
  | 4 => (vs.map crSilu, [])
  | _ => ((vs.zip (line m)).map fun p => epiElement e p.1 p.2, [])

/-- The column sums of R108 after a row: cγ keyed by n, cβ by 2^32 + n. -/
def colSumsAfter (e : Nat) (sums : SMap FNum) (vs xh : List FNum) : SMap FNum :=
  let add (u : SMap FNum) (k : Nat) (x : FNum) : SMap FNum := mput u k (addY40 (mget u k numZero) x)
  let both := (span 0 vs.length).zip (vs.zip xh)
  let s1 := both.foldl (fun u p => add u p.1 (f32Mul p.2.1 p.2.2)) sums
  if e = 0x19 then both.foldl (fun u p => add u (2 ^ 32 + p.1) p.2.1) s1 else s1

end Sys2Proof.Machine
end

