-- ==== Sys2Proof/Machine/Loom.lean ====
section
/-! DEFINITION. Sys2Proof/Machine/Loom.lean: Looms at work: the array, the fell, the gauge, panels, faults and wedges
(R27 to R60, R66, R98, R407). -/

namespace Sys2Proof.Machine

open Sys2Proof

/-! ## Panels and their rings -/

/-- The global number of the ring that a panel page names (R66). -/
def panelRing (s : State) (p : Nat) : Nat := 16384 * (p / 16) + s.fld 0 (pnlPage p + 0x10C) 13 0

/-- Whether a ring is a command ring with SERVER = 1 (R66). -/
def ringForLoom (R : Ring) : Bool := decide (R.kind = 1 ∧ R.server = 1)

/-- The next entry of the ring that a panel serves, of an opcode. -/
def panelEntry (s : State) (p op : Nat) : Option (List Byte) :=
  match nextEntry s (panelRing s p) with
  | none => none
  | some b => if ringForLoom (s.ring (panelRing s p)) ∧ entryOp b = op then some b else none

/-- Whether the entries of a ring in flight are Loom commands of its panel's stream (R34, R123), and the software limit has
room. -/
def streamRoom (R : Ring) : Bool :=
  (R.fly.all fun f => f.isDone || decide (entryOp f.bytes = 0x10)) && (decide (R.outMode = 1) || decide (R.inFlight < R.limit))

/-- The next entry of a panel's ring starts and completes at once. -/
def panelAct (s : State) (p : Nat) (b : List Byte) (status res0 : Nat) : State :=
  actEntry s (panelRing s p) b status res0 0 0

/-- The watchdog of a ring starts again: its server has made progress (R177). -/
def ringProgress (s : State) (r : Nat) : State := s.setRing r { s.ring r with wdogUs := 0 }

/-- A panel has made progress (R60): a weft token has entered its row 0, a sum its fell, or a fell write has completed. -/
def panelMoves (s : State) (p : Nat) : State := s.setPanel p { s.panel p with stuckUs := 0 }

/-- Progress that R177 names as well: a weft entry or a fell write. -/
def panelProgress (s : State) (p : Nat) : State := ringProgress (panelMoves s p) (panelRing s p)

/-- Whether a core, by its key, stands in a panel's columns. -/
def coreInPanel (s : State) (p key : Nat) : Bool :=
  decide (key / 131072 = p / 8 ∧ 32 * (p % 8) ≤ key % 256 ∧ key % 256 < 32 * (p % 8 + panelSegs s p))

/-- The cores of a panel's columns are emptied. -/
def clearCores (s : State) (p : Nat) : State := { s with cores := s.cores.filter fun c => !coreInPanel s p c.1 }

/-- The cores of a panel that are not as a stream finds them. -/
def panelCores (s : State) (p : Nat) : List (Nat × Core) := s.cores.filter fun c => coreInPanel s p c.1

/-- Whether a panel's array holds tokens. -/
def tokensIn (s : State) (p : Nat) : Bool :=
  (panelCores s p).any fun c => c.2.weft.isSome || c.2.down.isSome || c.2.drain.isSome

/-- The panel has no stream: array and fell are empty (R34). -/
def clearStream (s : State) (p : Nat) : State :=
  clearCores (s.setPanel p { s.panel p with
    kind := none, cmds := [], past := [], fence := none, total := 0, fed := 0, entered := false, limb := 0, halves := []
    warps := [], held := false, faulting := none, stuckUs := 0 }) p

/-! ## The weight-region table (R100, R101, R103) -/

/-- An entry of a Loom's table: its control word and its two ranges, in bytes, as (first, one past the last). -/
def wrtCtrl (s : State) (n e : Nat) : Nat := s.reg e (loomPage n + 0x174)
def wrtRange (s : State) (n e off : Nat) : Nat × Nat :=
  let base := s.reg e (loomPage n + off)
  (base, base + s.reg e (loomPage n + off + 4))

/-- The weight range and the gradient range, in units of 64 bytes. -/
def wrtWeight (s : State) (n e : Nat) : Nat × Nat := wrtRange s n e 0x178
def wrtGrad (s : State) (n e : Nat) : Nat × Nat := wrtRange s n e 0x180

/-- Whether two ranges overlap; an empty range overlaps nothing. -/
def rangesMeet (a b : Nat × Nat) : Bool := decide (max a.1 b.1 < min a.2 b.2)

/-- Whether the write of VALID = 1 to an entry is refused (R100 rule 1). -/
def wrtRefuses (s : State) (n e : Nat) : Bool :=
  let w := wrtWeight s n e
  let g := wrtGrad s n e
  decide (2 ^ 20 < w.2 ∨ 2 ^ 20 < g.2) || rangesMeet w g ||
    (span 0 64).any fun o => decide (o ≠ e) && bit (wrtCtrl s n o) 31 &&
      (rangesMeet w (wrtWeight s n o) || rangesMeet w (wrtGrad s n o) || rangesMeet g (wrtWeight s n o) ||
        rangesMeet g (wrtGrad s n o))

/-- LOOM_WRT_CTRL written (R100, R103). -/
def writeWrtCtrl (s : State) (n e v : Nat) : State :=
  let old := wrtCtrl s n e
  let a := loomPage n + 0x174
  let kept := if bit v 29 ∨ ¬ bit v 31 then 0 else bits old 28 28 * 2 ^ 28 + bits old 15 0
  if bit v 31 ∧ ¬ bit old 31 ∧ wrtRefuses s n e then errState s (loomPage n)
  else s.setReg e a (bits v 31 30 * 2 ^ 30 + kept)

/-- A range register of an entry written (R100 rule 2). -/
def writeWrtRange (s : State) (n e off v : Nat) : State :=
  if bit (wrtCtrl s n e) 31 then errState s (loomPage n)
  else s.setReg e (loomPage n + off) (if off = 0x178 ∨ off = 0x180 then bits v 19 0 else bits v 20 0)

/-- The footprint of Y in units of 64 bytes: its elements and its scales (R101). -/
def footprintElems (t : Tile) (m n : Nat) : Nat × Nat :=
  let lines := if t.layout = 0 then m else n
  let len := if t.layout = 0 then n else m
  (t.elemBase / 64, ceilDiv (runEnd t.elemBase t.stride lines (ceilDiv (len * fmtBits t.fmt) 8)) 64)
def footprintScales (t : Tile) (m n : Nat) : Nat × Nat :=
  let lines := if t.layout = 0 then m else n
  let len := if t.layout = 0 then n else m
  if !fmtBlock t.fmt then (0, 0)
  else if t.baxis = 0 then (t.scaleBase / 64, ceilDiv (runEnd t.scaleBase t.scaleStride lines (ceilDiv len t.block)) 64)
  else (t.scaleBase / 64, ceilDiv (runEnd t.scaleBase t.scaleStride (ceilDiv lines t.block) len) 64)

/-- Valid entries of a table of which a range meets the footprint. -/
def wrtMeet (s : State) (range : State → Nat → Nat → Nat × Nat) (t : Tile) (m n : Nat) : List Nat :=
  (span 0 64).filter fun e => bit (wrtCtrl s t.home e) 31 &&
    (rangesMeet (range s t.home e) (footprintElems t m n) || rangesMeet (range s t.home e) (footprintScales t m n))

/-- Whether a command's Y breaks a check of R101. -/
def wrtConflict (s : State) (t : Tile) (m n layer : Nat) : Bool :=
  let ws := wrtMeet s wrtWeight t m n
  let gs := wrtMeet s wrtGrad t m n
  ws.any (fun e => bit (wrtCtrl s t.home e) 30) || gs.any (fun e => bit (wrtCtrl s t.home e) 30) || decide (2 ≤ gs.length) ||
    gs.any fun e => bit (wrtCtrl s t.home e) 28 && decide (bits (wrtCtrl s t.home e) 15 0 ≠ layer)

/-- The gradient range that a command's Y meets is bound to its layer (R101). -/
def wrtBind (s : State) (t : Tile) (m n layer : Nat) : State :=
  (wrtMeet s wrtGrad t m n).foldl (fun u e =>
    let v := wrtCtrl u t.home e
    if bit v 28 then u else u.setReg e (loomPage t.home + 0x174) (bits v 31 29 * 2 ^ 29 + 2 ^ 28 + layer)) s

/-! ## LOOM_GEMM starts (R34, R47, R50, R53, R87) -/

/-- The command of an entry, with its descriptors read and its place in the panel's stream. -/
def gemmOf (s : State) (p : Nat) (b : List Byte) (base : Nat) : Gemm :=
  let n := p / 8
  let r := panelRing s p
  let tile (i : Nat) : Tile := tileOf (tdtBytes s n i)
  let opt (i : Nat) : Option Tile := if i = 0xFFFF then none else some (tile i)
  { ring := r, seq := (s.ring r).issue, layer := entryLayer b, oper := entryOper b, m := gemmM b, n := gemmN b, k := gemmK b,
    mTile := gemmMTile b, nTile := gemmNTile b, mode := gemmMode b, fmtX := gemmFmtX b, fmtW := gemmFmtW b, fmtY := gemmFmtY b,
    epi := gemmEpi b, order := gemmOrder b, hist := gemmHasHist b, stoch := gemmStoch b, fenceAfter := bit (field b 1 1) 6,
    descX := tile (gemmX b), descW := tile (gemmW b), descY := tile (gemmY b), descR := opt (gemmR b), descH := opt (gemmHist b),
    sameRY := decide (gemmR b = gemmY b), eps := s.reg 0 (loomPage n + 0x154), seed := (s.ring r).srSeed,
    stream := (s.ring r).srStream, base := base, entered := false, tilesDone := 0, bins := binsZero, steps := 0, ticks := 0,
    colSums := [], raced := [], racedSelf := [], racedAcc := [] }

/-- The command joins the panel's stream. -/
def joinStream (s : State) (p : Nat) (b : List Byte) : State :=
  let P := s.panel p
  let r := panelRing s p
  let c := gemmOf s p b P.total
  let s1 := beginEntry (wrtBind s c.descY c.m c.n c.layer) r b .running
  let s2 := if c.stoch then s1.setRing r { s1.ring r with srStream := (c.stream + 1) % 2 ^ 64 } else s1
  s2.setPanel p { P with state := .running, kind := some (gemmKind b), cmds := P.cmds ++ [c], total := P.total + c.total }

/-- Whether a command must wait for the drain of R34: another mode or format, or a FENCE_AFTER before it. -/
def needsDrain (P : Panel) (b : List Byte) : Bool :=
  (match P.kind with
    | some k => decide (k ≠ gemmKind b)
    | none => false) || P.cmds.any Gemm.fenceAfter

/-- A LOOM_GEMM at the head of a panel's ring: it fails a check and completes, or waits for the drain, or joins the stream.
DESIGN CHOICE (log entry 99): a refusal under R101 counts in LOOM_WRT_REFUSED of the Loom whose table refuses it, the HOME of
DESC_Y. -/
def doGemm (s : State) (p : Nat) (b : List Byte) : State :=
  let P := s.panel p
  let y := tileOf (tdtBytes s (p / 8) (gemmY b))
  if !gemmSound s p b then panelAct s p b 2 0
  else if wrtConflict s y (gemmM b) (gemmN b) (entryLayer b) then
    (panelAct s p b 1 0).count 0 (loomPage y.home + 0x188) 1
  else if needsDrain P b then
    if P.cmds = [] then joinStream (clearStream s p) p b else s.setPanel p { P with state := .draining }
  else joinStream s p b

/-- LOOM_GEMM. -/
def execLoomGemm (p : Nat) (s : State) : Res :=
  onUnit (decide (p < 64)) (
    let P := s.panel p
    match panelEntry s p 0x10 with
    | none => s
    | some b =>
      if (P.state = .idle ∨ P.state = .running) ∧ streamRoom (s.ring (panelRing s p)) then doGemm s p b else s)

/-! ## Fences and drains (R34, R406) -/

/-- Reserved fields of LOOM_FENCE are zero. -/
def fenceForm (b : List Byte) : Bool := decide (field b 1 1 % 128 = 0) && zeroBytes b 6 34 && zeroBytes b 0x30 16

/-- The drain of a panel ends: a waiting fence completes OK, and the panel is idle. -/
def drainEnds (s : State) (p : Nat) : State :=
  let P := s.panel p
  let s1 := clearStream (s.setPanel p { P with state := .idle }) p
  match P.fence with
  | none => s1
  | some (r, q) => finishEntry s1 r q 0 0 0 0

/-- LOOM_FENCE at the head of a panel's ring. -/
def doFence (s : State) (p : Nat) (b : List Byte) : State :=
  let r := panelRing s p
  let q := (s.ring r).issue
  if !fenceForm b then panelAct s p b 2 0
  else
    let s1 := beginEntry s r b .drain
    let s2 := s1.setPanel p { s1.panel p with state := .draining, fence := some (r, q) }
    if (s2.panel p).cmds = [] then drainEnds s2 p else s2

/-- LOOM_FENCE. -/
def execLoomFence (p : Nat) (s : State) : Res :=
  onUnit (decide (p < 64)) (
    let P := s.panel p
    match panelEntry s p 0x11 with
    | none => s
    | some b =>
      if (P.state = .idle ∨ P.state = .running) ∧ streamRoom (s.ring (panelRing s p)) then doFence s p b else s)

/-- DRAIN_COMPLETE: the last result has left the fell lanes (R34). -/
def execDrainComplete (p : Nat) (s : State) : Res :=
  onUnit (decide (p < 64)) (
    let P := s.panel p
    if P.state = .draining ∧ P.faulting = none ∧ P.cmds = [] then drainEnds s p else s)

/-! ## LOOM_SET_PANELS (R56, R406) -/

/-- Every byte but OPCODE and CUT_MASK is reserved. -/
def setPanelsForm (b : List Byte) : Bool :=
  zeroBytes b 1 5 && decide (field b 6 1 < 128) && zeroBytes b 7 57

/-- Leftmost segments under a cut mask. -/
def segHeads (cuts : Nat) : List Nat := (span 0 8).filter fun g => decide (segHead cuts g = g)

/-- Whether a cut mask leaves every panel at least 32 live columns; a Loom with no cut may be narrower. -/
def cutsWide (s : State) (n cuts : Nat) : Bool :=
  decide (cuts = 0) || (segHeads cuts).all fun g => decide (32 ≤ (segCols s n g (segRun cuts 8 g)).length)

/-- Whether the state of a Loom forbids new cuts (R56 check 2), for the panel that runs the command. -/
def cutsConflict (s : State) (p : Nat) : Bool :=
  (segHeads (loomCuts s (p / 8))).any fun g =>
    let o := p / 8 * 8 + g
    let R := s.ring (panelRing s o)
    let waiting := if o = p then decide (add32 R.issue 1 ≠ R.tail) else decide (R.issue ≠ R.tail)
    decide (o ≠ p ∧ (s.panel o).state ≠ .idle) || decide ((s.panel o).cmds ≠ []) || (ringForLoom R && (waiting || !R.quiet))

/-- The cuts are set: pages that are leftmost no longer read OFF, new panels are idle, and panels whose span has not changed
keep their state; every panel's stream has been drained (R34, R56). -/
def setCuts (s : State) (n cuts : Nat) : State :=
  let old := loomCuts s n
  let s1 := s.setReg 0 (loomPage n + 0x110) cuts
  (span 0 8).foldl (fun t g =>
    let p := 8 * n + g
    if segHead cuts g ≠ g then t.setPanel p Panel.off
    else if segHead old g = g ∧ segRun old 8 g = segRun cuts 8 g then clearStream t p
    else clearStream (t.setPanel p { Panel.off with state := .idle }) p) s1

/-- LOOM_SET_PANELS at the head of a panel's ring. -/
def doSetPanels (s : State) (p : Nat) (b : List Byte) : State :=
  let n := p / 8
  let cuts := field b 6 1
  if !setPanelsForm b || !cutsWide s n cuts then panelAct s p b 2 0
  else if cutsConflict s p then panelAct s p b 1 0
  else setCuts (panelAct s p b 0 cuts) n cuts

/-- LOOM_SET_PANELS. -/
def execLoomSetPanels (p : Nat) (s : State) : Res :=
  onUnit (decide (p < 64)) (match panelEntry s p 0x12 with
    | none => s
    | some b =>
      if ((s.panel p).state = .idle ∨ (s.panel p).state = .running) ∧ (s.ring (panelRing s p)).quiet then doSetPanels s p b
      else s)

/-! ## Faults (R58) -/

/-- 24 hours in microseconds. -/
def dayUs : Nat := 86400000000

/-- The management core logs a runtime fault's location in the start journal; a core that faults for the third time within 24
hours joins the suspect-core list (R59, R338, log entry 37). -/
def noteCoreFault (s : State) (p kind prow pcol : Nat) : State :=
  let s1 := journalAdd s 0 6 0 0 (p * 2 ^ 32 + kind * 2 ^ 29 + prow * 2 ^ 19 + pcol * 2 ^ 11)
  if kind = 4 then s1
  else
    let core := (p / 8 * 544 + prow) * 256 + pcol
    let recent := s1.dies.faults.filter fun f => decide (s1.hubUs < f.2 + dayUs)
    let flash := if 2 ≤ (recent.filter fun f => f.1 == core).length then
      { s1.flash with suspects := putRising core s1.flash.suspects } else s1.flash
    { s1 with dies := { s1.dies with faults := (core, s1.hubUs) :: recent }, flash := flash }

/-- A fault is detected on a panel: it is counted and logged, the first one is captured and the panel drains. -/
def raiseFault (s : State) (p kind prow pcol : Nat) (who : Who) : State :=
  let page := pnlPage p
  let P := s.panel p
  let s1 := noteCoreFault (s.count 0 (page + 0x70) 1) p kind prow pcol
  let s2 := if bits (s1.reg 0 (page + 0x110)) 31 29 ≠ 0 then s1
    else s1.setReg 0 (page + 0x110) (kind * 2 ^ 29 + prow * 2 ^ 19 + pcol * 2 ^ 11)
  match P.faulting with
  | some _ => s2
  | none =>
    let stat := s2.reg 0 (page + 0x18)
    let s3 := if stat = 0 then s2.setReg 0 (page + 0x20) (who.layer * 2 ^ 16 + who.oper) else s2
    s3.setPanel p { P with state := .draining, faulting := some kind }

/-- The entry that a command's events name. -/
def gemmWho (s : State) (c : Gemm) : Who :=
  match openFlight (s.ring c.ring) c.seq with
  | some f => f.who c.ring
  | none => ⟨c.ring, c.seq, c.layer, c.oper, false⟩

/-- The entry that a fault on a panel names: that of a weft step, or the oldest command. -/
def faultWho (s : State) (p : Nat) (step : Option Nat) : Who :=
  let P := s.panel p
  let c := match step with
    | some j => (locate P j).map (·.cmd)
    | none => none
  match c, P.cmds with
  | some c, _ => gemmWho s c
  | none, c :: _ => gemmWho s c
  | none, [] => Who.none

/-! ## The array (R28 to R33, R38, R39) -/

/-- The activity class of a product (R222), and limb passes per product. -/
def productClass (fmtX : Nat) : Nat := if 5 ≤ fmtX then 3 else fmtClass fmtX
def limbPasses (fmtX : Nat) : Nat := if 5 ≤ fmtX then 4 else 1

/-- Cluster events, charged to the panel's command ring (R243). -/
def clusterEvents (s : State) (n cls count : Nat) (p : Nat) : State :=
  if count = 0 then s else activityAt s (n / 2) 0 cls count (some (panelRing s p))

/-- Products are counted in LOOM_CNT_MAC, in units of 2^20 with the rest carried (R45). -/
def countMac (s : State) (n products : Nat) : State :=
  let L := s.loom n
  let v := L.macRest + products
  (s.setLoom n { L with macRest := v % 2 ^ 20 }).count 0 (loomPage n + 0x78) (v / 2 ^ 20)

/-- A product added to a sum, where both operands and the sum exist. -/
def addProduct (sum x w : Option FNum) : Option FNum :=
  match sum, x, w with
  | some a, some b, some c => some (addY40 a (numMul b c))
  | a, _, _ => a

/-- Products that a weft element list forms with a stationary list, as pairs present. -/
def productsFormed (xs ws : List (Option FNum)) (pairs : List (Nat × Nat)) : Nat :=
  (pairs.filter fun p => ((xs.getD p.1 none).isSome && (ws.getD p.2 none).isSome)).length

/-- Weft index and stationary index of each product of a stationary-mode firing: element (e, i) with (i, j), and the second
FP4 weights 4 further on. -/
def stillPairs (fp4 : Bool) : List (Nat × Nat) :=
  (span 0 (if fp4 then 32 else 16)).map fun u => (u % 16 / 4 * 2 + u % 4 / 2, u % 4 / 2 * 2 + u % 2 + u / 16 * 4)

/-- Sums after a core of stationary mode: first the i = 0 cell adds, then the i = 1 cell (R29). -/
def sumsAfter (sums xs ws : List (Option FNum)) : List (Option FNum) :=
  ((span 0 sums.length).zip sums).map fun p =>
    let half := p.1 / 8
    let e := p.1 % 8 / 2
    let j := p.1 % 2
    let one (i : Nat) (a : Option FNum) : Option FNum :=
      addProduct a (xs.getD (2 * e + i) none) (ws.getD (2 * i + j + 4 * half) none)
    one 1 (one 0 p.2)

/-- Weft and warp index of each product of an output-stationary firing: (e, i) with j, and the second FP4 columns. -/
def streamPairs (fp4 : Bool) : List (Nat × Nat) :=
  (span 0 (if fp4 then 32 else 16)).map fun u => (u % 16 / 2, u % 2 + u / 16 * 2)

/-- Pass sums after an output-stationary firing (R32). -/
def passAfter (pass : List FNum) (xs ws : List (Option FNum)) (fp4 : Bool) : List FNum :=
  ((streamPairs fp4).zip (span 0 32)).map fun q =>
    match addProduct (some (pass.getD q.2 numZero)) (xs.getD q.1.1 none) (ws.getD q.1.2 none) with
    | some v => v
    | none => numZero

/-- Running totals when a pass closes: the first pass sets, later ones add (R32). -/
def totalAfter (first : Bool) (total pass : List FNum) : List FNum :=
  if first then pass else (total.zip pass).map fun p => addY40 p.1 p.2

/-- What a core meets when it would fire. -/
structure Firing where
  p : Nat
  n : Nat
  row : Nat
  col : Nat
  /-- Number of the live column, and the panel's width. -/
  j : Nat
  w : Nat
  /-- The weft step, none for a bubble. -/
  step : Option Nat
  weft : Token
  upper : Token
  deriving DecidableEq, Repr

/-- Whether the pacer of a Loom's die allows a weft injection in the present gauge tick (R225). -/
def paceAllows (s : State) (n : Nat) : Bool :=
  let P := (s.quad (n / 2)).pace
  let t := (s.loom n).tickNo
  decide (t * P / 64 < (t + 1) * P / 64)

/-- Whether a panel's row-0 feeder may inject a weft token: one in a gauge tick that the pacer allows, and in the 16-bit class
none in the three ticks after it (R35, R45, R225). -/
def mayInject (s : State) (p : Nat) : Bool :=
  let P := s.panel p
  !P.entered && decide (P.limb = 0) && paceAllows s (p / 8)

/-- The weft token at a core's left: an opening bubble, the left neighbour's latch, or the feeder's token (R33). A feeder
whose panel drains on a fault has stopped. -/
def weftInput (s : State) (p n r col j : Nat) (step : Option Nat) : Option Token :=
  let C := s.core n r col
  let P := s.panel p
  if j = 0 then
    match step with
    | none => some ⟨none, []⟩
    | some k =>
      if P.faulting.isSome ∨ (r = 0 ∧ ¬ mayInject s p) then none
      else match locate P k with
        | none => none
        | some l => some ⟨some k, weftValues s l r⟩
  else if C.fired = 0 then some ⟨none, []⟩
  else (s.core n r ((panelCols s p).getD (j - 1) 0)).weft

/-- The partial-sum or warp token from above: positive zeros or the top feeder's warp at row 0, opening bubbles for the stages
between two rows, or the upper neighbour's latch (R29, R33, R62). -/
def upperInput (s : State) (p n r col j w : Nat) (step : Option Nat) : Option Token :=
  let C := s.core n r col
  let P := s.panel p
  if r = 0 then
    match step with
    | none => some ⟨none, []⟩
    | some k => match locate P k with
      | none => none
      | some l => some ⟨some k, if l.cmd.mode = 2 then streamWarp s l w j else zeroSums l w j⟩
  else if C.fired < rowOffset s n r - rowOffset s n (r - 1) then some ⟨none, []⟩
  else (s.core n (r - 1) col).down

/-- Whether the consumers of a core have emptied its output latches (R28). -/
def latchesEmpty (C : Core) : Bool := C.weft.isNone && C.down.isNone

/-- The inputs of a live core that could fire, if they are all there. -/
def firing (s : State) (n r col : Nat) : Option Firing :=
  let p := panelAt s n col
  let P := s.panel p
  let C := s.core n r col
  let j := liveIndex s p col
  let lead := rowOffset s n r + j
  let step : Option Nat := if C.fired < lead then none else some (C.fired - lead)
  let beyond := match step with
    | some k => decide (P.total ≤ k)
    | none => decide (P.total = 0)
  if !colLive s n col || beyond || !(s.cluster (clusterOf n r col)).running || !latchesEmpty C then none
  else match weftInput s p n r col j step, upperInput s p n r col j (panelWidth s p) step with
    | some a, some b => some ⟨p, n, r, col, j, panelWidth s p, step, a, b⟩
    | _, _ => none

/-- The consumed input latches of a firing are emptied. -/
def consume (s : State) (f : Firing) : State :=
  let C := s.core f.n f.row f.col
  let s1 := if f.j = 0 ∨ C.fired = 0 then s
    else
      let lc := (panelCols s f.p).getD (f.j - 1) 0
      s.setCore f.n f.row lc { s.core f.n f.row lc with weft := none }
  if f.row = 0 ∨ C.fired < rowOffset s f.n f.row - rowOffset s f.n (f.row - 1) then s1
  else s1.setCore f.n (f.row - 1) f.col { s1.core f.n (f.row - 1) f.col with down := none }

/-- Whether a core has a right neighbour in its panel. -/
def hasRight (f : Firing) : Bool := decide (f.j + 1 < f.w)

/-- The cluster of a core has fired. -/
def touchCluster (s : State) (n r col : Nat) : State :=
  let k := clusterOf n r col
  s.setCluster k { s.cluster k with idleUs := 0 }

/-- Darn pass-through stages just above a row (R62). -/
def stagesAbove (s : State) (n r : Nat) : Nat := if r = 0 then rowOffset s n 0 else rowOffset s n r - rowOffset s n (r - 1) - 1

/-- Darn pass-through stages that the token from above has come through: none for the bubbles that open the stream there. -/
def stagesPassed (s : State) (f : Firing) : Nat :=
  if (if f.row = 0 then f.step.isSome
      else decide (rowOffset s f.n f.row - rowOffset s f.n (f.row - 1) ≤ (s.core f.n f.row f.col).fired)) then
    stagesAbove s f.n f.row
  else 0

/-- A bubble passes a core: it forms no product (R33). In output-stationary mode a warp bubble leaves below too. -/
def fireBubble (s : State) (f : Firing) : State :=
  let s1 := consume s f
  let C := s1.core f.n f.row f.col
  let s2 := s1.setCore f.n f.row f.col
    { C with fired := C.fired + 1, weft := if hasRight f then some ⟨none, []⟩ else none,
             down := if f.row = 511 ∧ (s.panel f.p).kind.any (fun k => decide (k.1 = 2)) then none else some ⟨none, []⟩ }
  clusterEvents (clusterEvents s2 f.n 5 4 f.p) f.n 9 (stagesPassed s f) f.p

/-- A weft step has entered row 0 of its panel (R45, R60). -/
def noteEntered (s : State) (f : Firing) (k : Nat) : State :=
  if f.row = 0 ∧ f.j = 0 then
    let P := s.panel f.p
    let cmds := P.cmds.map fun c => if c.base ≤ k ∧ k < c.base + c.total then { c with entered := true } else c
    activity (panelProgress (s.setPanel f.p { P with fed := k + 1, entered := true, cmds := cmds }) f.p) (9 + f.n) 0 1
      (some (panelRing s f.p))
  else s

/-- A data token fires a core of a stationary mode (R29, R38). None while the pass's warp is not in the shadow registers. -/
def fireStill (s : State) (f : Firing) (k : Nat) (l : Place) : Option State :=
  let C := s.core f.n f.row f.col
  let first := decide (l.t = 0)
  let still := if first then C.shadow else C.active
  match still with
  | none => none
  | some (j0, ws) =>
    if j0 ≠ k - l.t then none
    else
      let s1 := consume s f
      let C1 := s1.core f.n f.row f.col
      let down : Token := ⟨some k, sumsAfter f.upper.vals f.weft.vals ws⟩
      let C2 := { C1 with fired := C1.fired + 1, weft := if hasRight f then some f.weft else none, down := some down,
                          active := some (j0, ws), shadow := if first then none else C1.shadow }
      let made := productsFormed f.weft.vals ws (stillPairs l.cmd.fp4)
      let s2 := countMac (s1.setCore f.n f.row f.col C2) f.n made
      let s3 := clusterEvents s2 f.n (productClass l.cmd.fmtX) (made * limbPasses l.cmd.fmtX) f.p
      let s4 := clusterEvents s3 f.n 7 (flag first) f.p
      some (noteEntered (clusterEvents s4 f.n 9 (stagesPassed s f) f.p) f k)

/-- A data token fires a core of output-stationary mode (R32). None while the drain register is full at the tile's end. -/
def fireStream (s : State) (f : Firing) (k : Nat) (l : Place) : Option State :=
  let C := s.core f.n f.row f.col
  let closes := decide (l.t + 1 = l.len)
  let ends := closes && l.lastPass
  if ends && C.drain.isSome then none
  else
    let s1 := consume s f
    let C1 := s1.core f.n f.row f.col
    let opened := if l.t = 0 then [] else C1.pass
    let pass := passAfter opened f.weft.vals f.upper.vals l.cmd.fp4
    let total := if closes then totalAfter (decide (l.pass = 0)) C1.total pass else C1.total
    let j0 := k - (1024 * l.pass + l.t)
    let C2 := { C1 with fired := C1.fired + 1, weft := if hasRight f then some f.weft else none,
                        down := if f.row = 511 then none else some f.upper, pass := if closes then [] else pass,
                        total := if ends then [] else total, drain := if ends then some (j0, 0, total) else C1.drain }
    let made := productsFormed f.weft.vals f.upper.vals (streamPairs l.cmd.fp4)
    let s2 := countMac (s1.setCore f.n f.row f.col C2) f.n made
    let s3 := clusterEvents s2 f.n (productClass l.cmd.fmtX) (made * limbPasses l.cmd.fmtX) f.p
    let s4 := clusterEvents s3 f.n 4 (made + if closes ∧ l.pass ≠ 0 then pass.length else 0) f.p
    some (noteEntered (clusterEvents s4 f.n 9 (stagesPassed s f) f.p) f k)

/-- A core fires (R28), or stays as it is where it cannot. -/
def fireCore (s : State) (n r col : Nat) : State :=
  match firing s n r col with
  | none => s
  | some f => match f.step with
    | none => touchCluster (fireBubble s f) n r col
    | some k => match locate (s.panel f.p) k with
      | none => s
      | some l =>
        match if l.cmd.mode = 2 then fireStream s f k l else fireStill s f k l with
        | none => s
        | some t => touchCluster t n r col

/-- CORE_FIRE: a core fires, or detects a fault of KIND 1 or 2 in its firing (R58). -/
def execCoreFire (n r col fault : Nat) (s : State) : Res :=
  onUnit (decide (n < 8 ∧ r < 512 ∧ col < 256)) (
    if fault = 1 ∨ fault = 2 then
      match firing s n r col with
      | none => s
      | some f => raiseFault s f.p fault (rowPhys s n r) col (faultWho s f.p f.step)
    else fireCore s n r col)

/-- The first weft step of the next pass after that of a place whose first step is given. -/
def nextPass (l : Place) (j0 : Nat) : Nat := j0 + l.len

/-- Whether every cluster that a column's cores of rows r0 to r1 belong to runs: a token on its way through an idle or gated one
waits (R235). -/
def pathRuns (s : State) (n col r0 r1 : Nat) : Bool :=
  (span (r0 / 16) (r1 / 16 + 1 - r0 / 16)).all fun b => (s.cluster (n * 512 + b * 16 + col / 16)).running

/-- Load tokens that the warp tile of one pass makes: one for each row pair of each live column (R38). -/
def loadTokens (s : State) (p : Nat) : Nat := 256 * panelWidth s p

/-- One load token of a pass leaves its half of the warp double buffer; the first one finds the tile assembled into a free half,
and the half is freed with the last (R117, log entry 96). None while both halves hold other passes. -/
def takeWarp (s : State) (p j0 : Nat) : Option (List (Nat × Nat)) :=
  let ws := (s.panel p).warps
  if ws.any fun h => h.1 == j0 then
    some ((ws.map fun h => if h.1 = j0 then (j0, h.2 - 1) else h).filter fun h => decide (h.2 ≠ 0))
  else if ws.length < 2 then some (ws ++ [(j0, loadTokens s p - 1)])
  else none

/-- The warp of the next pass of a core is read and put into its shadow register (R38). -/
def loadShadow (s : State) (p n r col : Nat) : State :=
  let C := s.core n r col
  match locate (s.panel p) C.nextLoad with
  | none => s
  | some l =>
    let ws := warpValues s l (panelWidth s p) r (liveIndex s p col)
    s.setCore n r col { C with shadow := some (C.nextLoad, ws), nextLoad := nextPass l C.nextLoad }

/-- Whether a core can take the warp of its next pass: a stationary mode, a pass not yet loaded, an empty shadow. -/
def warpDue (s : State) (p n r col : Nat) : Bool :=
  let C := s.core n r col
  C.shadow.isNone && match locate (s.panel p) C.nextLoad with
    | none => false
    | some l => decide (l.cmd.mode ≠ 2)

/-- WARP_LOAD: a load token lands in the shadow registers of its two core rows, or a parity error is found in it (R38, R58). -/
def execWarpLoad (n pair col fault : Nat) (s : State) : Res :=
  onUnit (decide (n < 8 ∧ pair < 256 ∧ col < 256)) (
    let p := panelAt s n col
    let r := 2 * pair
    let due := colLive s n col && (s.panel p).faulting.isNone && pathRuns s n col 0 r &&
      warpDue s p n r col && warpDue s p n (r + 1) col
    match takeWarp s p (s.core n r col).nextLoad with
    | none => s
    | some ws =>
      if !due then s
      else if fault = 3 then raiseFault s p 3 (rowPhys s n r) col (faultWho s p (some (s.core n r col).nextLoad))
      else
        let s0 := s.setPanel p { s.panel p with warps := ws }
        let s1 := clusterEvents (loadShadow (loadShadow s0 p n r col) p n (r + 1) col) n 6 2 p
        let s2 := clusterEvents s1 n 9 (rowOffset s n (r + 1) - (r + 1)) p
        activity s2 (9 + n) 0 1 (some (panelRing s p)))

/-! ## The fell's accumulators (R37, R40, R41, R81) -/

/-- The half that a place's tile or band owns. -/
def halfOf (P : Panel) (l : Place) : Option AccHalf :=
  P.halves.find? fun h => decide (h.cmd = l.cmd.base ∧ h.unit = l.owner)

/-- Key of a sum. -/
def sumKey (m n : Nat) : Nat := m * 2 ^ 32 + n

/-- One sum enters a half: the first pass sets it, later passes add; the last pass counts it as arrived (R40, R41). -/
def enterSum (l : Place) (h : AccHalf) (m n : Nat) (v : FNum) : AccHalf :=
  let k := sumKey m n
  let sums := mput h.sums k (if l.pass = 0 then v else addY40 (mget h.sums k numZero) v)
  { h with sums := sums, arrived := if l.lastPass then mput h.arrived m (mget h.arrived m 0 + 1) else h.arrived }

/-- Sums, each with its output, enter a half. -/
def enterSums (l : Place) (h : AccHalf) (vs : List (Nat × Nat × FNum)) : AccHalf :=
  vs.foldl (fun a v => enterSum l a v.1 v.2.1 v.2.2) h

/-- The sums of a token with the outputs they belong to. -/
def tokenSums (l : Place) (w col : Nat) (vals : List (Option FNum)) : List (Nat × Nat × FNum) :=
  ((span 0 vals.length).zip vals).filterMap fun p =>
    match p.2, sumOutput l w col (p.1 % 8 / 2) (p.1 % 2) (p.1 / 8) with
    | some v, some (m, n) => some (m, n, v)
    | _, _ => none

/-- A half put back, or a new one taken. -/
def putHalf (P : Panel) (h : AccHalf) : Panel :=
  if P.halves.any fun x => decide (x.cmd = h.cmd ∧ x.unit = h.unit) then
    { P with halves := P.halves.map fun x => if x.cmd = h.cmd ∧ x.unit = h.unit then h else x }
  else { P with halves := P.halves ++ [h] }

/-- The half for a place's sums; none where its first pass finds no free one of the two (R41). -/
def halfFor (P : Panel) (l : Place) : Option AccHalf :=
  match halfOf P l with
  | some h => some h
  | none =>
    if P.halves.length < 2 then some { cmd := l.cmd.base, unit := l.owner, sums := [], arrived := [], edge := 0, taken := 0, bins := binsZero }
    else none

/-- Passes are counted when their last sum has entered the fell. -/
def countPasses (s : State) (n k : Nat) : State := s.count 0 (loomPage n + 0x70) k

/-- Whether a place's tile is the last of what owns its accumulator half. -/
def Place.closesHalf (l : Place) : Bool := !rowEpi l.cmd.epi || decide (l.nt + 1 = l.cmd.nTiles)

/-- Sums with their outputs enter the half of a place, in a panel whose half is there or free; none where they must wait. Sums of
the last pass from the panel's rightmost column count there even where they belong to no output (R41). -/
def enterHalf (P : Panel) (l : Place) (vs : List (Nat × Nat × FNum)) (edge : Bool) : Option Panel :=
  if (vs = [] ∧ ¬ edge) ∨ ¬ P.cmds.any (fun c => c.base == l.cmd.base) then some P
  else (halfFor P l).map fun h => putHalf P (enterSums l { h with edge := h.edge + flag (edge && l.closesHalf) } vs)

/-- A partial sum leaves a column and enters the fell; it stays where no half is free (R40, R41). -/
def fellStill (s : State) (p n col : Nat) (tok : Token) (l : Place) : State :=
  let P := s.panel p
  let w := panelWidth s p
  let j := liveIndex s p col
  let pop (t : State) : State := t.setCore n 511 col { t.core n 511 col with down := none }
  if P.faulting.isSome then panelMoves (pop s) p
  else match enterHalf P l (tokenSums l w j tok.vals) (l.lastPass && decide (j + 1 = w)) with
    | none => s
    | some P1 =>
      let s1 := panelMoves (pop (s.setPanel p P1)) p
      let s2 := if l.t + 1 = l.len ∧ j + 1 = w then countPasses s1 n 1 else s1
      activity s2 (1 + n) 0 1 (some (panelRing s p))

/-- The next drain entry of a column: the row whose drain register is to empty, of the oldest tile, from the top (R32). -/
def drainRow (s : State) (n col : Nat) : Option (Nat × Nat × Nat × List FNum) :=
  (span 0 512).foldl (fun a r => match (s.core n r col).drain, a with
    | none, a => a
    | some (j0, i, vs), none => some (r, j0, i, vs)
    | some (j0, i, vs), some (r', k0, i', vs') => if j0 < k0 then some (r, j0, i, vs) else some (r', k0, i', vs')) none

/-- Totals of one drain entry with their outputs: two engines of a core (R32). -/
def drainSums (l : Place) (w r j i : Nat) (vs : List FNum) : List (Nat × Nat × FNum) :=
  ((span 0 vs.length).zip vs).filterMap fun p =>
    let u := p.1 % 16
    let m := 8 * r + u / 2
    let nn := 2 * j + u % 2 + p.1 / 16 * fp4Step w
    if u / 8 = i ∧ m < l.cmd.tileRows l.mt ∧ nn < l.cmd.tileCols l.nt then some (l.m0 + m, l.n0 + nn, p.2) else none

/-- Whether the fell lanes have come to the rows of a drain entry, which they take as they write them: all rows before it have
been written. A band of a row epilogue is collected in its accumulator half (R32, R37, R81, log entry 35). -/
def drainMay (P : Panel) (l : Place) (r i : Nat) : Bool :=
  rowEpi l.cmd.epi || (match P.halves with
    | [] => decide (r = 0 ∧ i = 0)
    | h :: rest => rest.isEmpty && decide (h.cmd = l.cmd.base ∧ h.unit = l.owner ∧ 8 * r + 4 * i ≤ h.taken))

/-- Drained totals enter the fell: they are sums of the last pass, set once. Their token passes the clusters below its row. -/
def fellDrain (s : State) (p n col : Nat) : State :=
  let P := s.panel p
  let w := panelWidth s p
  let j := liveIndex s p col
  match drainRow s n col with
  | none => s
  | some (r, j0, i, vs) =>
    let C := s.core n r col
    let s0 := s.setCore n r col { C with drain := if i = 0 then some (j0, 1, vs) else none }
    match locate P j0 with
    | none => s0
    | some l =>
      -- drained totals are whole: they count as the only pass, which sets and arrives at once
      let lp : Place := { l with pass := 0, cmd := { l.cmd with k := min l.cmd.k 1024 } }
      let rows := l.cmd.tileRows l.mt
      let sums := drainSums l w r j i vs
      let edge := decide (j + 1 = w ∧ 8 * r + 4 * i < rows)
      if !pathRuns s n col r 511 then s
      else if P.faulting.isSome then panelMoves s0 p
      else if (sums ≠ [] ∨ edge) ∧ ¬ drainMay P l r i then s
      else match enterHalf P lp sums edge with
        | none => s
        | some P1 =>
          let s1 := panelMoves (s0.setPanel p P1) p
          let s2 := if edge ∧ rows ≤ 8 * r + 4 * i + 4 then countPasses s1 n l.cmd.passes else s1
          let s3 := clusterEvents s2 n 8 (512 - r) p
          let s4 := clusterEvents s3 n 9 (rowOffset s n 511 - rowOffset s n r - (511 - r)) p
          activity s4 (1 + n) 0 1 (some (panelRing s p))

/-- What leaves the bottom of a column next. -/
def fellColumn (s : State) (n col : Nat) : State :=
  let p := panelAt s n col
  match (s.core n 511 col).down with
  | some tok => match tok.step with
    | none => s.setCore n 511 col { s.core n 511 col with down := none }
    | some k => match locate (s.panel p) k with
      | none => s.setCore n 511 col { s.core n 511 col with down := none }
      | some l => fellStill s p n col tok l
  | none => fellDrain s p n col

/-- FELL_SUM_ENTRY: a sum or a drain token enters the fell, a bubble is dropped there, or a residue mismatch of the accumulator
add is found (R33, R40, R58). -/
def execFellSumEntry (n col fault : Nat) (s : State) : Res :=
  onUnit (decide (n < 8 ∧ col < 256)) (
    if !colLive s n col then s
    else if fault = 4 then
      let p := panelAt s n col
      if (s.panel p).cmds = [] then s else raiseFault s p 4 0x3FF col (faultWho s p none)
    else fellColumn s n col)

/-! ## Bytes that race with a command (R407) -/

/-- Whether the bytes of one line of an operand, elements 0 up to `cnt` along q at p, or along p at q, meet a written range. -/
def lineRaced (t : Tile) (alongQ : Bool) (fixed cnt : Nat) (ranges : List (Nat × Nat)) : Bool :=
  let fb := fmtBits t.fmt
  let base := t.home * 2 ^ 26
  let elem (r : Nat × Nat) : Bool :=
    if alongQ then rowsMeet (base + t.elemBase + fixed * t.stride) 0 1 (ceilDiv (cnt * fb) 8) r.1 r.2
    else rowsMeet (base + t.elemBase + fixed * fb / 8) t.stride cnt (ceilDiv (fixed * fb % 8 + fb) 8) r.1 r.2
  let scale (r : Nat × Nat) : Bool :=
    if !fmtBlock t.fmt then false
    else if alongQ then
      (if t.baxis = 0 then rowsMeet (base + t.scaleBase + fixed * t.scaleStride) 0 1 (ceilDiv cnt t.block) r.1 r.2
      else rowsMeet (base + t.scaleBase + fixed / t.block * t.scaleStride) 0 1 cnt r.1 r.2)
    else if t.baxis = 0 then rowsMeet (base + t.scaleBase + fixed / t.block) t.scaleStride cnt 1 r.1 r.2
    else rowsMeet (base + t.scaleBase + fixed) t.scaleStride (ceilDiv cnt t.block) 1 r.1 r.2
  ranges.any fun r => elem r || scale r
where
  /-- Whether one of `rows` rows of `len` bytes, `stride` apart from `base`, meets the addresses from lo up to hi. -/
  rowsMeet (base stride rows len lo hi : Nat) : Bool :=
    let i := if lo < base + len then 0 else if stride = 0 then rows else (lo + 1 - base - len + stride - 1) / stride
    decide (lo < hi) && decide (i < rows) && decide (base + i * stride < hi)

/-- Whether row m of X, column n of W, or row i of the operand of DESC_R was written while the command ran. -/
def xRaced (c : Gemm) (m : Nat) : Bool := lineRaced c.descX (decide (c.descX.layout = 0)) m c.k (c.raced ++ c.racedSelf)
def wRaced (c : Gemm) (n : Nat) : Bool := lineRaced c.descW (decide (c.descW.layout ≠ 0)) n c.k (c.raced ++ c.racedSelf)

/-- Written ranges that make an operand of DESC_R undefined: the command's own writes do not where DESC_R and DESC_Y are one
descriptor (R98, R407). DESIGN CHOICE (log entry 100): so it is under LAYERNORM and RMSNORM too, whose γ and β rows are read
again as earlier rows of Y have left them. -/
def rRanges (c : Gemm) : List (Nat × Nat) := if c.sameRY then c.raced else c.raced ++ c.racedSelf
def rRowRaced (c : Gemm) (i : Nat) : Bool :=
  match c.descR with
  | none => false
  | some t => lineRaced t (decide (t.layout = 0)) i c.n (rRanges c)
def rElemRaced (c : Gemm) (m n : Nat) : Bool :=
  match c.descR with
  | none => false
  | some t =>
    let (a, off) := t.elemAt m n
    (rRanges c).any fun r => decide (r.1 < a + ceilDiv (off + fmtBits t.fmt) 8 ∧ a < r.2)

/-- Whether an output reads bytes that were written while the command ran: its row of X, its column of W and what its epilogue
takes from DESC_R; under a row epilogue every column of W and the rows of DESC_R that the row uses. -/
def outputRaced (c : Gemm) (m n : Nat) : Bool :=
  if c.raced = [] ∧ c.racedSelf = [] then false
  else if rowEpi c.epi then
    xRaced c m || (span 0 c.n).any (wRaced c) ||
      (if c.epi = 0xC then rRowRaced c 0 || rRowRaced c 1
      else if c.epi = 0xD then rRowRaced c 0
      else if c.epi = 0x18 then rRowRaced c m
      else if c.epi = 0x19 ∨ c.epi = 0x1A then rRowRaced c m || rRowRaced c c.m
      else false)
  else xRaced c m || wRaced c n || rElemRaced c m n

/-- Whether any output of a command is raced. -/
def anyRaced (c : Gemm) : Bool :=
  if c.raced = [] ∧ c.racedSelf = [] then false
  else (span 0 c.m).any fun m => (span 0 c.n).any (outputRaced c m)

/-- The first byte and one past the last of an operand's declared extent, elements and scales. -/
def tileSpans (t : Tile) : List (Nat × Nat) :=
  let base := t.home * 2 ^ 26
  (base + t.elemBase, base + runEnd t.elemBase t.stride t.lines (ceilDiv (t.lineLen * fmtBits t.fmt) 8)) ::
    (if fmtBlock t.fmt then
      [(base + t.scaleBase, base + (if t.baxis = 0 then runEnd t.scaleBase t.scaleStride t.lines (ceilDiv t.lineLen t.block)
        else runEnd t.scaleBase t.scaleStride (ceilDiv t.lines t.block) t.lineLen))] else [])

/-- Whether a written range meets an operand that a command reads. -/
def readsRange (c : Gemm) (lo hi : Nat) : Bool :=
  (tileSpans c.descX ++ tileSpans c.descW ++ (match c.descR with
    | none => []
    | some t => tileSpans t)).any fun r => rangesMeet r (lo, hi)

/-! ## Rows written (R41, R68, R83, R98) -/

/-- Whether a command accumulates into the region that it writes (R98). -/
def Gemm.accumulates (c : Gemm) : Bool := c.sameRY && decide (c.epi = 1)

/-- Whether a written range meets X or W of a command. -/
def feedsRange (c : Gemm) (lo hi : Nat) : Bool :=
  (tileSpans c.descX ++ tileSpans c.descW).any fun r => rangesMeet r (lo, hi)

/-- Bytes stored by the fell of a command: other commands see a race, the command itself where it reads them. Of two commands
that accumulate into one region each notes what the other replaces (R99). -/
def fellStore (p base : Nat) (s : State) (a : Nat) (bs : List Byte) : State :=
  let adds := (s.panel p).cmds.any fun c => c.base == base && c.accumulates
  let mark (own : Bool) (c : Gemm) : Gemm :=
    if !readsRange c a (a + bs.length) then c
    else if own then { c with racedSelf := c.racedSelf ++ [(a, a + bs.length)] }
    else if adds && c.accumulates && !feedsRange c a (a + bs.length) then
      { c with racedAcc := c.racedAcc ++ [(a, s.bytesAt 0 a bs.length)] }
    else { c with raced := c.raced ++ [(a, a + bs.length)] }
  { s with stage := s.stage.write a bs
           panels := s.panels.map fun q =>
             (q.1, { q.2 with cmds := q.2.cmds.map fun c => mark (decide (q.1 = p ∧ c.base = base)) c }) }

/-- Codes packed into one number, the first lowest (R68). -/
def packCodes (fb : Nat) : List Nat → Nat
  | [] => 0
  | c :: r => c % 2 ^ fb + 2 ^ fb * packCodes fb r

/-- Consecutive codes stored from a bit offset of an address on, as bytes; bits beyond them keep what they hold. -/
def codeBytes (s : State) (a off fb : Nat) (codes : List Nat) : List Byte :=
  let total := off + codes.length * fb
  let len := ceilDiv total 8
  let old := leNat (s.bytesAt 0 a len)
  leBytes len (putBits old (total - 1) off (packCodes fb codes))

/-- Writes of codes at outputs (m, n0), (m, n0 + 1), …: one run in a row-major operand, one element each in a column-major
one. -/
def codeWrites (s : State) (t : Tile) (m n0 : Nat) (codes : List Nat) : List (Nat × List Byte) :=
  if codes = [] then []
  else if t.layout = 0 then
    let (a, off) := t.elemAt m n0
    [(a, codeBytes s a off (fmtBits t.fmt) codes)]
  else ((span n0 codes.length).zip codes).map fun p =>
    let (a, off) := t.elemAt m p.1
    (a, codeBytes s a off (fmtBits t.fmt) [p.2])

/-- Writes of the scale bytes of the blocks of row m from column n0 on. -/
def scaleWrites (t : Tile) (m n0 : Nat) (scales : List Nat) : List (Nat × List Byte) :=
  if scales = [] then []
  else if t.layout = 0 then [(t.scaleAt m n0, scales.map (BitVec.ofNat 8))]
  else ((span 0 scales.length).zip scales).map fun p => (t.scaleAt m (n0 + p.1 * t.block), [BitVec.ofNat 8 p.2])

/-- Whether every FIFO whose window the writes meet has room for all of them (R139). -/
def writesReady (s : State) (ws : List (Nat × List Byte)) : Bool :=
  let ps := ws.flatMap fun w => piecesOf w.1 w.2
  ps.all fun p => match trickleAt s p.1 with
    | none => true
    | some k => (s.trickle (k / 8) (k % 8)).takes (unitsFor s k ps)

/-- Writes of a command's fell. -/
def fellWrite (s : State) (p base : Nat) (ws : List (Nat × List Byte)) : State :=
  stageWriteBy (fellStore p base) s (ws.flatMap fun w => piecesOf w.1 w.2)

/-- A fell held by a full destination (R60, R139): the FIFOs are marked, and the panel counts as held from outside. -/
def fellHeld (s : State) (p : Nat) (ws : List (Nat × List Byte)) : State :=
  let s1 := ws.foldl (fun t w => markStalled t w.1 w.2) s
  s1.setPanel p { s1.panel p with stuckUs := 0, held := true }

/-! ## FELL_ROW_TAKE -/

/-- The tile of a half, or the last one of its band. -/
def halfTile (c : Gemm) (h : AccHalf) : Nat × Nat :=
  if rowEpi c.epi then (h.unit, c.nTiles - 1)
  else if c.order = 0 then (h.unit / c.nTiles, h.unit % c.nTiles)
  else (h.unit % c.mTiles, h.unit / c.mTiles)

/-- The outputs that one row of a half holds: first row, rows, first column and columns of its tile or band. -/
def halfShape (c : Gemm) (h : AccHalf) : Nat × Nat × Nat × Nat :=
  let (mt, nt) := halfTile c h
  if rowEpi c.epi then (mt * c.mTile, c.tileRows mt, 0, c.n) else (mt * c.mTile, c.tileRows mt, nt * c.nTile, c.tileCols nt)

/-- What an accumulating command finds at an element that another one has accumulated into meanwhile: none where no such write
took place; else which of the read-add-write sequences ends there, a free choice: 0 the other's, 1 its own after the other's
write, 2 and up its own with what stood there before such a write (R99). -/
def accChoice (s : State) (c : Gemm) (m n : Nat) : Option (Nat × List Nat) :=
  let (a, _) := c.descY.elemAt m n
  let olds := c.racedAcc.filterMap fun r =>
    if r.1 ≤ a ∧ a + 4 ≤ r.1 + r.2.length then some (leNat ((r.2.drop (a - r.1)).take 4)) else none
  if olds = [] then none else some (Config.freeNat s.freeCtr (m * c.n + n) % (olds.length + 2), olds)

/-- The element of DESC_R that an output of a command reads. -/
def residualAt (s : State) (c : Gemm) (t : Tile) (m n : Nat) : FNum :=
  match if c.accumulates then accChoice s c m n else none with
  | some (k + 2, olds) => f32OfBits (olds.getD k 0)
  | _ => readElem s t m n

/-- The code of an output as it ends in memory: the other sequence's, where that one ends there. -/
def codeAfter (s : State) (c : Gemm) (m n code : Nat) : Nat :=
  match if c.accumulates then accChoice s c m n else none with
  | some (0, _) => readCode s c.descY m n
  | _ => code

/-- The value of an accumulated sum, or a free value where its output is raced (R75, R407). -/
def rowValues (s : State) (c : Gemm) (h : AccHalf) (m n0 cols : Nat) : List FNum :=
  (span n0 cols).map fun n =>
    if outputRaced c m n then f32OfBits (Config.freeNat s.freeCtr (m * c.n + n) % 2 ^ 32)
    else toF32 (mget h.sums (sumKey m n) numZero)

/-- Random values of R87 for consecutive outputs, none without STOCH. -/
def rowRandom (c : Gemm) (m n0 cols : Nat) : List (Option Nat) :=
  (span n0 cols).map fun n => if c.stoch then some (srBits c.seed c.stream m n c.n) else none

/-- A finished half leaves: its tiles and its bins count for the command (R41, R51, R90). -/
def finishHalf (c : Gemm) (h : AccHalf) : Gemm :=
  { c with tilesDone := c.tilesDone + (if rowEpi c.epi then c.nTiles else 1), bins := addBins c.bins h.bins }

/-- The first half of a panel with its command. -/
def oldestHalf (P : Panel) : Option (AccHalf × Gemm) :=
  match P.halves with
  | [] => none
  | h :: _ => (P.cmds.find? fun c => c.base == h.cmd).map fun c => (h, c)

/-- The epilogue of row m of a half, from column n0 on: y, and xh of a backward norm. -/
def rowOutputs (s : State) (c : Gemm) (m n0 : Nat) (vs : List FNum) : List FNum × List FNum :=
  epilogueRow c.epi m c.m (f32OfBits c.eps) vs fun i j => match c.descR with
    | none => numZero
    | some t => residualAt s c t i (n0 + j)

/-- The sums of the next output row of a half. -/
def rowSums (s : State) (h : AccHalf) (c : Gemm) : List FNum :=
  let (m0, _, n0, cols) := halfShape c h
  rowValues s c h (m0 + h.taken) n0 cols

/-- What the next output row of a half comes to: its final values, xh of a backward norm, its number events and its writes of
Y. -/
structure RowResult where
  ys : List FNum
  xh : List FNum
  ev : NumEvents
  ws : List (Nat × List Byte)
  deriving DecidableEq, Repr

/-- The next output row of a half: sums, epilogue, conversion and the writes of its elements and scales. -/
def rowResult (s : State) (h : AccHalf) (c : Gemm) : RowResult :=
  let (m0, _, n0, cols) := halfShape c h
  let m := m0 + h.taken
  let (ys, xh) := rowOutputs s c m n0 (rowSums s h c)
  let (codes, scales, ev) := convertRow c.fmtY c.descY.blk ys (rowRandom c m n0 cols)
  let ends := ((span n0 codes.length).zip codes).map fun q => codeAfter s c m q.1 q.2
  ⟨ys, xh, ev, codeWrites s c.descY m n0 ends ++ scaleWrites c.descY m n0 scales⟩

/-- Whether the next output row of a half is available: every sum of it has arrived, and so have those of the panel's rightmost
column for the last K pass of its weft step; in activation-stationary mode a row takes part in every step (R41). -/
def rowArrived (h : AccHalf) (c : Gemm) : Bool :=
  let (m0, _, _, cols) := halfShape c h
  let (mt, nt) := halfTile c h
  decide (mget h.arrived (m0 + h.taken) 0 = cols ∧ (if c.mode = 1 then c.passLen mt nt 0 else h.taken / 4 + 1) ≤ h.edge)

/-- Whether the next output row of a half is its last. -/
def rowIsLast (h : AccHalf) (c : Gemm) : Bool :=
  let (_, rows, _, _) := halfShape c h
  decide (h.taken + 1 = rows)

/-- One output row is taken, given its epilogue applied and written; it is held back by a full destination. -/
def takeRow (s : State) (p : Nat) (h : AccHalf) (c : Gemm) : State :=
  if !rowArrived h c then s
  else
    let o := rowResult s h c
    if !writesReady s o.ws then fellHeld s p o.ws
    else
      let s1 := recordNum (fellWrite s.fresh p c.base o.ws) (p / 8) o.ev
      let P := s1.panel p
      let h1 := { h with taken := h.taken + 1, bins := if c.hist then binRow c.fmtY c.descY.blk h.bins o.ys else h.bins }
      let last := rowIsLast h c
      let upd (x : Gemm) : Gemm :=
        if x.base ≠ c.base then x
        else
          let y := if c.epi = 0x19 ∨ c.epi = 0x1A then
            { x with colSums := colSumsAfter c.epi x.colSums (rowSums s h c) o.xh } else x
          if last then finishHalf y h1 else y
      let P1 := { P with held := false, cmds := P.cmds.map upd, halves := if last then P.halves.drop 1 else h1 :: P.halves.drop 1 }
      let s2 := activity (panelProgress (s1.setPanel p P1) p) (1 + p / 8) 0 1 (some (panelRing s p))
      activity s2 (9 + c.descY.home) 0 1 (some (panelRing s p))

/-- FELL_ROW_TAKE: the lanes take one available output row, or a residue mismatch of a reduction is found in the lane of
physical column `fault` − 1 (R41, R58). -/
def execFellRowTake (p fault : Nat) (s : State) : Res :=
  onUnit (decide (p < 64)) (
    let P := s.panel p
    match oldestHalf P with
    | none => s
    | some (h, c) =>
      if fault ≠ 0 then raiseFault s p 4 0x3FF ((fault - 1) % 256) (gemmWho s c)
      else if P.faulting.isSome then s
      else takeRow s p h c)

/-! ## Completion of a command (R51, R90, R108, R407) -/

/-- Whether an output has been written: its tile is finished, or its half's row has been taken. -/
def outputWritten (P : Panel) (c : Gemm) (m n : Nat) : Bool :=
  let mt := m / c.mTile
  let nt := n / c.nTile
  let unit := if rowEpi c.epi then mt else c.tileNo mt nt
  decide (c.tileNo mt nt < c.tilesDone) ||
    P.halves.any fun h => decide (h.cmd = c.base ∧ h.unit = unit ∧ m < mt * c.mTile + h.taken)

/-- Free values in the Y block that holds a raced output, scale and elements; a plain element alone (R407). -/
def spoilOutput (s : State) (p : Nat) (c : Gemm) (m n : Nat) : State :=
  let B := if fmtBlock c.fmtY then 16 * 2 ^ c.descY.blk else 1
  let n0 := n / B * B
  let codes := (span n0 (min B (c.n - n0))).map fun k => Config.freeNat s.freeCtr k % 2 ^ fmtBits c.fmtY
  let scales := if fmtBlock c.fmtY then [Config.freeNat s.freeCtr (2 ^ 32) % 256] else []
  fellWrite s.fresh p c.base (codeWrites s c.descY m n0 codes ++ scaleWrites c.descY m n0 scales)

/-- Outputs whose operands were written while the command ran become undefined, and so do the flags that they would set. -/
def spoilRaced (s : State) (p : Nat) (c : Gemm) : State :=
  if !anyRaced c then s
  else
    let P := s.panel p
    let s1 := (span 0 c.m).foldl (fun t m => (span 0 c.n).foldl (fun u n =>
      if outputRaced c m n && outputWritten P c m n then spoilOutput u p c m n else u) t) s
    let f (i : Nat) : Nat := Config.freeNat s1.freeCtr i
    recordNum s1.fresh (p / 8) ⟨decide (f 0 % 2 = 1), f 1 % (c.m * c.n + 1), f 2 % (c.m * c.n + 1)⟩

/-- Writes of the histogram counters: each 64-bit counter advanced by its bin, undefined where a raced output was binned. -/
def histWrites (s : State) (c : Gemm) : List (Nat × List Byte) :=
  match c.descH with
  | none => []
  | some t =>
    let a := t.home * 2 ^ 26 + t.elemBase
    [(a, (span 0 32).flatMap fun i =>
      let add := if anyRaced c then Config.freeNat s.freeCtr (2 ^ 40 + i) else c.bins.getD i 0
      leBytes 8 (leNat (s.bytesAt 0 (a + 8 * i) 8) + add))]

/-- A parameter gradient of R108: the old value and its column sum. It is undefined where the command has raced. -/
def colSum (s : State) (c : Gemm) (t : Tile) (row key n : Nat) : FNum :=
  if anyRaced c then f32OfBits (Config.freeNat s.freeCtr (key + n) % 2 ^ 32)
  else f32Add (readElem s t row n) (toF32 (mget c.colSums (key + n) numZero))

/-- Writes of one row of parameter gradients. -/
def colSumWrites (s : State) (c : Gemm) (t : Tile) (row key : Nat) : List (Nat × List Byte) :=
  codeWrites s t row 0 ((span 0 c.n).map fun n => f32ToBits (colSum s c t row key n))

/-- Column sums that an OK completion writes (R108). -/
def colWrites (s : State) (c : Gemm) : List (Nat × List Byte) :=
  match c.descR with
  | none => []
  | some t =>
    if c.epi = 0x19 then colSumWrites s c t (c.m + 1) 0 ++ colSumWrites s c t (c.m + 2) (2 ^ 32)
    else if c.epi = 0x1A then colSumWrites s c t (c.m + 1) 0
    else []

/-- Non-finite column sums of one row, which set OVF and count as any binary32 element that a panel writes (R74, R91). -/
def colSumWild (s : State) (c : Gemm) (t : Tile) (row key : Nat) : Nat :=
  ((span 0 c.n).filter fun n => !numFinite (colSum s c t row key n)).length

/-- Non-finite column sums that an OK completion writes. -/
def colWild (s : State) (c : Gemm) : Nat :=
  match c.descR with
  | none => 0
  | some t =>
    if c.epi = 0x19 then colSumWild s c t (c.m + 1) 0 + colSumWild s c t (c.m + 2) (2 ^ 32)
    else if c.epi = 0x1A then colSumWild s c t (c.m + 1) 0
    else 0

/-- A command leaves its panel with a status: its histogram is added, and it completes. -/
def endGemm (s : State) (p : Nat) (c : Gemm) (status : Nat) : State :=
  let kind := if status = 0 then 0 else bits (s.reg 0 (pnlPage p + 0x110)) 31 29
  let ws := histWrites s c ++ (if status = 0 then colWrites s c else [])
  let wild : NumEvents := ⟨false, if status = 0 then colWild s c else 0, 0⟩
  let s1 := (fellWrite (recordNum (spoilRaced s p c) (p / 8) wild) p c.base ws).fresh
  let s2 := finishEntry s1 c.ring c.seq status c.tilesDone kind (if c.entered then (if status = 0 then c.steps else c.ticks) else 0)
  let P := s2.panel p
  s2.setPanel p { P with cmds := P.cmds.filter (fun x => !(x.base == c.base)), past := P.past ++ [c] }

/-- Output tiles of a command in all. -/
def Gemm.tiles (c : Gemm) : Nat := c.mTiles * c.nTiles

/-- The writes that the fell of a panel still has to make at the end of its oldest command, where all its tiles are written. -/
def endWrites (s : State) (c : Gemm) : List (Nat × List Byte) := histWrites s c ++ colWrites s c

/-- A finished command completes OK; the panel is idle when none is left. -/
def commandDone (s : State) (p : Nat) : State :=
  let P := s.panel p
  match P.cmds with
  | [] => s
  | c :: rest =>
    if c.tilesDone ≠ c.tiles ∨ P.faulting.isSome then s
    else
      if !writesReady s (endWrites s c) then fellHeld s p (endWrites s c)
      else
        let s1 := endGemm (s.setPanel p { P with held := false }) p c 0
        let P1 := s1.panel p
        if rest = [] ∧ P1.state = .running then
          let s2 := s1.setPanel p { P1 with state := .idle }
          if c.fenceAfter then clearStream s2 p else s2
        else s1

/-- LOOM_COMMAND_DONE. -/
def execLoomCommandDone (p : Nat) (s : State) : Res := onUnit (decide (p < 64)) (commandDone s p)

/-! ## The gauge (R27, R44, R45, R51) -/

/-- Whether the next weft token of a panel is held because its warp is not in the shadow registers (R39). -/
def warpWaits (s : State) (p : Nat) : Bool :=
  let P := s.panel p
  match locate P P.fed with
  | none => false
  | some l => decide (l.cmd.mode ≠ 2 ∧ l.t = 0) &&
      (match (s.core (p / 8) 0 ((panelCols s p).getD 0 0)).shadow with
        | some (j0, _) => decide (j0 ≠ P.fed)
        | none => true)

/-- Whether a core is held back by the fell: its sums find no free half, or its drain register is still full where its next tile
ends (R32, R41). -/
def fellStops (s : State) (p : Nat) (key : Nat) (C : Core) : Bool :=
  let P := s.panel p
  let n := p / 8
  let r := key / 256 % 512
  let col := key % 256
  let w := panelWidth s p
  let j := liveIndex s p col
  (decide (r = 511) && (match C.down with
    | some tok => match tok.step with
      | none => false
      | some k => match locate P k with
        | none => false
        | some l => decide (l.cmd.mode ≠ 2) &&
            (enterHalf P l (tokenSums l w j tok.vals) (l.lastPass && decide (j + 1 = w))).isNone
    | none => false)) ||
  (C.drain.isSome && (match locate P (C.fired - (rowOffset s n r + j)) with
    | none => false
    | some l => decide (rowOffset s n r + j ≤ C.fired ∧ l.cmd.mode = 2 ∧ l.t + 1 = l.len) && l.lastPass))

/-- The first core of a panel's row 0, by its key. -/
def firstCore (s : State) (p : Nat) : Nat := coreKey (p / 8) 0 ((panelCols s p).getD 0 0)

/-- Whether a panel's next weft token is held by back-pressure of the fell: some core is held back by it, and row 0 does not
accept a token (R32, R41). -/
def fellWaits (s : State) (p : Nat) : Bool :=
  let C := mget s.cores (firstCore s p) Core.zero
  (!latchesEmpty C || fellStops s p (firstCore s p) C) && (panelCores s p).any fun c => fellStops s p c.1 c.2

/-- Whether tokens remain in a panel's array or rows remain for its fell lanes. -/
def panelBusy (s : State) (p : Nat) : Bool := tokensIn s p || decide ((s.panel p).halves ≠ [])

/-- The class of a tick: 0 ACTIVE, 1 WARP_WAIT, 2 FELL_WAIT, 3 STARVE, 4 DRAIN, 5 IDLE (R45). -/
def tickClass (s : State) (p : Nat) (starved : Bool) : Nat :=
  let P := s.panel p
  let more := decide (P.fed < P.total)
  if P.faulting.isSome then 4
  else if P.entered ∨ 0 < P.limb then 0
  else if more ∧ warpWaits s p then 1
  else if more ∧ fellWaits s p then 2
  else if more ∧ starved then 3
  else if ¬ more ∧ panelBusy s p then 4
  else 5

/-- Whether the pacer withholds a token that is ready in a tick classed IDLE (R225): row 0 would accept it, and its cluster
runs. -/
def paceHolds (s : State) (p : Nat) : Bool :=
  let P := s.panel p
  let key := firstCore s p
  decide (P.fed < P.total) && P.faulting.isNone && !paceAllows s (p / 8) && latchesEmpty (mget s.cores key Core.zero) &&
    (s.cluster (clusterOf (p / 8) 0 (key % 256))).running

/-- A tick at one panel. -/
def tickPanel (s : State) (p : Nat) (starved : Bool) : State :=
  let P := s.panel p
  if P.state = .off then s
  else
    let k := tickClass s p starved
    let wide := P.kind.any fun q => decide (5 ≤ q.2.1)
    let limb := if P.entered then (if wide then 3 else 0) else P.limb - 1
    let cmds := P.cmds.map fun c =>
      if c.entered then { c with ticks := c.ticks + 1, steps := c.steps + flag (decide (c.tilesDone < c.tiles)) } else c
    let P1 := { P with entered := false, limb := limb, cmds := cmds, stuckUs := if starved then 0 else P.stuckUs }
    let s1 := (s.setPanel p P1).count 0 (pnlPage p + 0x40 + 8 * k) 1
    let s2 := if loomCuts s (p / 8) = 0 then s1.count 0 (loomPage (p / 8) + 0x40 + 8 * k) 1 else s1
    if k = 5 ∧ paceHolds s p then s2.count 0 (pwrPage + 0x180) 1 else s2

/-! ## Banks of stage memory (R115, R116) -/

/-- The bank of a byte offset in a Loom's stage memory. -/
def bankOf (o : Nat) : Nat := (bits o 11 6 + bits o 17 12 + bits o 23 18) % 64

/-- The first port that waits, asked from `port` on in turn. -/
def nextPort (ws : List BankWait) (port : Nat) : Option Nat :=
  ((span 0 6).map fun i => (port + i) % 6).find? fun q => ws.any fun w => w.port == q

/-- The accesses of a list without the first one of a port. -/
def dropPort (port : Nat) : List BankWait → List BankWait
  | [] => []
  | w :: r => if w.port = port then r else w :: dropPort port r

/-- A bank grants up to `grants` accesses, round-robin among the ports that wait for it: what is left, and the port that it asks
next. -/
def bankGrants : (grants : Nat) → List BankWait → Nat → List BankWait × Nat
  | 0, ws, port => (ws, port)
  | g + 1, ws, port => match nextPort ws port with
    | none => (ws, port)
    | some q => bankGrants g (dropPort q ws) ((q + 1) % 6)

/-- A gauge tick at one bank of a Loom: four grants, and the accesses that wait their first step are counted. -/
def tickBank (n : Nat) (s : State) (b : Nat) : State :=
  let L := s.loom n
  let (left, port) := bankGrants 4 (L.waits.filter fun w => w.bank == b) (mget L.turns b 0)
  let late := (left.filter fun w => !w.waited).length
  let others := L.waits.filter fun w => !(w.bank == b)
  let L1 := { L with waits := others ++ left.map fun w => { w with waited := true }, turns := mset L.turns b port 0 }
  (s.setLoom n L1).count 0 (loomPage n + 0x198) late

/-- Line accesses that reach the banks of a Loom, as (port, byte offset). -/
def bankArrivals (own others : List (Nat × Nat)) : List BankWait :=
  (own.map fun a => ⟨bankOf a.2, a.1 % 3, false⟩) ++ others.map fun a => ⟨bankOf a.2, 3 + a.1 % 3, false⟩

/-- GAUGE_TICK of a Loom. The environment says which row-0 feeders have no token, and which lines the Loom's own ports (weft
feeders, warp loader, fell) and the others (Retriever n, the other Retrievers, control cores) ask for in this step (log entry
29). -/
def execGaugeTick (n starved : Nat) (own others : List (Nat × Nat)) (s : State) : Res :=
  onUnit (decide (n < 8)) (
    let L := s.loom n
    let s1 := s.setLoom n { L with waits := L.waits ++ bankArrivals own others }
    let s2 := (span 0 64).foldl (fun t b => if (t.loom n).waits.any fun w => w.bank == b then tickBank n t b else t) s1
    let s3 := (span 0 8).foldl (fun t g => tickPanel t (8 * n + g) (bit starved g)) s2
    let L3 := s3.loom n
    s3.setLoom n { L3 with tickNo := (L3.tickNo + 1) % 64, ticks := L3.ticks + 1 })

/-! ## Fault drains, wedges and drain intervals (R58 to R60) -/

/-- Every command of a panel's stream completes with a status, in sequence order, and a waiting fence with it. -/
def endStream (s : State) (p status : Nat) : State :=
  let P := s.panel p
  let s1 := P.cmds.foldl (fun t c => match (t.panel p).cmds.find? (fun x => x.base == c.base) with
    | none => t
    | some x => endGemm t p x status) s
  let s2 := match P.fence with
    | none => s1
    | some (r, q) => finishEntry s1 r q status 0 0 0
  clearStream s2 p

/-- FAULT_DRAIN_DONE: the array has been drained; the stream completes ARITH_CHECK and the panel is FAULTED (R58). -/
def faultDrainDone (s : State) (p : Nat) : State :=
  let P := s.panel p
  match P.faulting with
  | none => s
  | some _ =>
    let page := pnlPage p
    let s1 := endStream s p 8
    let s2 := if s.reg 0 (page + 0x18) = 0 then s1.setReg 0 (page + 0x20) (s.reg 0 (page + 0x20)) else s1
    s2.setPanel p { s2.panel p with state := .faulted }

/-- FAULT_DRAIN_DONE. -/
def execFaultDrainDone (p : Nat) (s : State) : Res := onUnit (decide (p < 64)) (faultDrainDone s p)

/-- PNL_CTRL.RESUME (R59, R65). -/
def pnlResume (s : State) (p : Nat) : State :=
  let P := s.panel p
  if P.state = .faulted then (clearStream (s.setPanel p { P with state := .idle }) p).setReg 0 (pnlPage p + 0x110) 0 else s

/-- Every command ring that a panel serves is held (R60 order 2, R122). -/
def holdLoomRings (s : State) : State :=
  { s with rings := s.rings.map fun q =>
      if ringForLoom q.2 ∧ (panelOfRing s q.1).isSome ∧ Hold.wedge ∉ q.2.holds then
        (q.1, { q.2 with holds := q.2.holds ++ [.wedge] })
      else q }

/-- WEDGE_LIMIT and DRAIN_INTERVAL of a Loom, in microseconds (R64). -/
def wedgeLimit (s : State) (n : Nat) : Nat := max 100 (s.fld 0 (loomPage n + 0x114) 15 0)
def drainInterval (s : State) (n : Nat) : Nat := 10 * max 1 (s.fld 0 (loomPage n + 0x114) 30 16)

/-- Whether a drain interval runs on any Loom. -/
def drainRuns (s : State) : Bool := s.looms.any fun q => decide (q.2.drainUs ≠ 0)

/-- Whether a panel holds tokens or has a command in progress. -/
def panelWorks (s : State) (p : Nat) : Bool := decide ((s.panel p).cmds ≠ []) || tokensIn s p

/-- Whether the fell of a panel is back-pressured by a destination that is still full (R60, R139). -/
def fullAhead (s : State) (p : Nat) : Bool :=
  let P := s.panel p
  P.held && (match oldestHalf P with
    | some (h, c) => !writesReady s (rowResult s h c).ws
    | none => match P.cmds with
      | c :: _ => !writesReady s (endWrites s c)
      | [] => false)

/-- Whether a wedge has been detected since reset: then no command ring of a panel starts a command again (R60). -/
def wedged (s : State) : Bool := s.panels.any fun q => decide (q.2.state = .wedged)

/-- A wedge is detected (R60): its stream completes ISOLATED, every ring head halts, and a drain interval begins unless one
runs. -/
def wedge (s : State) (p : Nat) : State :=
  let P := s.panel p
  let n := p / 8
  if P.stuckUs < wedgeLimit s n ∨ ¬ panelWorks s p ∨ P.state = .wedged ∨ P.state = .held then s
  else
    let s1 := endStream s p 3
    let s2 := holdLoomRings (s1.setPanel p { s1.panel p with state := .wedged })
    if drainRuns s2 then s2
    else s2.setLoom n { s2.loom n with drainUs := s2.hubUs + drainInterval s2 n + 1 }

/-- WEDGE_DETECT. -/
def execWedgeDetect (p : Nat) (s : State) : Res := onUnit (decide (p < 64)) (wedge s p)

/-- The drain interval of a wedged Loom has ended (R60 orders 4 and 5): commands still running complete WATCHDOG, panels are
held, and AUTO_RESET resets the device. -/
def drainIntervalEnds (s : State) (n : Nat) : State :=
  let L := s.loom n
  if L.drainUs = 0 ∨ s.hubUs + 1 < L.drainUs then s
  else
    let s1 := (span 0 64).foldl (fun t p =>
      let P := t.panel p
      if P.state = .off ∨ P.state = .wedged then t
      else
        let u := endStream t p 4
        u.setPanel p { u.panel p with state := .held }) (s.setLoom n { L with drainUs := 0 })
    if bit (s.reg 0 (loomPage n + 0x114)) 31 then resetWith s1 5 1 true else s1

/-- DRAIN_INTERVAL. -/
def execDrainInterval (n : Nat) (s : State) : Res := onUnit (decide (n < 8)) (drainIntervalEnds s n)

/-- A microsecond at the panels (R60): those that hold tokens or have a command in progress count it, unless a full destination
holds their fell. -/
def panelTick (s : State) : State :=
  { s with panels := s.panels.map fun q =>
      if panelWorks s q.1 ∧ ¬ fullAhead s q.1 then (q.1, { q.2 with stuckUs := q.2.stuckUs + 1 }) else q }

/-! ## Panel and Loom registers with rules of their own (R65, R66, R82, R119) -/

/-- After a wedge, a ring that a panel comes to serve is held as well (R60, R122). -/
def holdIfWedged (s : State) : State := if wedged s then holdLoomRings s else s

/-- PNL_CMD_RING written (R65): only while IDLE or OFF, and a ring no other page of the die names. -/
def writeCmdRing (s : State) (p v : Nat) : State :=
  let P := s.panel p
  let taken := (span (p / 16 * 16) 16).any fun o => decide (o ≠ p ∧ s.fld 0 (pnlPage o + 0x10C) 13 0 = v % 16384)
  if (P.state = .idle ∨ P.state = .off) ∧ ¬ taken then holdIfWedged (s.setReg 0 (pnlPage p + 0x10C) (v % 16384))
  else errState s (pnlPage p)

/-- LOOM_WARP_BUF written (R119). -/
def writeWarpBuf (s : State) (n v : Nat) : State :=
  let half := bits v 23 16
  let base := bits v 11 0
  if half = 0 ∨ 128 < half ∨ 4096 < base + 2 * half then errState s (loomPage n)
  else s.setReg 0 (loomPage n + 0x190) (half * 2 ^ 16 + base)

/-- STATE code of a panel (R65). -/
def panelStateCode : PanelState → Nat
  | .off => 0
  | .idle => 1
  | .running => 2
  | .draining => 3
  | .faulted => 4
  | .wedged => 5
  | .held => 6

/-- PNL_STATE: SEGMENTS and WIDTH, 0 when OFF (R65). -/
def panelStateWord (s : State) (p : Nat) : Nat :=
  if (s.panel p).state = .off then 0 else (2 ^ panelSegs s p - 1) * 2 ^ (p % 8) * 2 ^ 16 + panelWidth s p

end Sys2Proof.Machine
end

