-- ==== Sys2Proof/Machine/Power.lean ====
section
/-! DEFINITION. Sys2Proof/Machine/Power.lean: the activity estimate, the governor, temperatures, regulators, the start of
clusters, self-refresh and stopped clocks (R208, R217, R218, R221 to R239, R242, R244). -/

namespace Sys2Proof.Machine

open Sys2Proof

/-! ## Registers -/

/-- CAP as it acts: 600 to 1,600 (R239). -/
def softCap (s : State) : Nat := min 1600 (max 600 (s.fld 0 (pwrPage + 0x100) 10 0))

/-- BOARD; 0 means none. -/
def boardCap (s : State) : Nat := s.fld 0 (pwrPage + 0x104) 10 0

/-- cap_eff of R230, in W. -/
def effectiveCap (s : State) : Nat := if boardCap s = 0 then softCap s else min (softCap s) (boardCap s)

/-- SLOPE, T_LIMIT, GATE_US and SR_IDLE as they act (R235, R237, R239). -/
def rampSlope (s : State) : Nat := min 400 (max 200 (s.fld 0 (pwrPage + 0x108) 8 0))
def thermalLimit (s : State) : Nat := min 100 (max 70 (s.fld 0 (pwrPage + 0x10C) 6 0))
def gateUs (s : State) : Nat := min 1000 (s.fld 0 (pwrPage + 0x110) 9 0)
def selfRefreshMs (s : State) : Nat := min 1000 (s.fld 0 (pwrPage + 0x110) 25 16)

/-- V_PREF and P_PREF of a phase as they act (R239). -/
def phaseV (s : State) (ph : Nat) : Nat := min 30 (s.fld 0 (pwrPage + 0x120 + 4 * ph) 4 0)
def phaseP (s : State) (ph : Nat) : Nat := min 64 (max 1 (s.fld 0 (pwrPage + 0x120 + 4 * ph) 14 8))

/-- floor_v: VMIN while any ring is admitted (R229). -/
def floorV (s : State) : Nat := if admittedRings s = [] then 0 else admVmin s

/-! ## Targets (R228) -/

/-- Phases of the counting rings of a die: those RUNNING or WAITING. -/
def countingPhases (s : State) (die : Nat) : List Nat :=
  (s.rings.filter fun p => decide (dieOfRing p.1 = die) &&
    decide (ringStateCode p.2 = 2 ∨ ringStateCode p.2 = 3)).map fun p => p.2.phase

/-- V_tgt and P_tgt of a quadrant. -/
def targetV (s : State) (q : Nat) : Nat :=
  let ph := countingPhases s q
  max (if ph = [] then phaseV s 0 else maxOf (ph.map (phaseV s))) (floorV s)
def targetP (s : State) (q : Nat) : Nat :=
  let ph := countingPhases s q
  if ph = [] then phaseP s 0 else maxOf (ph.map (phaseP s))

/-! ## The estimate (R221, R223, R244) -/

/-- Clusters of a quadrant that are gated, those of retired column bands included (R235). -/
def gatedClusters (s : State) (q : Nat) : Nat :=
  if 4 ≤ q then 0
  else (span (1024 * q) 1024).foldl (fun n c =>
    n + flag ((s.cluster c).gated || bit (s.reg 0 (loomPage (c / 512) + 0x124)) (c % 16))) 0

/-- Leakage of a quadrant over a 4 µs window, in fJ. -/
def leakOf (s : State) (q : Nat) : Nat := Config.leak q (s.quad q).vcode (s.quad q).temp (gatedClusters s q)

/-- e(q) of R221 in 1/4900 of a fJ: the counts of the open 4 µs window by weight and scale, at the voltage of now. -/
def scaledEnergy (s : State) (q : Nat) : Nat :=
  let v := 50 + vcodeOf s q
  s.power.counts.foldl (fun n p =>
    let source := p.1 / 16 % 256
    if p.1 / 4096 = q then n + p.2 * weightOf source (p.1 % 16) * (if sourceClocked source then 4900 else v * v) else n) 0

/-- Dynamic energy of a ring in a quadrant in the open 4 µs window, in fJ (R244). -/
def dynamicRing (s : State) (q r : Nat) : Nat :=
  s.ledger.est4.foldl (fun n p => if p.1 / 2 ^ 64 = q ∧ p.1 % 2 ^ 64 / 2 ^ 40 = r + 1 then n + p.2 else n) 0

/-- Rings that caused dynamic energy in a quadrant. -/
def dynamicRings (s : State) (q : Nat) : List Nat :=
  s.ledger.est4.foldl (fun l p =>
    let r := p.1 % 2 ^ 64 / 2 ^ 40
    if p.1 / 2 ^ 64 = q ∧ r ≠ 0 then putRising (r - 1) l else l) []

/-- Estimated energy of domain 0 charged to a ring or to none. -/
def chargeLeak (s : State) (ring : Option Nat) (e : Nat) : State :=
  let k := chargeKey s ring
  { s with ledger := { s.ledger with est := mset s.ledger.est k (mget s.ledger.est k 0 + e) 0 } }

/-- The leakage of a quadrant is split over the rings that were active in it (R244). -/
def splitLeak (s : State) (q : Nat) : State :=
  let leak := leakOf s q
  let rings := if s.ledger.leakShare then dynamicRings s q else []
  let sum := (rings.map (dynamicRing s q)).sum
  let share (r : Nat) : Nat := if sum = 0 then 0 else leak * dynamicRing s q r / sum
  let s1 := rings.foldl (fun t r => chargeLeak t (some r) (share r)) s
  chargeLeak s1 none (leak - (rings.map share).sum)

/-- k of R223. -/
def controlK (s : State) : Rat := min (max s.ledger.kPkg (4 / 5)) (5 / 4)

/-- A rational number of µW, rounded down. -/
def wholeUw (x : Rat) : Nat := x.floor.toNat

/-- p(q) in µW: e(q) over 4 µs, and leakage, which is held in fJ over the window (R221). -/
def quadPower (s : State) (q : Nat) : Rat := ((scaledEnergy s q : Nat) / 4900 + (leakOf s q : Nat)) / 4000

/-- P_ctl as the governor uses it, in µW: under divergence at least P_meas and 4 % of cap_eff (R223). -/
def controlPower (s : State) : Nat :=
  if ldgDivergent s then max s.power.pctl (s.power.pmeas + 40000 * effectiveCap s) else s.power.pctl

/-- The gauge rate of a Loom: ticks of the window that closes, divided by 4 µs (R44). -/
def closeGauge (s : State) (n : Nat) : State :=
  let L := s.loom n
  (s.setLoom n { L with ticks := 0 }).setReg 0 (loomPage n + 0x108) (min (L.ticks / 4) 0xFFF)

/-- A 4 µs window closes: the other sources' events are counted, the estimate is formed, leakage is split, and the gauges are
read. -/
def estimateWindow (s : State) (others : List (Nat × Nat × Nat)) : State :=
  let s1 := others.foldl (fun t e => if e.1 < 112 then activity t e.1 (e.2.1 % 16) e.2.2 none else t) s
  let s2 := (span 0 5).foldl (fun t q =>
    t.setQuad q { t.quad q with ctlW := wholeUw (controlK s1 * quadPower s1 q / 1000000) }) s1
  let s3 := (span 0 5).foldl splitLeak s2
  let total := wholeUw (controlK s1 * ((span 0 5).map (quadPower s1)).sum)
  let s4 := { s3 with power := { s3.power with pctl := total, counts := [] }
                      ledger := { s3.ledger with est4 := [], leakShare := bit (s3.reg 0 (ldgPage + 0x100)) 30 } }
  (span 0 8).foldl closeGauge s4

/-- ESTIMATE_WINDOW: the consecutive windows of 4 µs of the hub timer (R44, R221). -/
def execEstimateWindow (others : List (Nat × Nat × Nat)) (s : State) : Res :=
  .next (atPeriod s estimateTimer 4 fun t => estimateWindow t others)

/-! ## The governor (R229 to R234) -/

/-- limit(q) as PWR_Q_STATUS codes it: 0 none, 1 thermal, 2 emergency, 3 current, 4 fault. -/
def limitCode (Q : Quad) : Nat :=
  if Q.fault || Q.shut then 4 else if Q.emergency then 2 else if Q.current then 3 else if Q.thermal then 1 else 0

/-- Voltage code and pace of a Loom die after a loop; the last item tells whether the last branch of R229 holds either of them
below target: from when it acts, until the code or pace may rise again or a limit acts (R234). `draw` is P_ctl and `cap` is
cap_eff, in µW. -/
def governQuad (s : State) (q draw cap : Nat) : Nat × Nat × Bool :=
  let Q := s.quad q
  let v := Q.vcode
  let p := Q.pace
  let vt := targetV s q
  let pt := targetP s q
  let fl := floorV s
  let lim := limitCode Q
  let hot := decide (cap < draw)
  let (v1, p1, held) :=
    if lim = 4 then (v, 1, false)
    else if lim = 2 then (v - 1, 1, false)
    else if lim = 3 then (v, max 1 (p - 8), false)
    else if hot || decide (lim = 1) then (if fl < v then v - 1 else v, if hot then max 1 (p * cap / draw) else p, hot && Q.held)
    else if draw * 100 < 97 * cap then
      (if v < vt then (v + 1, p, false) else if p < pt then (v, p + 1, false) else (v, p, false))
    else if p < pt ∧ fl < v then (v - 1, min pt (p + 2), true)
    else (v, p, Q.held)
  -- a code moves by at most one per loop (R224)
  let v2 := max (v - 1) (min v1 vt)
  let p2 := min p1 pt
  (v2, p2, held && decide (v2 < vt ∨ p2 < pt))

/-- One Loom die in a loop; voltage steps are counted. -/
def governDie (s : State) (q draw cap : Nat) : State :=
  let (v, p, held) := governQuad s q draw cap
  let Q := s.quad q
  (s.setQuad q { Q with vcode := v, pace := p, held := held }).count 0 (pwrPage + 0x198) (flag (decide (v ≠ Q.vcode)))

/-- The hub regulator follows the largest code, not below VMIN, by at most one code per loop (R224). -/
def governHub (s : State) : State :=
  let Q := s.quad 4
  let goal := max (maxOf ((span 0 4).map fun q => (s.quad q).vcode)) (admVmin s)
  let v := if Q.vcode < goal then Q.vcode + 1 else if goal < Q.vcode then Q.vcode - 1 else Q.vcode
  (s.setQuad 4 { Q with vcode := v }).count 0 (pwrPage + 0x198) (flag (decide (v ≠ Q.vcode)))

/-- HOLD and SUSPENDED after a loop (R199, R232): HOLD while a die stands at floor_v = VMIN > 0 at or above T_LIMIT, SUSPENDED
while a die stands below V_adm and any ring is admitted; a suspension that begins raises an event to the host. -/
def governAdmission (s : State) : State :=
  let fl := floorV s
  let hold := decide (0 < fl) && (span 0 4).any fun q =>
    decide ((s.quad q).vcode ≤ fl ∧ 4 * thermalLimit s ≤ (s.quad q).temp)
  let below := decide (0 < fl) && (span 0 4).any fun q => decide ((s.quad q).vcode < fl) && (s.quad q).emergency
  let still := admSuspended s && (span 0 4).any fun q => decide ((s.quad q).vcode < admVmin s)
  let susp := below || still
  let s1 := (s.setFld 0 (hubPage + 0x200) 31 31 (flag hold)).setFld 0 (hubPage + 0x200) 30 30 (flag susp)
  if susp && !admSuspended s then errEvent s1 0 else s1

/-- The 850 W profile (R231). -/
def applyProfile (s : State) : State :=
  if !s.power.profile then s
  else
    let s1 := { s with power := { s.power with profile := false } }.setReg 0 (pwrPage + 0x100) 850
    (span 1 7).foldl (fun t ph => t.setReg 0 (pwrPage + 0x120 + 4 * ph) (40 * 2 ^ 8 + 8)) s1

/-- One loop of the governor. -/
def governorLoop (s : State) : State :=
  let s0 := applyProfile s
  let draw := controlPower s0
  let cap := 1000000 * effectiveCap s0
  let s1 := governAdmission (governHub ((span 0 4).foldl (fun t q => governDie t q draw cap) s0))
  let hot := decide (cap < draw)
  let board := decide (boardCap s0 ≠ 0 ∧ boardCap s0 < softCap s0)
  { s1 with power := { s1.power with pctl := draw, capped := hot && !board, external := hot && board } }

/-- GOVERNOR_LOOP: once per window of 4 µs, after its estimate (R229). -/
def execGovernorLoop (s : State) : Res :=
  .next (if periodStart s governorTimer < periodStart s estimateTimer then
    governorLoop (startPeriod s governorTimer (periodStart s estimateTimer)) else s)

/-- PWR_CAP written: CAP is stored, and PROFILE_850 waits for the next loop (R231, R239). -/
def writeCap (s : State) (v : Nat) : State :=
  let s1 := s.setReg 0 (pwrPage + 0x100) (bits v 10 0)
  if bit v 31 then { s1 with power := { s1.power with profile := true } } else s1

/-- The reasons of R234 that are active now. -/
def throttleReasons (s : State) : Nat :=
  let any (p : Quad → Bool) : Bool := (span 0 5).any fun q => p (s.quad q)
  flag (s.power.capped || (span 0 4).any fun q => (s.quad q).held) + 2 * flag (any (fun Q => Q.thermal || Q.emergency) || admHold s) +
    4 * flag ((span 0 16).any fun st => decide (1 ≤ stackStep s st)) + 8 * flag (any Quad.droop) +
    16 * flag (any Quad.current) + 32 * flag (any fun Q => Q.fault || Q.shut) + 64 * flag s.power.external +
    128 * flag (ldgDivergent s)

/-- A microsecond of the hub timer at the power page: each active reason accumulates, and so does SUSPENDED (R199, R234). -/
def powerTick (s : State) : State :=
  let r := throttleReasons s
  let s1 := (span 0 8).foldl (fun t i => if bit r i then t.count 0 (pwrPage + 0x40 + 8 * i) 1 else t) s
  if admSuspended s1 then
    { s1.count 0 (hubPage + 0x220) 1 with power := { s1.power with suspUs := s1.hubUs + 1 } }
  else s1

/-! ## Temperatures and regulators (R232, R233) -/

/-- Readings of a quadrant's sensors in quarters of a degree: T(q), the limit and the emergency; above 105 °C the device
trips. -/
def junctionRead (s : State) (q : Nat) (readings : List Nat) : State :=
  let t := min 0x3FF (maxOf readings)
  let Q := s.quad q
  let lim := 4 * thermalLimit s
  let emergency := if 412 ≤ t then true else if t ≤ 400 then false else Q.emergency
  let Q1 := { Q with
    temp := t, thermal := if lim ≤ t then true else if t + 12 ≤ lim then false else Q.thermal
    emergency := emergency, pace := if emergency ∧ q < 4 then 1 else Q.pace }
  if readings = [] then s
  else if 420 < t then thermalTrip (s.setQuad q Q1) else s.setQuad q Q1

/-- JUNCTION_SENSOR_READ: every 40 µs; in a thermal-trip hold the trip monitor's readings, which 85 °C begins anew (R232,
R330). -/
def execJunctionSensorRead (q : Nat) (readings : List Nat) (s : State) : Res :=
  onUnit (decide (q < 5)) (
    if s.start.asserted then (if readings.any fun t => decide (340 ≤ t) then stillHot s else s)
    else atPeriod s (junctionTimer q) 40 fun t => junctionRead t q readings)

/-- THERMAL_HOLD_END: every sensor has read below 85 °C for 1 s; THERMTRIP# is deasserted and the hold ends (R330). -/
def execThermalHoldEnd (s : State) : Res :=
  .next (if 1000000 ≤ s.start.coolUs then { s with start := { s.start with trip := false } } else s)

/-- REGULATOR_FAULT and REGULATOR_FAULT_CLEAR (R233). -/
def setFault (s : State) (q : Nat) (v : Bool) : State := s.setQuad q { s.quad q with fault := v }
def execRegulatorFault (q : Nat) (s : State) : Res := onUnit (decide (q < 5)) (setFault s q true)
def execRegulatorFaultClear (q : Nat) (s : State) : Res := onUnit (decide (q < 5)) (setFault s q false)

/-- REGULATOR_SHUTDOWN: the regulator is off until a full reset, ALERT# is asserted, and a Loom die's bridge is taken down
(R233). -/
def regulatorShutdown (s : State) (q : Nat) : State :=
  if (s.quad q).shut then s
  else
    let s1 := s.setQuad q { s.quad q with shut := true }
    let s2 := { s1 with start := { s1.start with alertHeld := true } }
    if q < 4 then takeBridgeDown s2 q else s2
def execRegulatorShutdown (q : Nat) (s : State) : Res := onUnit (decide (q < 5)) (regulatorShutdown s q)

/-- ALERT# is asserted (R397). -/
def alertPin (s : State) : Bool :=
  s.start.alertHeld || (span 0 5).any (fun q => (s.quad q).fault || (s.quad q).shut || (s.quad q).emergency) ||
    (span 0 16).any fun st => decide (stackStep s st = 4)

/-- 95 % of ILIM, in A (R233). -/
def currentLimit (q : Nat) : Nat := if q < 4 then 456 else 143

/-- A sample set of the rail monitors: the ledger's part, P_meas, currents and droops; its event may overrun (R214, R223,
R233, R242). -/
def monitorSample (s : State) (uw : List Nat) (missing faults : Nat) (amps : List Nat) (droop : Nat) (full : Bool) : State :=
  let s1 := sampleLedger s uw missing faults
  let s2 := { s1 with power := { s1.power with pmeas := uw.sum } }
  let s3 := (span 0 5).foldl (fun t q =>
    t.setQuad q { t.quad q with amps := amps.getD q 0, current := decide (currentLimit q ≤ amps.getD q 0), droop := bit droop q }) s2
  crossing s3 3 (some full) id

/-- MONITOR_SAMPLE: every 10 µs (R242). -/
def execMonitorSample (uw : List Nat) (missing faults : Nat) (amps : List Nat) (droop : Nat) (full : Bool) (s : State) : Res :=
  .next (if s.start.asserted then s else atPeriod s sampleTimer 10 fun t => monitorSample t uw missing faults amps droop full)

/-! ## Clusters (R235, R236) -/

/-- Loom and cluster column of a cluster, its panel and quadrant. -/
def clusterPanel (s : State) (c : Nat) : Nat := panelAt s (c / 512) (16 * (c % 16))
def clusterRetired (s : State) (c : Nat) : Bool := bit (s.reg 0 (loomPage (c / 512) + 0x124)) (c % 16)

/-- Microseconds since a cluster last fired: since reset for one that never has. -/
def clusterIdle (s : State) (c : Nat) : Nat :=
  if s.power.clusters.any fun p => p.1 == c then (s.cluster c).idleUs else s.hubUs

/-- CLUSTER_GATE: a cluster idle for GATE_US is gated; 0 disables gating. -/
def gateCluster (s : State) (c : Nat) : State :=
  let K := s.cluster c
  if gateUs s = 0 ∨ K.gated ∨ K.asked ≠ 0 ∨ clusterIdle s c < gateUs s then s
  else s.setCluster c { K with gated := true, running := false }
def execClusterGate (c : Nat) (s : State) : Res := onUnit (decide (c < 4096)) (gateCluster s c)

/-- CLUSTER_START_REQUEST: a token waits at an idle or gated cluster's boundary, and the cluster requests a start. -/
def requestStart (s : State) (c : Nat) : State :=
  let K := s.cluster c
  if K.running ∨ K.asked ≠ 0 ∨ clusterRetired s c then s
  else
    let s1 := s.setCluster c { K with asked := 1 }
    { s1 with power := { s1.power with ramp := s1.power.ramp ++ [(c / 1024, c)] } }
def execClusterStartRequest (c : Nat) (s : State) : Res := onUnit (decide (c < 4096)) (requestStart s c)

/-- Step rate of R208 in 10^5 steps/s at 0.50 V + code × 10 mV: at 45, 85 and 105 °C. -/
def rateColumn (code : Nat) (t : Nat) : Nat :=
  let at' (a b c d : Nat) : Nat :=
    if code ≤ 10 then a + (b - a) * code / 10 else if code ≤ 20 then b + (c - b) * (code - 10) / 10
    else c + (d - c) * (min code 30 - 20) / 10
  if t = 45 then at' 4900 7200 9200 10500 else if t = 85 then at' 4300 6600 8500 9800 else at' 4000 6200 8100 9400

/-- The least step rate at a code and a temperature in quarters of a degree, by interpolation (R208). -/
def stepRate (code temp : Nat) : Nat :=
  if temp ≤ 180 then rateColumn code 45
  else if temp ≤ 340 then rateColumn code 45 - (rateColumn code 45 - rateColumn code 85) * (temp - 180) / 160
  else rateColumn code 85 - (rateColumn code 85 - rateColumn code 105) * (min temp 420 - 340) / 80

/-- Clusters granted in one wave of a quadrant: floor(SLOPE × 40 ns ÷ I_c), with I_c in terms of V in 10 mV and the rate. -/
def waveSize (s : State) (q : Nat) : Nat :=
  let Q := s.quad q
  rampSlope s * 19600000000 / (212992 * (50 + Q.vcode) * stepRate Q.vcode Q.temp)

/-- A cluster is granted its start; a gated one ungates (R222, R235, R239). -/
def grantCluster (s : State) (c : Nat) : State :=
  let K := s.cluster c
  let s1 := s.setCluster c { K with running := true, gated := false, asked := 0, idleUs := 0 }
  let s2 := s1.count 0 (pwrPage + 0x188) (flag (decide (1 < K.asked)))
  if K.gated then clusterEvents (s2.count 0 (pwrPage + 0x190) 1) (c / 512) 10 1 (clusterPanel s c) else s2

/-- RAMP_WAVE: the next wave of a quadrant is granted, in order of request; the others wait one wave more. -/
def rampWave (s : State) (q : Nat) : State :=
  let mine := (s.power.ramp.filter fun p => p.1 == q).map (·.2)
  let n := waveSize s q
  let go := mine.take n
  let stay := mine.drop n
  let s1 := { s with power := { s.power with ramp := s.power.ramp.filter fun p => !(p.1 == q && decide (p.2 ∈ go)) } }
  let s2 := go.foldl grantCluster s1
  stay.foldl (fun t c => t.setCluster c { t.cluster c with asked := (t.cluster c).asked + 1 }) s2
def execRampWave (q : Nat) (s : State) : Res := onUnit (decide (q < 4)) (rampWave s q)

/-- A microsecond at the clusters: one that has not fired for a whole microsecond must start again (R235). -/
def clusterTick (s : State) : State :=
  let cs := s.power.clusters.map fun p =>
    (p.1, { p.2 with idleUs := p.2.idleUs + 1, running := p.2.running && decide (p.2.idleUs < 1) })
  { s with power := { s.power with clusters := cs } }

/-! ## Self-refresh and stopped clocks (R217 to R219, R237) -/

/-- Whether every ring of a die is OFF or IDLE. -/
def dieRingsIdle (s : State) (die : Nat) : Bool :=
  s.rings.all fun p => decide (dieOfRing p.1 ≠ die) || decide (ringStateCode p.2 ≤ 1)

/-- HBM_SELF_REFRESH_ENTER: the stacks of an idle die enter self-refresh, and their controllers' clocks stop. -/
def enterSelfRefresh (s : State) (die : Nat) : State :=
  let ms := selfRefreshMs s
  if ms = 0 ∨ mget s.stackSet.idleUs die 0 < 1000 * ms ∨ !dieRingsIdle s die ∨ targetV s die ≠ phaseV s 0 ∨
      targetP s die ≠ phaseP s 0 then s
  else
    let sts := span (4 * die) 4
    { s with stackSet := { s.stackSet with selfRefresh := sts.foldl (fun l st => putRising st l) s.stackSet.selfRefresh }
             power := { s.power with stopped := sts.foldl (fun l st => putRising st l) s.power.stopped } }
def execHbmSelfRefreshEnter (die : Nat) (s : State) : Res := onUnit (decide (die < 4)) (enterSelfRefresh s die)

/-- Whether an island may stop its clock: an HBM island with its stack in self-refresh, a port's only while the port is not up
(R210, R217). Islands 0 to 15 are the stacks', 16 to 19 the control cores', 20 that of SPI, SMBus and PMBus, 21 to 84 the
ports'. -/
def mayStopClock (s : State) (i : Nat) : Bool :=
  if i < 16 then decide (i ∈ s.stackSet.selfRefresh) else if i < 21 then true else decide (portState s (i - 21) ≠ 2)

/-- ISLAND_CLOCK_STOP: an island stops its clock at its own request; that the control cores of a die all wait for an interrupt,
and that no transfer is in progress, is what the request says (R217, log entry 82). -/
def stopIsland (s : State) (i : Nat) : State :=
  if mayStopClock s i then { s with power := { s.power with stopped := putRising i s.power.stopped } } else s
def execIslandClockStop (i : Nat) (s : State) : Res := onUnit (decide (i < 85)) (stopIsland s i)

/-- ISLAND_WAKE. -/
def execIslandWake (i : Nat) (s : State) : Res := onUnit (decide (i < 85)) (wakeIsland s i)

/-- A microsecond of stopped islands; those of the ports have no counter (R220). -/
def islandTick (s : State) : State :=
  s.power.stopped.foldl (fun t i => if i < 21 then t.count i (hubPage + 0x198) 1 else t) s

end Sys2Proof.Machine
end

