-- ==== Sys2Proof/Machine/Link.lean ====
section
/-! DEFINITION. Sys2Proof/Machine/Link.lean: pack-link ports: coming up, flits, retry, liveness and going down (R263 to R270,
R280, R287). -/

namespace Sys2Proof.Machine

open Sys2Proof

/-- A port that is up. -/
def portIsUp (s : State) (p : Nat) : Bool := decide (portState s p = 2)

/-- Ports that are up. -/
def upPorts (s : State) : List Nat := (span 0 64).filter (portIsUp s)

/-- EN of a port. -/
def portEn (s : State) (p : Nat) : Bool := bit (s.reg 0 (portPage p + 0x100)) 31

/-- STATE and FEC_LOCK of a port set. -/
def setPortState (s : State) (p st lock : Nat) : State :=
  (s.setFld 0 (portPage p + 0x104) 31 30 st).setFld 0 (portPage p + 0x104) 29 29 lock

/-- A flit that bypasses the arbiter leaves a port, with the present ACK and with credits (R265, R267). -/
def sendBypass (s : State) (p type : Nat) (payload : List Byte) : State :=
  let (cvc, n, P) := takeCredits (s.port p)
  (s.setPort p P).send (.flit p ⟨type, 0, P.txSeq, P.rxSeq, cvc, n, payload⟩)

/-- An IDLE flit: sender member and sender port (R265). -/
def sendIdle (s : State) (p : Nat) : State := sendBypass s p 0 (leBytes 2 (ownMember s) ++ leBytes 1 p)

/-- A port comes up (R264): its link starts from sequence 0 with every credit, and idle flits exchange the numbers. -/
def portComesUp (s : State) (p member peer : Nat) : State :=
  if portEn s p ∧ portState s p ≠ 2 ∧ 9 ≤ s.start.step + 9 * s.start.state ∧ s.start.state ≠ 2 then
    let a := portPage p + 0x104
    let s1 := setPortState (s.setPort p Port.zero) p 2 1
    sendIdle ((s1.setFld 0 a 25 16 member).setFld 0 a 13 8 peer) p
  else s

/-! ## The bytes of a flit (R265) -/

/-- The header word of a flit. -/
def flitWord (f : PortFlit) : Nat :=
  f.type % 8 * 2 ^ 29 + f.vc % 4 * 2 ^ 27 + f.seq % 1024 * 2 ^ 17 + f.ack % 1024 * 2 ^ 7 + f.cvc % 4 * 2 ^ 5 + f.credits % 32

/-- Bytes 0 to 251 of a flit: header and payload, filled up with zeros. -/
def flitBytes (f : PortFlit) : List Byte := leBytes 4 (flitWord f) ++ (f.payload ++ List.replicate 248 0).take 248

/-- The CRC of a flit. -/
def flitCrc (f : PortFlit) : Nat := (Config.crc32 (flitBytes f)).toNat

/-- Training starts again, every 10 ms (R264). -/
def trainAgain (s : State) (p : Nat) : State :=
  if portEn s p ∧ portState s p ≠ 2 then repeatAfter s (trainTimer p) 10000 fun t => setPortState t p 1 0 else s

/-! ## Going down (R127, R269, R270) -/

/-- Requests to peer memory that are chosen by Retriever, descriptor and request complete with a status. -/
def failPeers (s : State) (hit : Nat → Desc → Request → Bool) (status : Nat) : State :=
  (allDescs s).foldl (fun t p => p.2.reqs.foldl (fun u q =>
    match (u.rtv p.1).descs.find? fun d => d.id == p.2.id with
    | none => u
    | some d =>
      if (dstSpaceOf u d.bytes = 3 ∨ (¬ descFill d.bytes ∧ srcSpaceOf u d.bytes = 3)) ∧ hit p.1 d q ∧
          d.reqs.any (fun x => x.id == q.id) then
        requestDone (leaveArbs u (reqTag p.1 q.id)) p.1 d q status q.wrote 0
      else u) t) s

/-- Whether a request is outstanding by a port: it went out there and its answer has not come (R270). -/
def outBy (p : Nat) (q : Request) : Bool := decide (q.via = some p) && (if q.sent then !q.parts.isEmpty else q.data.isNone)

/-- An unacknowledged message sent again on the current route, where it gives a working port (R280). -/
def resend (s : State) (m : PackMsg) : State :=
  match routePort s m.dst with
  | none => s
  | some p =>
    if portIsUp s p then
      let un := s.pack.unacked.map fun x => if x.dst = m.dst ∧ x.mseq = m.mseq then { x with via := some p } else x
      let s1 := { s with pack := { s.pack with unacked := un, out := s.pack.out ++ [{ m with via := some p }] } }
      (queueBytes s1 m.dst (kindVc m.kind) (vcInput (kindVc m.kind)) 0 none (msgBytes s1 m)).count 0 (packPage + 0x70) 1
    else s

/-- Unacknowledged messages chosen are sent again. -/
def resendAll (s : State) (hit : PackMsg → Bool) : State := (s.pack.unacked.filter hit).foldl resend s

/-- The arbiter of a port that goes down: requests and responses of which no flit has gone out go on waiting, while the other
messages are resent under R280, or went through the port. -/
def downArb (A : Arb) : Arb :=
  { A with waiting := A.waiting.filter (fun q => decide (q.vc < 2 ∧ q.moved = 0)), serving := none }

/-- Whether a request has not left yet: it waits at the egress of a port. -/
def stillQueued (s : State) (tag : Nat) : Bool :=
  (span 520 64).any fun a => (s.arb a).waiting.any fun q => decide (q.tag = tag)

/-- Messages that wait at ports which are down take the route that their destination has now. -/
def requeueDown (s : State) : State :=
  (span 0 64).foldl (fun t p =>
    if portIsUp t p then t
    else (t.arb (520 + p)).waiting.foldl (fun u q =>
      match routePort u (field q.data 0 2) with
      | none => u
      | some n => if n = p then u
        else arbEnqueue (u.setArb (520 + p) { u.arb (520 + p) with waiting := dropOne q (u.arb (520 + p)).waiting }) (520 + n) q) t) s

/-- A port goes down (R270): its buffers are discarded, requests sent through it complete with a status, messages sent through
it are sent again, and the manager hears of it. -/
def portGoesDown (s : State) (p status : Nat) : State :=
  if portIsUp s p then
    let s1 := setPortState (s.setPort p Port.zero) p 3 0
    let s2 := s1.setArb (520 + p) (downArb (s1.arb (520 + p)))
    let s3 := s2.count 0 (portPage p + 0x70) 1
    let s4 := failPeers s3 (fun n _ q => outBy p q && !stillQueued s3 (reqTag n q.id)) status
    let s5 := resendAll s4 fun m => decide (m.via = some p)
    if packRole s5 = 1 ∨ packRole s5 = 2 then sendMsg s5 .portDown (packManager s5) [p] else s5
  else s

/-- PLK_PORT_CTRL written: DOWN has passed its key check; EN cleared disables the port, EN set starts training (R264, R287). -/
def writePortCtrl (s : State) (p v : Nat) : State :=
  let s1 := if bit v 30 then portGoesDown s p 0xA else s
  let s2 := s1.setFld 0 (portPage p + 0x100) 31 31 (bits v 31 31)
  if bit v 31 = portEn s1 p then s2
  else if bit v 31 then setPortState s2 p 1 0
  else setPortState (portGoesDown s2 p 0xA) p 0 0

/-! ## Flits (R265 to R267) -/

/-- Sequenced flits before ACK leave the replay buffer. -/
def ackFlits (P : Port) (ack : Nat) : Port :=
  match P.replay with
  | [] => P
  | f :: _ =>
    let k := (ack + 1024 - f.1.seq) % 1024
    if k ≤ P.replay.length then { P with replay := P.replay.drop k, fullUs := if k = 0 then P.fullUs else 0 } else P

/-- Credits that a flit returns; the far end buffers 128 flits per channel. -/
def creditFlits (P : Port) (vc n : Nat) : Port := { P with credits := mset P.credits vc (min 128 (portCredit P vc + n)) 128 }

/-- A discarded flit is answered with one NAK until the expected number has arrived. -/
def sendNak (s : State) (p : Nat) : State :=
  if (s.port p).nakSent then s
  else sendBypass (s.setPort p { s.port p with nakSent := true }) p 2 []

/-- A NAK arrives: the sender resends from ACK onward, each flit with its own CREDITS, and a flit resent eight times in a row takes
the port down (R266). -/
def takeNak (s : State) (p ack : Nat) : State :=
  let s1 := s.count 0 (portPage p + 0x58) 1
  let P := ackFlits (s1.port p) ack
  let sent := P.replay.map fun f => (f.1, f.2 + 1)
  let s2 := s1.setPort p { P with replay := sent }
  let s3 := P.replay.foldl (fun t g => t.send (.flit p { g.1 with ack := P.rxSeq })) s2
  if sent.any fun f => decide (8 ≤ f.2) then portGoesDown s3 p 0xA else s3

/-- A flit with a good CRC restarts the liveness timer, and its ACK is taken (R265, R269). -/
def goodFlit (s : State) (p ack : Nat) : State := s.setPort p { ackFlits (s.port p) ack with quietUs := 0 }

/-- The credits of a flit that is not discarded are taken: a sequenced flit that is discarded comes again with its own (R266, R267,
log entry 90). -/
def goodCredits (s : State) (p cvc credits : Nat) : State := s.setPort p (creditFlits (s.port p) cvc credits)

/-- A sequenced flit that has the expected number: none where it is discarded. -/
def acceptSeq (s : State) (p seq : Nat) : Option State :=
  let P := s.port p
  if seq = P.rxSeq then
    some ((s.setPort p { P with rxSeq := (P.rxSeq + 1) % 1024, nakSent := false }).count 0 (portPage p + 0x48) 1)
  else none

/-- Whether a port holds the marker of a stop (R284, R287). -/
def portMarked (s : State) (p n : Nat) : Bool :=
  bit (s.reg 0 (portPage p + 0x108)) 31 && decide (s.fld 0 (portPage p + 0x108) 15 0 = n)
def portSent (s : State) (p n : Nat) : Bool :=
  bit (s.reg 0 (portPage p + 0x108)) 30 && decide (s.fld 0 (portPage p + 0x108) 15 0 = n)

/-- MARKED or SENT of a port set for a stop; STOP_NO is that of the last marker. -/
def setMark (s : State) (p n b : Nat) : State :=
  let a := portPage p + 0x108
  if s.fld 0 a 15 0 = n then s.setFld 0 a b b 1 else s.setReg 0 a (2 ^ b + n)

/-- The bytes of a DATA flit join those of its message, which is complete with its last flit: for this device, whose own row takes it,
or for another member, to which it is forwarded on its channel (R268). -/
def joinFlit (s : State) (p : Nat) (f : PortFlit) : State :=
  let P := s.port p
  let bs := mget P.partly f.vc [] ++ f.payload
  let size := 16 + field bs 6 2
  let P1 := { P with freed := mset P.freed f.vc (mget P.freed f.vc 0 + 1) 0 }
  if bs.length < size then s.setPort p { P1 with partly := mset P.partly f.vc bs [] }
  else
    let s1 := s.setPort p { P1 with partly := mset P.partly f.vc [] [] }
    let dst := field bs 0 2
    if dst = ownMember s then s1 else queueBytes s1 dst f.vc (vcInput f.vc) 0 none (bs.take size)

/-- A DATA flit is delivered, or held behind a marker (R267, R284). -/
def takeData (s : State) (p : Nat) (f : PortFlit) : State :=
  match s.pack.stopNo with
  | some n =>
    if portMarked s p n ∧ (f.vc = 0 ∨ f.vc = 2) then
      (s.setPort p { s.port p with held := (s.port p).held ++ [f] }).count 0 (portPage p + 0x78) 1
    else joinFlit s p f
  | none => joinFlit s p f

/-! ## Timers (R266, R269) -/

/-- LIVENESS_TIMEOUT, FEC_LOCK_LOST and REPLAY_FULL_TIMEOUT at their conditions. -/
def livenessEnds (s : State) (p : Nat) : State := if 1 ≤ (s.port p).quietUs then portGoesDown s p 0xA else s
def replayEnds (s : State) (p : Nat) : State := if 10 ≤ (s.port p).fullUs then portGoesDown s p 0xA else s

/-- A microsecond of the hub timer at the ports that are up. -/
def portTick (s : State) : State :=
  (upPorts s).foldl (fun t p =>
    let P := t.port p
    let full := if 256 ≤ P.replay.length then P.fullUs + 1 else 0
    t.setPort p { P with quietUs := P.quietUs + 1, fullUs := full }) s

/-! ## Commands -/

/-- PORT_UP. -/
def execPortUp (p member peer : Nat) (s : State) : Res := onUnit (decide (p < 64)) (portComesUp s p member peer)

/-- PORT_TRAIN_RETRY. -/
def execPortTrainRetry (p : Nat) (s : State) : Res := onUnit (decide (p < 64)) (trainAgain s p)

/-- IDLE_FLIT_TIMER: a port with no flit in service sends an IDLE flit. -/
def execIdleFlitTimer (p : Nat) (s : State) : Res :=
  onUnit (decide (p < 64)) (if portIsUp s p ∧ (s.arb (520 + p)).serving.isNone then sendIdle s p else s)

end Sys2Proof.Machine
end

