-- ==== Sys2Proof/Machine/Routes.lean ====
section
/-! DEFINITION. Sys2Proof/Machine/Routes.lean: the up/down routes that the manager computes over the working links of the pack, and
route tables as they take effect (R273, R279, R281, R284). A link is given by a member and its port and those at its far end. -/

namespace Sys2Proof.Machine

open Sys2Proof

/-- Links of a member: its port, the member at the far end, and the port there. -/
def linksOf (ls : List (Nat × Nat × Nat × Nat)) (m : Nat) : List (Nat × Nat × Nat) :=
  ls.flatMap fun l => (if l.1 = m then [(l.2.1, l.2.2.1, l.2.2.2)] else []) ++ (if l.2.2.1 = m then [(l.2.2.2, l.1, l.2.1)] else [])

/-- A breadth-first search: one more than its distance for every node reached from a frontier. -/
def reach (next : Nat → List Nat) : (fuel depth : Nat) → (frontier : List Nat) → SMap Nat → SMap Nat
  | 0, _, _, known => known
  | fuel + 1, depth, frontier, known =>
    let new := (frontier.flatMap next).foldl (fun l m => if mget known m 0 = 0 then putRising m l else l) []
    if new = [] then known else reach next fuel (depth + 1) new (new.foldl (fun k m => mset k m (depth + 2) 0) known)

/-- Nodes reached from one, with their distances. -/
def reachFrom (next : Nat → List Nat) (m : Nat) : SMap Nat := reach next 1024 0 [m] (mset [] m 1 0)

/-- One more than the level of each member: its distance from the manager (R279). -/
def levels (ls : List (Nat × Nat × Nat × Nat)) (manager : Nat) : SMap Nat :=
  reachFrom (fun m => (linksOf ls m).map fun l => l.2.1) manager

/-- Whether the hop from one member to another goes up: to the lower level, or the lower number of one level (R279). -/
def hopUp (lv : SMap Nat) (x y : Nat) : Bool :=
  let a := mget lv x 0
  let b := mget lv y 0
  decide (b ≠ 0 ∧ a ≠ 0 ∧ (b < a ∨ (a = b ∧ y < x)))

/-- Up links and down links of a member. -/
def upLinks (ls : List (Nat × Nat × Nat × Nat)) (lv : SMap Nat) (x : Nat) : List (Nat × Nat × Nat) :=
  (linksOf ls x).filter fun l => hopUp lv x l.2.1
def downLinks (ls : List (Nat × Nat × Nat × Nat)) (lv : SMap Nat) (x : Nat) : List (Nat × Nat × Nat) :=
  (linksOf ls x).filter fun l => hopUp lv l.2.1 x

/-- One more than the number of down hops from each member to a destination that down hops alone reach. -/
def downTo (ls : List (Nat × Nat × Nat × Nat)) (lv : SMap Nat) (d : Nat) : SMap Nat :=
  reachFrom (fun m => (upLinks ls lv m).map fun l => l.2.1) d

/-- Members in the order of their levels, and by number within a level. -/
def byLevel (lv : SMap Nat) : List Nat :=
  (span 1 (maxOf (lv.map Prod.snd))).flatMap fun k => (lv.filter fun p => p.2 == k).map Prod.fst

/-- One more than the hops of each member's route to a destination, 0 where there is none: down hops alone where they reach it, or
one up hop to the member with the fewest left (R279, log entry 91). -/
def hopTable (ls : List (Nat × Nat × Nat × Nat)) (lv : SMap Nat) (d : Nat) : SMap Nat :=
  let down := downTo ls lv d
  (byLevel lv).foldl (fun t x =>
    if mget down x 0 ≠ 0 then mset t x (mget down x 0) 0
    else
      let hs := ((upLinks ls lv x).map fun l => mget t l.2.1 0).filter (· ≠ 0)
      match hs with
      | [] => t
      | h :: r => mset t x (r.foldl min h + 1) 0) []

/-- The link of a member's next hop to a destination, and its hop count: of several, that of the lowest port (log entry 91). -/
def nextHop (ls : List (Nat × Nat × Nat × Nat)) (lv : SMap Nat) (x d : Nat) : Option ((Nat × Nat × Nat) × Nat) :=
  let t := hopTable ls lv d
  let h := mget t x 0
  let down := decide (mget (downTo ls lv d) x 0 ≠ 0)
  let ways := (if down then downLinks ls lv x else upLinks ls lv x).filter fun l =>
    decide (mget (if down then downTo ls lv d else t) l.2.1 0 + 1 = h ∧ h ≠ 1)
  match ways with
  | [] => none
  | w :: r => some (r.foldl (fun a b => if b.1 < a.1 then b else a) w, h - 1)

/-- Hops between two members, where there is a route. -/
def routeHops (ls : List (Nat × Nat × Nat × Nat)) (manager a b : Nat) : Option Nat :=
  (nextHop ls (levels ls manager) a b).map Prod.snd

/-- The table of a member: a route to every other member that has one, its up links, and the ingress and egress ports between which
the routes of the pack lead through it. -/
def tableOf (ls : List (Nat × Nat × Nat × Nat)) (manager : Nat) (members : List Nat) (x : Nat) : RouteTable :=
  let lv := levels ls manager
  let dests := members.filter (· ≠ x)
  { members := members
    routes := dests.filterMap fun d => (nextHop ls lv x d).map fun w => (d, w.1.1, w.2)
    upward := (upLinks ls lv x).map Prod.fst
    feeds := (linksOf ls x).flatMap fun l => dests.filterMap fun d =>
      match nextHop ls lv l.2.1 d, nextHop ls lv x d with
      | some u, some w => if u.1 = (l.2.2, x, l.1) then some (l.1, w.1.1) else none
      | _, _ => none }

/-- A route table takes effect: PLK_ROUTE_DATA, UPWARD and the feeds; messages that wait at a port that is down, and unacknowledged
ones, go out on it (R279, R280). -/
def setRoutes (s : State) (t : RouteTable) : State :=
  let a := packPage + 0x124
  let s0 := { s with regs := s.regs.filter fun p => decide (p.1 % 2 ^ 32 ≠ a) }
  let s1 := t.routes.foldl (fun u r => u.setReg (r.1 % 1024) a (2 ^ 31 + r.2.2 % 16 * 2 ^ 8 + r.2.1 % 64)) s0
  let s2 := (span 0 64).foldl (fun u p => u.setFld 0 (portPage p + 0x104) 28 28 (flag (decide (p ∈ t.upward)))) s1
  let roster := t.members.foldl (fun l m => putRising (m % 1024) l) []
  resendAll (requeueDown { s2 with pack := { s2.pack with feeds := t.feeds, roster := roster } }) fun _ => true

/-- A table as the arguments of a message. -/
def tableArgs (t : RouteTable) : List Nat :=
  [t.members.length] ++ t.members ++ [t.routes.length] ++ (t.routes.flatMap fun r => [r.1, r.2.1, r.2.2]) ++ [t.upward.length] ++
    t.upward ++ t.feeds.flatMap fun f => [f.1, f.2]

/-- Members of this device's pack as the manager holds them, itself among them, rising. -/
def packMembers (s : State) : List Nat := putRising (ownMember s) (s.pack.members.map Prod.fst)

/-- The table of a member as the manager computes it. -/
def memberTable (s : State) (m : Nat) : RouteTable := tableOf s.pack.links (ownMember s) (packMembers s) m

/-- The manager computes the routes anew, takes its own table and sends every member its own; while it knows no link, the tables
stand (R273, R279). -/
def sendRoutes (s : State) : State :=
  if s.pack.links = [] then { s with pack := { s.pack with roster := packMembers s } }
  else
    let s1 := setRoutes s (memberTable s (ownMember s))
    s1.pack.members.foldl (fun t p => sendMsg t .routeTable p.1 (tableArgs (memberTable t p.1))) s1

/-- A link that has ended at a port of a member leaves the map. -/
def dropLink (s : State) (m p : Nat) : State :=
  { s with pack := { s.pack with links := s.pack.links.filter fun l => !decide ((l.1 = m ∧ l.2.1 = p) ∨ (l.2.2.1 = m ∧ l.2.2.2 = p)) } }

/-- The links of a member leave the map. -/
def dropLinks (s : State) (m : Nat) : State :=
  { s with pack := { s.pack with links := s.pack.links.filter fun l => decide (l.1 ≠ m ∧ l.2.2.1 ≠ m) } }

/-- A member's links under another number. -/
def renameLinks (s : State) (k x : Nat) : State :=
  let as' (m : Nat) : Nat := if m = k then x else m
  { s with pack := { s.pack with links := s.pack.links.map fun l => (as' l.1, l.2.1, as' l.2.2.1, l.2.2.2) } }

end Sys2Proof.Machine
end

