-- ==== Sys2Proof/Machine/Stop.lean ====
section
/-! DEFINITION. Sys2Proof/Machine/Stop.lean: stopping the pack at a consistent cut (R283 to R286), and messages of the
management channel as a member takes them (R268, R272, R277, R280). -/

namespace Sys2Proof.Machine

open Sys2Proof

/-! ## Management messages -/

/-- A management message is taken: discarded and counted when its epoch is older than this device's, acknowledged again when
it is a duplicate, and otherwise applied and acknowledged (R268, R280). A member holds the epoch of the last message it
accepted from the manager (R277). -/
def manageMsg (s : State) (src epoch mseq : Nat) (act : State → State) : State :=
  if epoch % 2 ^ 32 < packEpoch s then s.count 0 (packPage + 0x68) 1
  else match firstTime s src mseq with
    | none => duplicate s src mseq
    | some t =>
      let t1 := if (packRole t = 1 ∨ packRole t = 2) ∧ src = packManager t then t.setReg 0 (packPage + 0x104) (epoch % 2 ^ 32)
        else t
      act (ackMsg t1 src mseq 0 0 0)

/-- Whether a message comes from this device's manager. -/
def fromManager (s : State) (src : Nat) : Bool :=
  decide (packRole s = 1 ∨ packRole s = 2) && decide (src = packManager s) && !s.pack.mgrLost

/-- Members of the pack apart from this device: on the manager those it has accepted, elsewhere those it was last told of. -/
def otherMembers (s : State) : List Nat :=
  if packRole s = 3 then s.pack.members.map Prod.fst else s.pack.roster.filter (· ≠ ownMember s)

/-- A message to every other member. -/
def sendEvery (s : State) (kind : PackKind) (args : List Nat) : State :=
  (otherMembers s).foldl (fun t m => sendMsg t kind m args) s

/-! ## The wave on one device (R283) -/

/-- PLK_STOP_STATUS: STATE and STOP_NO. -/
def stopState (s : State) : Nat := s.fld 0 (packPage + 0x118) 31 30
def stopNumber (s : State) : Nat := s.fld 0 (packPage + 0x118) 15 0
def setStopState (s : State) (v : Nat) : State := s.setFld 0 (packPage + 0x118) 31 30 v

/-- The local stop wave starts: every ring that is not OFF is HELD, and the trickle FIFOs flush. -/
def startWave (s : State) (n : Nat) : State :=
  let held := s.rings.map fun p => if p.2.mode = .off then p else (p.1, { p.2 with holds := p.2.holds ++ [.packStop] })
  let s1 := { s with rings := held, pack := { s.pack with stopNo := some n, cutSent := false } }
  flushAll (s1.setReg 0 (packPage + 0x118) (2 ^ 30 + n))

/-- A stop reaches this device: the first one starts the wave, the same one again has no further effect. -/
def takeStop (s : State) (n : Nat) : State := if s.pack.stopNo.isNone then startWave s n else s

/-- The device is quiescent: IN_FLIGHT of every ring counts only blocked waits. -/
def quiescent (s : State) : Bool := s.rings.all fun p => p.2.fly.all fun f => f.isDone || f.wait.blocked

/-- Whether a marker may leave an egress port: the replay buffer has room (R266), and the marker has come on every working
ingress port whose traffic can leave through it (R284). -/
def markerMayGo (s : State) (n p : Nat) : Bool :=
  !portSent s p n && decide ((s.port p).replay.length < 256) &&
    s.pack.feeds.all fun f => decide (f.2 ≠ p) || !portIsUp s f.1 || portMarked s f.1 n

/-- The marker leaves a port: sequenced, past the arbiter (R265, R267). -/
def sendMarker (s : State) (n p : Nat) : State :=
  let (cvc, k, P) := takeCredits (s.port p)
  let f : PortFlit := ⟨3, 0, P.txSeq, P.rxSeq, cvc, k, leBytes 2 n ++ leBytes 4 (packEpoch s) ++ leBytes 2 (ownMember s)⟩
  let s1 := s.setPort p { P with txSeq := (P.txSeq + 1) % 1024, replay := P.replay ++ [(f, 0)] }
  setMark ((s1.send (.flit p f)).count 0 (portPage p + 0x40) 1) p n 30

/-- The pack cut is complete when every member has reported (R285). -/
def packCut (s : State) : State :=
  if stopState s = 1 ∧ (ownMember s :: s.pack.members.map Prod.fst).all (fun m => decide (m ∈ s.pack.cuts)) then
    (setStopState s 2).count 0 (packPage + 0x60) 1
  else s

/-- CUT of a member is noted on the manager. -/
def noteCut (s : State) (m : Nat) : State := packCut { s with pack := { s.pack with cuts := putRising m s.pack.cuts } }

/-- The cut of this device: quiescent, with a marker on every working ingress port. A worker reports it, the manager notes its
own. -/
def ownCut (s : State) (n : Nat) : State :=
  if !s.pack.cutSent ∧ (upPorts s).all (fun p => portMarked s p n) then
    let s1 := { s with pack := { s.pack with cutSent := true } }
    if packRole s = 3 then noteCut s1 (ownMember s)
    else if packRole s = 0 then s1
    else sendMsg (setStopState s1 2) .cut (packManager s) [n]
  else s

/-- A quiescent device sends the markers that may go, and reports its cut. -/
def stopProgress (s : State) : State :=
  match s.pack.stopNo with
  | none => s
  | some n =>
    if quiescent s then ownCut (((upPorts s).filter (markerMayGo s n)).foldl (fun t p => sendMarker t n p) s) n else s

/-- The marker of a stop is received (R283, R286): it marks its port and may start the wave; the marker of a later stop waits
behind the present one, and that of the stop resumed last starts nothing. -/
def takeMarker (s : State) (p n : Nat) (f : PortFlit) : State :=
  match s.pack.stopNo with
  | some m =>
    if m = n then stopProgress (setMark s p n 31)
    else s.setPort p { s.port p with held := (s.port p).held ++ [f] }
  | none =>
    let s1 := setMark s p n 31
    if n = stopNumber s then s1 else stopProgress (startWave s1 n)

/-- Flits held on a port are delivered; a marker among them is taken, and the flits behind it are held again where it started
a wave. -/
def deliverHeld (s : State) (p : Nat) : State :=
  let fs := (s.port p).held
  fs.foldl (fun t f => if f.type = 3 then takeMarker t p (field f.payload 0 2) f else takeData t p f)
    (s.setPort p { s.port p with held := [] })

/-- RESUME(n): every HELD ring returns to its previous state, and held flits are delivered (R285, R298). -/
def resumeLocal (s : State) (n : Nat) : State :=
  if s.pack.stopNo = some n then
    let free := s.rings.map fun p =>
      (p.1, { p.2 with holds := p.2.holds.filter fun h => decide (h ≠ .packStop ∧ h ≠ .restore) })
    let s1 := { s with rings := free, pack := { s.pack with stopNo := none, cutSent := false } }
    let s2 := if stopState s1 = 3 then s1 else setStopState s1 0
    (span 0 64).foldl deliverHeld (kickChannels s2)
  else s

/-! ## The stop on the manager (R285) -/

/-- The manager starts the next stop: STOP(n) to every member, and its own wave. -/
def startStop (s : State) : State :=
  let n := (stopNumber s + 1) % 2 ^ 16
  let s1 := { s with pack := { s.pack with cuts := [], stopUs := 0 } }
  startWave (sendEvery s1 .stop [n]) n

/-- The manager sends RESUME(n) with the swatch number to be held as the last, and resumes itself. -/
def sendResume (s : State) (last : Nat) : State :=
  match s.pack.stopNo with
  | some n => resumeLocal (sendEvery s .resume [n, last]) n
  | none => s

/-- A stop fails: it reads FAILED, and the pack resumes. -/
def failStop (s : State) : State := sendResume (setStopState s 3) 0

/-- REQ of PLK_STOP_CTRL: only on the manager, and only while no stop is under way. -/
def stopRequest (s : State) : State := if packRole s = 3 ∧ s.pack.stopNo.isNone then startStop s else s

/-- RESUME of PLK_STOP_CTRL. -/
def stopResume (s : State) : State := if packRole s = 3 then sendResume s 0 else s

/-- STOP_LIMIT in microseconds; 0 acts as 1 ms. -/
def stopLimitUs (s : State) : Nat := 1000 * max 1 (s.fld 0 (packPage + 0x114) 15 0)

/-- A microsecond of the hub timer at the manager's stop. -/
def stopTick (s : State) : State :=
  if packRole s = 3 ∧ stopState s = 1 then { s with pack := { s.pack with stopUs := s.pack.stopUs + 1 } } else s

end Sys2Proof.Machine
end

