-- ==== Sys2Proof/Machine/Swatch.lean ====
section
/-! DEFINITION. Sys2Proof/Machine/Swatch.lean: swatches: what they hold, capture, interval, restore and fill (R289 to R304). -/

namespace Sys2Proof.Machine

open Sys2Proof

/-! ## Registers (R303) -/

/-- HUB_SWT_STATUS: STATE and RESULT. -/
def swtState (s : State) : Nat := s.fld 0 (hubPage + 0x244) 31 29
def swtResult (s : State) : Nat := s.fld 0 (hubPage + 0x244) 28 24
def setSwt (s : State) (st result : Nat) : State :=
  (s.setFld 0 (hubPage + 0x244) 31 29 st).setFld 0 (hubPage + 0x244) 28 24 result

/-- HOST and AUTO of HUB_SWT_CTRL. -/
def swtHost (s : State) : Bool := bit (s.reg 0 (hubPage + 0x240)) 30
def swtAuto (s : State) : Bool := bit (s.reg 0 (hubPage + 0x240)) 29

/-- The reserved area as a first address and one past its last (R290). -/
def reservedArea (s : State) : Nat × Nat :=
  let base := s.reg 0 (hubPage + 0x278)
  (base, base + s.fld 0 (hubPage + 0x280) 15 0 * 2 ^ 30)

/-- A declared region: its space (0 stage memory, 1 HBM), first address there and length; none while EN is 0. -/
def declaredRegion (s : State) (i : Nat) : Option (Nat × Nat × Nat) :=
  let c := s.reg i (hubPage + 0x288)
  if bit c 31 then
    let base := s.reg i (hubPage + 0x290)
    some (bits c 30 30, (if bit c 30 then 0 else bits c 29 27 * 2 ^ 26) + base, s.reg i (hubPage + 0x298))
  else none

/-- The declared regions. -/
def declaredRegions (s : State) : List (Nat × Nat × Nat) := (span 0 64).filterMap (declaredRegion s)

/-- A swatch register written: only while STATE is 0 and with no declared region outside its space; a write to the reserved area
frees its slots (R303). DESIGN CHOICE (log entry 102): an unaligned value is refused. -/
def writeSwtReg (s : State) (sel off v : Nat) : State :=
  let unit := if off = 0x278 then 2 ^ 30 else if off = 0x290 ∨ off = 0x298 then 64 else 1
  let s1 := s.setReg sel (hubPage + off) v
  let inside := match declaredRegion s1 sel with
    | none => true
    | some _ =>
      let limit := if bit (s1.reg sel (hubPage + 0x288)) 30 then 2 ^ 41 else 2 ^ 26
      decide (s1.reg sel (hubPage + 0x290) + s1.reg sel (hubPage + 0x298) ≤ limit)
  if swtState s ≠ 0 ∨ v % unit ≠ 0 ∨ (0x288 ≤ off ∧ !inside) then errState s hubPage
  else if off = 0x278 ∨ off = 0x280 then { s1 with swatch := { s1.swatch with slots := [] } }
  else s1

/-! ## Records (R302) -/

/-- An event of R302 goes to the start journal with the epoch, S, the member and the kind of event, and raises an error event:
1 capture completed, 2 capture failed, 3 restore ordered, 4 restore reported, 5 fill started, 6 fill completed, 7 fill aborted,
8 fill queued, 9 fall-back, 10 NO_SPARE, 11 UNRECOVERABLE. -/
def swatchEvent (s : State) (kind sw member result : Nat) : State :=
  let detail := packEpoch s + sw % 2 ^ 32 * 2 ^ 32 + member * 2 ^ 64 + kind * 2 ^ 80
  errEvent (journalAdd s 0 6 0 result detail) 0

/-! ## Contents (R289, R293) -/

/-- A started entry as numbers: sequence, how it waits (0 complete, 1 held arrival), object, generation, scope, completion, and
its 64 bytes. A pack-scope operation in flight has acted by the cut. -/
def flightWords (s : State) (r : Nat) (f : Flight) : List Nat :=
  let held := waiterRes s r f.seq f.wait
  let c := f.done.getD ⟨0, entryOp f.bytes, entryTag f.bytes, entryLayer f.bytes, entryOper f.bytes, held.1, held.2, 0,
    entryIrq f.bytes, false⟩
  let head := match f.done, f.wait with
    | none, .barrier o g p => [f.seq, 1, o, g, flag p]
    | none, .remote o => if entryOp f.bytes = 3 ∧ bit (field f.bytes 1 1) 5 then [f.seq, 1, o, field f.bytes 8 1, 1]
      else [f.seq, 0, 0, 0, 0]
    | _, _ => [f.seq, 0, 0, 0, 0]
  head ++ [c.status, c.opcode, c.tag, c.layer, c.oper, c.res0, c.res1, c.res2, flag c.irq, flag c.stops] ++
    f.bytes.map BitVec.toNat

/-- Whether a started entry is recorded as not started: a blocked WAIT. -/
def recordedUnstarted (f : Flight) : Bool :=
  !f.isDone && match f.wait with
    | .counter _ _ _ => true
    | _ => false

/-- Kind 3 of a ring. -/
def ringWords (s : State) (r : Nat) : List Nat :=
  let R := s.ring r
  let issue := match R.fly.find? recordedUnstarted with
    | some f => f.seq
    | none => R.issue
  let mode := match R.mode with
    | .stopped => 2
    | .cancelling => 3
    | _ => 1
  [R.kind, R.outMode, R.space, R.home, R.slotsM1, R.server, R.serverId, R.part, R.slotSize, R.base, R.head, R.tail, issue,
    R.tagQuota, R.limit, R.classOvr, R.freeSync, R.fillSync, R.wdogMs, R.srSeed, R.srStream, mode, R.cancelTail, R.phase,
    R.savedPhase] ++ (R.fly.filter fun f => !recordedUnstarted f).flatMap (flightWords s r)

/-- Kind 4 of an object. -/
def objectWords (x : SyncObj) : List Nat :=
  [x.kind, flag x.pack, x.part, x.count, x.value, x.gen, x.arrived, x.early, flag x.broken, flag x.saturated, flag x.misuse,
    x.cause, x.breakerMember, x.breakerRing]

/-- Bits of a stored register that kind 5 or the FIFOs of kind 6 hold: every RW field of the Loom and panel pages, the
weight-region table whole, the sector windows, the phases and a FIFO's configuration, PUT and GET. -/
def keptMask (key : Nat) : Nat :=
  let a := key % 2 ^ 32
  let o := offOf a
  let all := 2 ^ 64 - 1
  match regionOf a with
  | 8 => if 0x174 ≤ o ∧ o < 0x190 then all else match specAt a with
    | some r => accMask (fun x => decide (x = .rw)) r.fields
    | none => 0
  | 9 => match specAt a with
    | some r => accMask (fun x => decide (x = .rw)) r.fields
    | none => 0
  | 12 => if 16 ≤ instOf a ∧ o = 0x104 then all else 0
  | 4 => if 0x120 ≤ o ∧ o < 0x140 then all else 0
  | 10 => if 0x184 ≤ o ∧ o < 0x1A8 then all else 0
  | _ => 0

/-- The registers that a swatch holds under their keys. -/
def configWords (s : State) : List (Nat × Nat) :=
  (s.regs.filter fun p => decide (keptMask p.1 ≠ 0)).map fun p => (p.1, p.2.toNat &&& keptMask p.1)

/-- Kind 6 of a channel: staging words, active descriptor and shadow. -/
def channelWords (s : State) (n c : Nat) : List (List Byte) :=
  let C := s.chan n c
  [stagingBytes s n c, C.active.getD [], C.shadow.getD []]

/-- Channels that differ from a reset one. -/
def usedChannels (s : State) : List Nat :=
  (span 0 640).filter fun k =>
    decide (s.chan (k / 64) (k % 64) ≠ Channel.zero) || !(stagingBytes s (k / 64) (k % 64)).all (· == 0)

/-- Kind 8 of a ring with a request open: the request and what it has been charged. -/
def requestWords (s : State) (q : OpenReq) : List Nat :=
  let a := s.account q.no
  [q.id, q.openSeq, q.wall, a.energy, a.uncert.num.toNat, a.uncert.den, a.estOnly, a.discard, a.est, a.pieces, a.firstWin,
    a.lastWin, flag a.divergent, flag a.coFed, flag a.unverified, a.part]

/-- Undefined ranges of a memory within an extent. -/
def rangesIn (m : Memory) (lo hi : Nat) : List (Nat × Nat × Nat) :=
  m.undef.filterMap fun u =>
    let a := max lo u.1
    let b := min hi u.2.1
    if a < b then some (a, b, u.2.2) else none

/-- Kinds 1 and 2 of a region. -/
def regionImage (s : State) (r : Nat × Nat × Nat) : SwatchRegion :=
  let m := if r.1 = 1 then s.hbm else s.stage
  ⟨r.1, r.2.1, r.2.2, m.cells.filter (fun c => decide (r.2.1 ≤ c.1 ∧ c.1 < r.2.1 + r.2.2)), rangesIn m r.2.1 (r.2.1 + r.2.2)⟩

/-- The swatch of this device as it stands at the cut. -/
def imageOf (s : State) (n sw : Nat) : SwatchImage :=
  let used := s.rings.filter fun p => decide (p.2.mode ≠ .off)
  { no := sw, stopNo := n, member := ownMember s, epoch := packEpoch s, serial := serialOf s
    loomWidth := s.reg 0 (hubPage + 0x104), fw := s.sec.fw
    regions := (declaredRegions s).map (regionImage s)
    rings := used.map fun p => (p.1, ringWords s p.1)
    objects := (s.sync.filter fun p => decide (p.2.kind ≠ 0)).map fun p => (p.1, objectWords p.2)
    config := configWords s
    chans := (usedChannels s).map fun k => (k, channelWords s (k / 64) (k % 64))
    hub := [(0, if packRole s = 3 then s.pack.lossC.elim 0 (· + 1) else 0)] ++
      [0x130, 0x134, 0x138].map fun o => (hubPage + o, s.reg 0 (hubPage + o))
    requests := used.filterMap fun p => p.2.req.map fun q => (p.1, requestWords s q) }

/-! ## The manifest (R291) -/

/-- A segment entry: KIND, SPACE, Loom, ADDR, LENGTH, OFFSET and DIGEST. -/
def segEntry (kind space loom addr len off : Nat) (digest : List Byte) : List Byte :=
  leBytes 1 kind ++ leBytes 1 space ++ leBytes 1 (loom * 32) ++ leBytes 5 0 ++ leBytes 8 addr ++ leBytes 8 len ++ leBytes 8 off ++
    digest

/-- The entries of the declared regions, kinds 1 and 2, then one for each of kinds 3 to 8, whose lengths, bytes and offsets the manual
does not give (log entry 58). -/
def segEntries (s : State) : List (List Byte) :=
  let free (i : Nat) : Nat := Config.freeNat (2 ^ 66 + s.freeCtr) i
  let regions := (declaredRegions s).zipIdx.map fun p =>
    let r := p.1
    if r.1 = 1 then segEntry 1 1 0 r.2.1 r.2.2 (free p.2) (hash (s.bytesAt 1 r.2.1 r.2.2))
    else segEntry 2 0 (r.2.1 / 2 ^ 26 % 8) r.2.1 r.2.2 (free p.2) (hash (s.bytesAt 0 r.2.1 r.2.2))
  let kind (k : Nat) : List Byte :=
    let len := free (64 + k)
    segEntry k 2 0 0 len (free (80 + k)) (hash ((span 0 len).map (Config.freeByte (free (96 + k)))))
  regions ++ (span 3 6).map kind

/-- The manifest of a swatch with its entries, of so many segment bytes, and a SOURCE. -/
def manifestOf (img : SwatchImage) (source bytes : Nat) (entries : List (List Byte)) : List Byte :=
  leBytes 1 1 ++ leBytes 1 source ++ leBytes 2 img.member ++ leBytes 4 img.epoch ++ leBytes 8 img.serial ++ leBytes 8 img.no ++
    leBytes 2 img.stopNo ++ leBytes 2 entries.length ++ leBytes 4 0 ++ leBytes 8 bytes ++ leBytes 4 img.loomWidth ++ leBytes 4 0 ++
    fit 64 img.fw ++ hash entries.flatten ++ leBytes 336 0

/-- What is written last to a slot: the manifest, its entries and the signature of the manifest (R291). -/
def manifestBytes (s : State) (img : SwatchImage) (bytes : Nat) : List Byte :=
  let es := segEntries s
  let m := manifestOf img 0 (bytes + ((declaredRegions s).map fun r => r.2.2).sum) es
  m ++ es.flatten ++ signature identitySeed "DZIDEX-SWATCH" m

/-! ## Slots (R290, R292) -/

/-- Z: manifest, entries, signature and segments, rounded up to 1 GiB. -/
def swatchSize (s : State) (bytes : Nat) : Nat :=
  let rs := declaredRegions s
  let n := 512 + 96 * (6 + rs.length) + 4627 + bytes + (rs.map fun r => r.2.2).sum
  (n + 2 ^ 30 - 1) / 2 ^ 30 * 2 ^ 30

/-- The two local slots, allocated at first use; none where they do not fit. -/
def localSlots (s : State) (z : Nat) : Option (List SwatchSlot) :=
  let (lo, hi) := reservedArea s
  if s.swatch.slots = [] then
    (if lo + 2 * z ≤ min hi (2 ^ 41) then some [⟨lo, z, none⟩, ⟨lo + z, z, none⟩] else none)
  else if s.swatch.slots.all fun t => decide (z ≤ t.size) then some s.swatch.slots else none

/-- The slot that a new swatch goes to: an empty one, or the older complete one. -/
def slotFor (ts : List SwatchSlot) : Option SwatchSlot :=
  match ts.find? fun t => t.image.isNone with
  | some t => some t
  | none =>
    ts.foldl (fun best t => match best with
      | none => some t
      | some b => if (t.image.map SwatchImage.no).getD 0 < (b.image.map SwatchImage.no).getD 0 then some t else some b) none

/-- A slot's image set. -/
def setSlot (s : State) (base : Nat) (img : Option SwatchImage) : State :=
  { s with swatch := { s.swatch with
      slots := s.swatch.slots.map fun t => if t.base = base then { t with image := img } else t } }

/-! ## Interval (R295) -/

/-- The interval computed anew. -/
def updateInterval (s : State) : State :=
  let r (o : Nat) := s.reg 0 (hubPage + o)
  let c := if s.swatch.costs = [] then 60000 else r 0x258
  let x := 2 * c * (r 0x260 + r 0x268) / (1000 * (1 + r 0x270))
  let t := isqrtBits 40 x 0
  let lo := r 0x248
  let hi := max lo (r 0x24C)
  s.setReg 0 (hubPage + 0x254) (min (max t lo) hi)

/-- RATE_RESET. -/
def rateReset (s : State) : State :=
  let s1 := (s.setReg 0 (hubPage + 0x268) 0).setReg 0 (hubPage + 0x270) 0
  { s1 with swatch := { s1.swatch with runUs := 0 } }

/-- A microsecond of the hub timer: the manager counts the time in which the pack runs. -/
def swatchTick (s : State) : State :=
  if packRole s = 3 ∧ s.pack.stopNo.isNone then
    if s.swatch.runUs + 1 = 1000000 then { s with swatch := { s.swatch with runUs := 0 } }.count 0 (hubPage + 0x268) 1
    else { s with swatch := { s.swatch with runUs := s.swatch.runUs + 1 } }
  else s

/-! ## Capture (R293, R294) -/

/-- A capture starts on the manager: order 1. -/
def startCapture (s : State) : State :=
  if packRole s = 3 ∧ swtState s = 0 ∧ s.swatch.capS.isNone ∧ s.pack.stopNo.isNone ∧ s.start.state = 1 then
    let s1 := startStop s
    let w := { s1.swatch with capS := some (s.flash.swtLast + 1), capStop := stopNumber s1, capStartUs := s.hubUs,
                              capStep2Us := none, dones := [] }
    setSwt { s1 with swatch := w } 1 (swtResult s)
  else s

/-- The pack cut is complete: SWATCH(n, S) goes to every member (order 2). -/
def afterCut (s : State) : State :=
  match s.swatch.capS with
  | none => s
  | some sw =>
    if packRole s = 3 ∧ stopState s = 2 ∧ s.swatch.capStep2Us.isNone ∧ s.pack.stopNo = some s.swatch.capStop then
      let s1 := sendEvery s .swatch [s.swatch.capStop, sw]
      { s1 with swatch := { s1.swatch with capStep2Us := some s.hubUs } }
    else s

/-- A capture fails: HUB_SWT_LAST stays, and the pack resumes (R294). -/
def captureFails (s : State) (result : Nat) : State :=
  match s.swatch.capS with
  | none => s
  | some sw =>
    let s1 := { s with swatch := { s.swatch with capS := none, job := none } }
    let s2 := setSwt (s1.count 0 (hubPage + 0x2B8) 1) 0 result
    sendResume (swatchEvent s2 2 sw (ownMember s) result) 0

/-- SWATCH_DONE from this member. -/
def reportDone (s : State) (sw result : Nat) : State := sendMsg s .swatchDone (packManager s) [sw, result]

/-- Orders 3 and 4 begin on a member: the state of kinds 3 to 8 is read and the copies start, or there is no room. -/
def beginSwatch (s : State) (n sw bytes : Nat) : State × Option Nat :=
  match localSlots s (swatchSize s bytes) with
  | none => (s, some 1)
  | some ts =>
    match slotFor ts with
    | none => (s, some 1)
    | some t =>
      let s1 := setSlot { s with swatch := { s.swatch with slots := ts } } t.base none
      let hbm := s1.hbm.lose t.base (t.base + t.size) s1.freeCtr
      let img := imageOf s n sw
      let s2 := { s1.fresh with hbm := hbm
                                swatch := { s1.swatch with job := some ⟨n, sw, manifestBytes s img bytes, t.base, img⟩ } }
      (setSwt s2 1 (swtResult s), none)

/-- RUN_S, FAILS and the mean cost feed the interval; the capture that completes sets HUB_SWT_LAST on every member, and the
pack resumes (order 7). -/
def captureDone (s : State) (sw : Nat) : State :=
  let cost := (s.hubUs - s.swatch.capStartUs) / 1000
  let costs := (cost :: s.swatch.costs).take 8
  let s1 := { s with flash := { s.flash with swtLast := sw },
                     swatch := { s.swatch with capS := none, costs := costs, lastUs := s.hubUs } }
  let s2 := (s1.setReg 0 (hubPage + 0x258) (costs.sum / costs.length)).count 0 (hubPage + 0x2B0) 1
  sendResume (swatchEvent (updateInterval (setSwt s2 0 0)) 1 sw (ownMember s) 0) sw

/-! ## Restore on a member (R297, R298) -/

/-- A started entry from its numbers. -/
def flightOf (w : List Nat) : Flight :=
  let g (i : Nat) : Nat := w.getD i 0
  let c : Completion := ⟨g 5, g 6, g 7, g 8, g 9, g 10, g 11, g 12, decide (g 13 = 1), decide (g 14 = 1)⟩
  { seq := g 0, bytes := ((w.drop 15).take 64).map (BitVec.ofNat 8)
    wait := if g 1 = 1 then .barrier (g 2) (g 3) (decide (g 4 = 1)) else .running
    done := if g 1 = 1 then none else some c, filt := false, eligUs := 0, grant := 0 }

/-- Started entries from their numbers, 79 each. -/
def flightsOf : (fuel : Nat) → List Nat → List Flight
  | 0, _ => []
  | fuel + 1, w => if w = [] then [] else flightOf (w.take 79) :: flightsOf fuel (w.drop 79)

/-- A ring comes back HELD, with admission NONE; its result-slot registers stay as they stand (R298). -/
def ringFrom (old : Ring) (w : List Nat) : Ring :=
  let g (i : Nat) : Nat := w.getD i 0
  { Ring.zero with
    kind := g 0, outMode := g 1, space := g 2, home := g 3, slotsM1 := g 4, server := g 5, serverId := g 6, part := g 7
    slotSize := g 8, base := g 9, head := g 10, tail := g 11, issue := g 12, tagQuota := g 13, limit := g 14
    classOvr := g 15, freeSync := g 16, fillSync := g 17, wdogMs := g 18, srSeed := g 19, srStream := g 20
    mode := if g 21 = 2 then .stopped else if g 21 = 3 then .cancelling else .on, cancelTail := g 22, phase := g 23
    savedPhase := g 24, fly := flightsOf (w.length + 1) (w.drop 25), holds := [.restore], cntDone := old.cntDone
    cntBytes := old.cntBytes, cntDiscard := old.cntDiscard, cntConflict := old.cntConflict, cntDemoted := old.cntDemoted
    rsEn := old.rsEn, rsSpace := old.rsSpace, rsVector := old.rsVector, rsBase := old.rsBase, released := g 10 }

/-- An object from its numbers, with no waiter and no subscriber. -/
def objectOf (w : List Nat) : SyncObj :=
  let g (i : Nat) : Nat := w.getD i 0
  { SyncObj.zero with
    kind := g 0, pack := decide (g 1 = 1), part := g 2, count := g 3, value := g 4, gen := g 5, arrived := g 6, early := g 7
    broken := decide (g 8 = 1), saturated := decide (g 9 = 1), misuse := decide (g 10 = 1), cause := g 11
    breakerMember := g 12, breakerRing := g 13 }

/-- Held arrivals of a restored ring, from its started entries' numbers, wait again on their recorded generations. -/
def holdAgain : (fuel : Nat) → State → (r : Nat) → List Nat → State
  | 0, s, _, _ => s
  | fuel + 1, s, r, w =>
    if w = [] then s
    else
      let g (i : Nat) : Nat := w.getD i 0
      let held : Waiter := ⟨r, g 0, g 3, g 10, g 11⟩
      let s1 :=
        if g 1 ≠ 1 then s
        else if g 4 = 1 ∧ packRole s ≠ 3 then { s with mirrorWait := s.mirrorWait ++ [⟨g 2, held, false⟩] }
        else s.setObj (g 2) { s.obj (g 2) with waiters := (s.obj (g 2)).waiters ++ [held] }
      holdAgain fuel s1 r (w.drop 79)

/-- A request reopens on its ring, RESTORED (R259). -/
def reopen (s : State) (r : Nat) (w : List Nat) : State :=
  let g (i : Nat) : Nat := w.getD i 0
  let s1 := openRequest s r (g 0) (g 1) (g 2)
  match (s1.ring r).req with
  | none => s1
  | some q => s1.setAccount q.no { s1.account q.no with
      energy := g 3, uncert := (g 4 : Rat) / (g 5 : Rat), estOnly := g 6, discard := g 7, est := g 8, pieces := g 9
      firstWin := g 10, lastWin := g 11, divergent := decide (g 12 = 1), coFed := decide (g 13 = 1)
      unverified := decide (g 14 = 1), part := g 15, restored := true }

/-- Every ring goes to OFF and the fabric is idle: no entry, descriptor, stream, arbiter request or mirror is left; the
requests open on the rings close with ABANDONED (R260, R297 step 1). -/
def quietFabric (s : State) : State :=
  let off (R : Ring) : Ring := { R with mode := .off, kind := 0, fly := [], tails := [], wdogUs := 0, holds := []
                                        admState := 0, admGrant := 0 }
  let s0 := s.rings.foldl (fun t p => abandonRequest t p.1) s
  let s1 := { s0 with rings := s0.rings.map (fun p => (p.1, off p.2))
                      mirrors := [], mirrorWait := [], admQueue := []
                      rtvs := s0.rtvs.map fun p => (p.1, { p.2 with descs := [], chans := [], trk := [] })
                      arbs := s0.arbs.map fun p => (p.1, { p.2 with waiting := [], serving := none }) }
  (span 0 64).foldl (fun t p => match (t.panel p).state with
    | .off => t
    | .wedged => t
    | .held => t
    | _ => let u := clearStream t p; u.setPanel p { u.panel p with state := .idle }) s1

/-- The bytes of a region put back. -/
def putRegion (s : State) (r : SwatchRegion) : State :=
  let put (m : Memory) : Memory :=
    let m1 : Memory := { cells := m.cells.filter fun c => !(decide (r.base ≤ c.1) && decide (c.1 < r.base + r.len))
                         undef := cutRanges r.base (r.base + r.len) m.undef }
    let inside (c : Nat × Byte) : Bool := decide (r.base ≤ c.1) && decide (c.1 < r.base + r.len)
    let m2 := (r.cells.filter inside).foldl (fun m c => m.write c.1 [c.2]) m1
    r.undef.foldl (fun m u => m.lose (max r.base u.1) (min (r.base + r.len) u.2.1) u.2.2) m2
  if r.space = 1 then { s with hbm := put s.hbm } else { s with stage := put s.stage }

/-- Undeclared bytes are undefined after a restore; the reserved area keeps its slots (R289). -/
def loseAll (s : State) : State :=
  let (lo, hi) := reservedArea s
  let hbm := (s.hbm.lose 0 lo s.freeCtr).lose (min hi (2 ^ 41)) (2 ^ 41) s.freeCtr
  { s.fresh with hbm := hbm, stage := s.stage.lose 0 (8 * 2 ^ 26) (s.freeCtr + 1), freeCtr := s.freeCtr + 2 }

/-- Kind 5 and the FIFOs of kind 6: kept registers take the swatch's values, or their reset values. -/
def putConfig (s : State) (c : List (Nat × Nat)) : State :=
  let old := (s.regs.filter fun p => decide (keptMask p.1 ≠ 0)).map Prod.fst
  let reset (t : State) (k : Nat) : State :=
    let m := keptMask k
    let v := t.reg (k / 2 ^ 32) (k % 2 ^ 32)
    t.setReg (k / 2 ^ 32) (k % 2 ^ 32) (v - (v &&& m) + (resetValue (k / 2 ^ 32) (k % 2 ^ 32) &&& m))
  c.foldl (fun t p =>
    let m := keptMask p.1
    let v := t.reg (p.1 / 2 ^ 32) (p.1 % 2 ^ 32)
    t.setReg (p.1 / 2 ^ 32) (p.1 % 2 ^ 32) (v - (v &&& m) + (p.2 &&& m))) (old.foldl reset s)

/-- A channel of kind 6 put back; it starts when the pack resumes. -/
def putChannel (s : State) (k : Nat) (w : List (List Byte)) : State :=
  let n := k / 64
  let c := k % 64
  let some' (b : List Byte) : Option (List Byte) := if b = [] then none else some b
  let s1 := (span 0 16).foldl (fun t i => t.setReg c (rtvPage n + 0x140 + 4 * i) (field (w.getD 0 []) (4 * i) 4)) s
  s1.setChan n c ⟨some' (w.getD 1 []), some' (w.getD 2 []), false⟩

/-- Steps 4 to 6 with a copy whose every digest matches: segments 1 and 2, then kinds 5, 4, 6, 7, 3 and 8. -/
def applyImage (s : State) (img : SwatchImage) : State :=
  let s1 := img.regions.foldl putRegion (loseAll s)
  let s2 := putConfig s1 img.config
  let s3 := { s2 with sync := img.objects.foldl (fun m p => mset m p.1 (objectOf p.2) SyncObj.zero) [] }
  let s4 := img.chans.foldl (fun t p => putChannel t p.1 p.2) s3
  let s5 := img.hub.foldl (fun t p =>
    if p.1 = 0 then { t with pack := { t.pack with lossC := if p.2 = 0 then none else some (p.2 - 1) } }
    else if p.1 ∈ [hubPage + 0x130, hubPage + 0x134, hubPage + 0x138] then t.setReg 0 p.1 p.2 else t) s4
  let s6 := img.rings.foldl (fun t p => t.setRing p.1 (ringFrom (t.ring p.1) p.2)) s5
  let s7 := img.rings.foldl (fun t p => holdAgain (p.2.length + 1) t p.1 (p.2.drop 25)) s6
  img.requests.foldl (fun t p => reopen t p.1 p.2) s7

/-- The result of the checks of R297 on a copy: its number, its member and its firmware against the order, after the code with
which signature and digests were found. -/
def copyCheck (s : State) (sw member code : Nat) (copy : Option SwatchImage) : Nat :=
  match copy with
  | none => 3
  | some img =>
    if code = 3 then 3
    else if img.no ≠ sw ∨ img.member ≠ member then 2
    else if img.fw ≠ s.sec.fw then 6
    else code

/-- Whether a copy that is the ordered one fails by the digest of a segment. -/
def digestFails (s : State) (sw member code : Nat) (copy : Option SwatchImage) : Bool :=
  decide (code = 2) && copy.any fun img => decide (img.no = sw ∧ img.member = member ∧ img.fw = s.sec.fw)

/-- A restore on this device: the ordered copy, then the host copy if there is one and the source was not the host already. -/
def restoreFrom (s : State) (sw member source code extCode : Nat) (ordered host : Option SwatchImage) : State × Nat :=
  let s1 := quietFabric s
  let r1 := copyCheck s sw member code ordered
  let bad (t : State) (c : Nat) (copy : Option SwatchImage) : State :=
    (t.count 0 (hubPage + 0x2D8) (flag (digestFails s sw member c copy))).count 0 (secPage + 0x50) (flag (c = 3 && copy.isSome))
  if r1 = 0 then ((match ordered with
    | some img => applyImage s1 img
    | none => s1), 0)
  else
    let s2 := bad (loseAll s1) code ordered
    if source = 2 ∨ host.isNone then (s2, r1)
    else
      let r2 := copyCheck s sw member extCode host
      if r2 = 0 then ((match host with
        | some img => applyImage s2 img
        | none => s2), 0)
      else (bad (loseAll s2) extCode host, r2)

/-- The local copy of a swatch. -/
def localCopy (s : State) (sw : Nat) : Option SwatchImage :=
  s.swatch.slots.findSome? fun t => match t.image with
    | some img => if img.no = sw then some img else none
    | none => none

/-- RESUME of the manager on a member: HUB_SWT_LAST, rings and held flits (R285, R293, R298). -/
def takeResume (s : State) (n last : Nat) : State :=
  let s1 := if last = 0 then s else { s with flash := { s.flash with swtLast := last } }
  let s2 := { s1 with swatch := { s1.swatch with job := none, waits := false }, pack := { s1.pack with lostX := none } }
  resumeLocal (if swtState s2 = 1 ∨ swtState s2 = 2 then setSwt s2 0 (swtResult s2) else s2) n

/-! ## Restore, fill and second failures on the manager (R297, R300, R301) -/

/-- Hops between two members on the routes of the manager; where it knows none, more than any, by a free value (R282). -/
def hopsTo (s : State) (a b : Nat) : Nat :=
  match routeHops s.pack.links (ownMember s) a b with
  | some h => h
  | none => 1024 + Config.hops (packEpoch s) a b

/-- The swatch partner of each member is paired anew (R282). -/
def pairOne (s : State) (m feed : Nat) : Nat × Bool :=
  let own := (ownMember s, s.fld 0 (packPage + 0x10C) 3 0)
  let all := (own :: s.pack.members.map fun p => (p.1, p.2.feed)).filter fun c => decide (c.1 ≠ m)
  let good := all.filter fun c => decide (feed ≠ 0xF ∧ c.2 ≠ 0xF ∧ c.2 ≠ feed)
  let near (a b : Nat) : Bool :=
    let ha := hopsTo s m a
    let hb := hopsTo s m b
    decide (ha < hb ∨ (ha = hb ∧ a < b))
  let pick (cs : List (Nat × Nat)) : Option Nat := cs.foldl (fun best c => match best with
    | none => some c.1
    | some b => if near c.1 b then some c.1 else some b) none
  match pick good with
  | some c => (c, false)
  | none => match pick all with
    | some c => (c, true)
    | none => (1024, false)

/-- This device's own pairing shown in PLK_PARTNER and LDG_STATUS (R262, R282, R288). -/
def setPartner (s : State) (partner : Nat) (coFed : Bool) : State :=
  let v := if 1024 ≤ partner then 0 else flag coFed * 2 ^ 31 + 2 ^ 30 + partner
  (s.setReg 0 (packPage + 0x110) v).setFld 0 (ldgPage + 0x104) 26 26 (flag (coFed && decide (partner < 1024)))

/-- The manager repeats the pairing. -/
def pairAll (s : State) : State :=
  let ms := s.pack.members.map fun p =>
    let c := pairOne s p.1 p.2.feed
    (p.1, { p.2 with partner := c.1, coFed := c.2 })
  let own := pairOne s (ownMember s) (s.fld 0 (packPage + 0x10C) 3 0)
  setPartner { s with pack := { s.pack with members := ms } } own.1 own.2

/-- The manager increments the epoch (R277), computes the routes anew (R279) and repeats the pairing (R282). -/
def nextEpoch (s : State) : State := pairAll (sendRoutes (s.setReg 0 (packPage + 0x104) (add32 (packEpoch s) 1)))

/-- The manager orders a restore: the epoch rises, a stop holds the pack, and RESTORE goes to every member but one. -/
def orderRestore (s : State) (sw source skip : Nat) : State :=
  let s1 := nextEpoch s
  let s2 := if s1.pack.stopNo.isNone then startStop s1 else s1
  let w := { s2.swatch with ordered := some (sw, source), restoreStop := stopNumber s2, restoredBy := [] }
  let s3 := swatchEvent (setSwt { s2 with swatch := w } (if s2.swatch.fill.isSome then 3 else 2) 0) 3 sw (ownMember s) 0
  (s3.pack.members.filter fun p => decide (p.1 ≠ skip)).foldl (fun t p => sendMsg t .restore p.1 [sw, source]) s3

/-- UNRECOVERABLE: every member stays stopped. -/
def unrecoverable (s : State) : State :=
  let s1 := { s with swatch := { s.swatch with fill := none, fillQueue := [], ordered := none, owed := false } }
  setSwt (swatchEvent s1 11 (s.flash.swtDurable) (ownMember s) 8) 4 8

/-- The pack falls back to the durable checkpoint (R301). -/
def fallBack (s : State) : State :=
  if s.flash.swtDurable = 0 then unrecoverable s
  else
    let s1 := { s with swatch := { s.swatch with fill := none, fillQueue := [], owed := false } }
    orderRestore (swatchEvent (s1.count 0 (hubPage + 0x2D0) 1) 9 s.flash.swtDurable (ownMember s) 0) s.flash.swtDurable 2 1024

/-- The lowest-numbered spare. -/
def firstSpare (s : State) : Option (Nat × Member) := s.pack.members.find? fun p => p.2.spare

/-- Recovery from the loss of a member: the lowest-numbered spare takes its number and is filled from its partner while the
others restore, or there is no spare (R300). `p` is the lost member's partner, 1,024 where the host copy serves. -/
def beginRecovery (s : State) (x p : Nat) : State :=
  let sw := s.flash.swtLast
  match firstSpare s with
  | none =>
    let s1 := orderRestore (swatchEvent s 10 sw x 7) sw 0 1024
    setSwt s1 (swtState s1) 7
  | some (k, m) =>
    let ms := mput (mdel s.pack.members k) x { m with spare := false }
    let heard := mset (mdel s.pack.heard k) x s.hubUs 0
    let s1 := sendMsg { s with swatch := { s.swatch with fill := some ⟨x, k, p⟩ } } .fill k [x, sw, p]
    let s2 := renameLinks { s1 with pack := { s1.pack with members := ms, heard := heard } } k x
    orderRestore (swatchEvent s2 5 sw x 0) sw 0 x

/-- A member has been lost: a capture fails, FAILS and the interval follow, and recovery starts, is queued or falls back
(R294, R295, R300, R301). `partner` is the one it had; it has a host copy where HOST says so, or where it was co-fed (R282). -/
def swatchLoss (s : State) (y partner : Nat) (coFed : Bool) : State :=
  let s1 := updateInterval ((captureFails s 5).count 0 (hubPage + 0x270) 1)
  let sw := s.flash.swtLast
  match s1.swatch.fill with
  | none => beginRecovery s1 y partner
  | some j =>
    if y = j.partner then fallBack (swatchEvent { s1 with swatch := { s1.swatch with fill := none } } 7 sw j.x 5)
    else if y = j.x then beginRecovery { s1 with swatch := { s1.swatch with fill := none } } j.x j.partner
    else if partner = j.x then (if swtHost s1 || coFed then beginRecovery s1 y 1024 else fallBack s1)
    else
      swatchEvent { s1 with swatch := { s1.swatch with fillQueue := s1.swatch.fillQueue ++ [(y, partner)] } } 8 sw y 0

/-- Every member has restored: the pack resumes; a fill is complete and a capture follows at once; without a spare the pack
stays stopped (R298, R300). -/
def restoreDone (s : State) : State :=
  let s1 := { s with swatch := { s.swatch with ordered := none } }
  match s1.swatch.fill with
  | some j =>
    let s2 := swatchEvent (s1.count 0 (hubPage + 0x2C8) 1) 6 s.flash.swtLast j.x 0
    startCapture (sendResume (setSwt { s2 with swatch := { s2.swatch with owed := true } } 0 0) 0)
  | none => if swtResult s1 = 7 then setSwt s1 4 7 else sendResume (setSwt s1 0 0) 0

/-- RESTORED of a member. -/
def noteRestored (s : State) (m sw result : Nat) : State :=
  match s.swatch.ordered with
  | none => s
  | some (t, source) =>
    if t ≠ sw then s
    else
      let s1 := swatchEvent s 4 sw m result
      if result = 0 then
        let s2 := { s1 with swatch := { s1.swatch with restoredBy := putRising m s1.swatch.restoredBy } }
        if (ownMember s2 :: s2.pack.members.map Prod.fst).all fun k => decide (k ∈ s2.swatch.restoredBy) then restoreDone s2
        else s2
      else if source = 2 then unrecoverable s1
      else fallBack s1

/-- After a capture that a fill owed, the next queued fill starts. -/
def nextFill (s : State) : State :=
  if s.swatch.owed then
    let s1 := { s with swatch := { s.swatch with owed := false, fill := none } }
    match s1.swatch.fillQueue with
    | [] => s1
    | (y, p) :: r => beginRecovery { s1 with swatch := { s1.swatch with fillQueue := r } } y p
  else s

/-- SWATCH_DONE of a member: a result other than OK fails the capture, and the last one completes it. -/
def noteDone (s : State) (m sw result : Nat) : State :=
  if s.swatch.capS ≠ some sw then s
  else if result ≠ 0 then captureFails s result
  else
    let ds := putRising m s.swatch.dones
    let s1 := { s with swatch := { s.swatch with dones := ds } }
    if (ownMember s :: s.pack.members.map Prod.fst).all fun k => decide (k ∈ ds) then nextFill (captureDone s1 sw) else s1

/-- RESTORED is reported: to the manager, or noted on it. -/
def reportRestored (s : State) (sw result : Nat) : State :=
  let s1 := if result = 0 then s.count 0 (hubPage + 0x2C0) 1 else s
  let s2 := { s1 with swatch := { s1.swatch with waits := true } }
  if packRole s = 3 then noteRestored s2 (ownMember s) sw result
  else sendMsg (setSwt s2 2 result) .restored (packManager s) [sw, result]

/-- HUB_SWT_CTRL written: CAPTURE and RESTORE_HOST have passed their key check; both act on the manager alone. DESIGN CHOICE (log
entry 104): RESTORE_HOST first fails a capture in progress, as a loss does. -/
def writeSwtCtrl (s : State) (v : Nat) : State :=
  let s1 := s.setReg 0 (hubPage + 0x240) (bits v 30 29 * 2 ^ 29)
  let s2 := if bit v 27 then rateReset s1 else s1
  let s3 := if bit v 28 ∧ packRole s = 3 then fallBack (captureFails s2 0) else s2
  if bit v 31 then startCapture s3 else s3

/-- HUB_SWT_DURABLE written: the manager keeps it in flash (R296). -/
def writeDurable (s : State) (v : Nat) : State :=
  if packRole s = 3 then { s with flash := { s.flash with swtDurable := v % 2 ^ 64 } } else s

/-! ## Commands -/

/-- SWATCH_INTERVAL_TIMER. -/
def execSwatchIntervalTimer (s : State) : Res :=
  .next (if swtAuto s ∧ s.reg 0 (hubPage + 0x254) * 1000000 ≤ s.hubUs - s.swatch.lastUs then startCapture s else s)

/-- A member at its cut takes SWATCH(n, S). -/
def doSwatch (n sw bytes : Nat) (s : State) : State :=
  if s.pack.stopNo = some n ∧ s.pack.cutSent ∧ s.swatch.job.isNone then
    match beginSwatch s n sw bytes with
    | (t, none) => t
    | (t, some result) => if packRole t = 3 then noteDone t (ownMember t) sw result else reportDone t sw result
  else s

/-- SWATCH: a message of the manager, or on the manager itself its own part. -/
def execSwatch (src epoch mseq n sw bytes : Nat) (s : State) : Res :=
  onUnit (decide (src < 1024)) (if packRole s = 3 then
      (if src = ownMember s ∧ s.swatch.capS = some sw ∧ s.swatch.capStep2Us.isSome then doSwatch n sw bytes s else s)
    else if fromManager s src then manageMsg s src epoch mseq (doSwatch n sw bytes) else s)

/-- Whether the host copy of a swatch waits, because PF0 cannot write host memory (R320, R322); a co-fed member writes one too
(R282). -/
def hostCopyWaits (s : State) : Bool :=
  (swtHost s || decide (s.fld 0 (packPage + 0x110) 31 31 = 1)) && ((s.fn 0).d3hot || (s.fn 0).draining)

/-- SWATCH_COPY_DONE: orders 5 and 6. -/
def execSwatchCopyDone (result : Nat) (s : State) : Res :=
  .next (match s.swatch.job with
    | none => s
    | some j =>
      if decide (result = 0) && hostCopyWaits s then s else
      let s1 := { s with swatch := { s.swatch with job := none } }
      let s2 := if result = 0 then
          ((setSlot s1 j.slot (some j.image)).hbmStore j.slot j.manifest Who.none none).count 0 (secPage + 0x48) 1 else s1
      if packRole s2 = 3 then noteDone s2 (ownMember s2) j.no result
      else reportDone (setSwt s2 0 result) j.no result)

/-- SWATCH_DONE. -/
def execSwatchDone (src epoch mseq sw result : Nat) (s : State) : Res :=
  onUnit (decide (src < 1024)) (if packRole s = 3 then manageMsg s src epoch mseq (fun t => noteDone t src sw result) else s)

/-- SWATCH_CAP_LIMIT: CAP_LIMIT seconds after order 2. -/
def execSwatchCapLimit (s : State) : Res :=
  .next (match s.swatch.capStep2Us with
    | none => s
    | some t =>
      if max 1 (s.fld 0 (hubPage + 0x250) 15 0) * 1000000 ≤ s.hubUs - t then captureFails s 4 else s)

/-- A member takes RESTORE(S, source). -/
def doRestore (sw source check extCheck : Nat) (ext : Option SwatchImage) (s : State) : State :=
  let ordered := if source = 0 then localCopy s sw else ext
  let host := if source = 0 then ext else none
  let (t, result) := restoreFrom s sw (ownMember s) source check extCheck ordered host
  reportRestored t sw result

/-- RESTORE: a message of the manager, or on the manager itself its own part. -/
def execRestore (src epoch mseq sw source check extCheck : Nat) (ext : Option SwatchImage) (s : State) : Res :=
  onUnit (decide (src < 1024)) (if packRole s = 3 then
      (if src = ownMember s ∧ s.swatch.ordered = some (sw, source) ∧ ownMember s ∉ s.swatch.restoredBy then
        doRestore sw source check extCheck ext s else s)
    else if fromManager s src then manageMsg s src epoch mseq (doRestore sw source check extCheck ext) else s)

/-- RESTORED. -/
def execRestored (src epoch mseq sw result : Nat) (s : State) : Res :=
  onUnit (decide (src < 1024)) (if packRole s = 3 then manageMsg s src epoch mseq (fun t => noteRestored t src sw result) else s)

/-- A spare takes FILL(x, S, p): it becomes member x and restores from the copy in p's slot, then from the host copy if there is one;
with p = 1,024 from the host copy alone (R297, R300, R301). -/
def doFill (x sw p : Nat) (check : Nat × Nat) (ext : Option SwatchImage × Option SwatchImage) (s : State) : State :=
  let s1 := s.setFld 0 (packPage + 0x100) 9 0 x
  let (t, result) := if p = 1024 then restoreFrom s1 sw x 2 check.2 check.2 ext.2 none
    else restoreFrom s1 sw x 1 check.1 check.2 ext.1 ext.2
  reportRestored t sw result

/-- FILL. -/
def execFill (src epoch mseq x sw p : Nat) (check : Nat × Nat) (ext : Option SwatchImage × Option SwatchImage) (s : State) : Res :=
  onUnit (decide (src < 1024 ∧ x < 1024 ∧ p < 1025))
    (if fromManager s src then manageMsg s src epoch mseq (doFill x sw p check ext) else s)

end Sys2Proof.Machine
end

