-- ==== Sys2Proof/Machine/Watchdog.lean ====
section
/-! DEFINITION. Sys2Proof/Machine/Watchdog.lean: the watchdog of a ring (R177 to R179, R258), and breaks of sync objects that
come from another member. -/

namespace Sys2Proof.Machine

open Sys2Proof

/-- Microseconds of a ring's watchdog: 0 acts as 1 ms, above 60,000 as 60,000 (R122). -/
def watchdogUs (R : Ring) : Nat := 1000 * min (max R.wdogMs 1) 60000

/-- A blocked entry's object breaks with CAUSE 1: here, or at the manager, to which the break is sent while the entry itself is
released, its result words as its arrival left them (R171, R178). -/
def watchdogBreak (s : State) (r q o : Nat) (pack : Bool) (w : EntryWait) : State :=
  if pack ∧ packRole s ≠ 3 then
    let (a, b) := waiterRes s r q w
    sendMsg (finishEntry (freeMirrors (forgetWaiter s r q)) r q 5 a b 0) .signal (packManager s) [5, o, r, r, q]
  else breakAll s o 1 (ownMember s) r

/-- The command that a Loom's panel runs for a ring completes WATCHDOG with the rest of its stream, which is discarded; the panel
is idle again (R178). -/
def watchdogPanel (s : State) (r : Nat) : State :=
  match panelOfRing s r with
  | none => s
  | some p =>
    if (s.panel p).cmds = [] then s
    else
      let s1 := endStream s p 4
      s1.setPanel p { s1.panel p with state := .idle }

/-- The descriptor of an entry: one that waits breaks the counter it waits on, another stops issuing and completes WATCHDOG
once its requests in flight have landed (R178). -/
def watchdogDesc (s : State) (r n : Nat) (d : Desc) : State :=
  if d.waiting then breakAll s (slotSync s d) 1 (ownMember s) r else settle (putDesc s n { d with cut := some 4 })

/-- Whether a descriptor's watchdog is due: it has waited, or none of its requests has landed, for the ring's time; it has not
been cut already (R177). -/
def descOverdue (s : State) (r : Nat) (d : Desc) : Bool :=
  d.cut.isNone && !d.landed && decide (watchdogUs (s.ring r) ≤ d.stillUs)

/-- The watchdog of a ring fires on an entry that is no descriptor: its oldest one that has not completed. -/
def watchdogEntry (s : State) (r : Nat) (f : Flight) : State :=
  match f.wait with
  | .counter o _ pack => watchdogBreak s r f.seq o pack f.wait
  | .barrier o _ pack => watchdogBreak s r f.seq o pack f.wait
  | .remote o => if entryOp f.bytes = 3 ∧ arriveWaits f.bytes then watchdogBreak s r f.seq o true f.wait else s
  | .ledger => finishEntry s r f.seq 4 0 0 0
  | .flush _ _ _ => s
  | .drain => s
  | .running => if (s.ring r).server = 1 then watchdogPanel s r else s

/-- The watchdog of a ring fires: on a descriptor of its own that is overdue, or on its oldest entry where that has waited so
long (R177, R178). -/
def watchdogFires (s : State) (r : Nat) : State :=
  let R := s.ring r
  match (ringDescs s r).find? fun p => descOverdue s r p.2 with
  | some (n, d) => watchdogDesc s r n d
  | none =>
    if watchdogUs R ≤ R.wdogUs then
      match R.fly.find? fun f => !f.isDone with
      | none => s
      | some f => watchdogEntry s r f
    else s

/-- QUEUE_WATCHDOG: a condition of a ring has held for WDOG_MS. -/
def execQueueWatchdog (r : Nat) (s : State) : Res := onUnit (decide (r < 65536)) (watchdogFires s r)

/-- A break that another member's watchdog has sent to the manager (R178). -/
def packBreak (s : State) (src mseq o ring : Nat) : State :=
  if packRole s ≠ 3 then s
  else match firstTime (syncCount s 0x70 1) src mseq with
    | none => duplicate s src mseq
    | some t => ackMsg (breakAll t o 1 src ring) src mseq 0 0 0

/-- PACK_SYNC_OP. -/
def execPackSyncOp (src mseq op o arg _ring : Nat) (s : State) : Res :=
  onUnit (decide (src < 1024 ∧ o < 65536))
    (if op = 5 then packBreak s src mseq o arg else packSyncAct s src mseq op o arg)

/-- Whether an entry of a ring waits in a way that its watchdog times, apart from descriptors (R177). -/
def watchdogRuns (s : State) (r : Nat) (R : Ring) : Bool :=
  (R.holds.all fun h => decide (h = .wedge)) && match R.fly.find? fun f => !f.isDone with
    | none => false
    | some f => match f.wait with
      | .counter _ _ _ => true
      | .barrier _ _ _ => true
      | .remote _ => true
      | .ledger => true
      | .flush _ _ _ => false
      | .drain => false
      | .running => (panelOfRing s r).isSome

/-- A microsecond of the hub timer at the rings' watchdogs; a watchdog pauses while its ring is held for a stop or in D3hot
(R284, R322). -/
def watchdogTick (s : State) : State :=
  { s with rings := s.rings.map fun p => if watchdogRuns s p.1 p.2 then (p.1, { p.2 with wdogUs := p.2.wdogUs + 1 }) else p }

end Sys2Proof.Machine
end

