-- ==== Sys2Proof/Machine/Pack.lean ====
section
/-! DEFINITION. Sys2Proof/Machine/Pack.lean: flits and messages as they arrive, members, heartbeats, takeover, joining, routes,
the loss scale, peer memory and stops (R93, R263 to R288). -/

namespace Sys2Proof.Machine

open Sys2Proof

/-! ## Flits (R265, R266) -/

/-- A flit that a port receives. -/
def takeFlit (s : State) (p : Nat) (f : PortFlit) (crc : Nat) : State :=
  if !portIsUp s p then s
  else if crc ≠ flitCrc f then sendNak (s.count 0 (portPage p + 0x50) 1) p
  else
    let s1 := goodFlit s p f.ack
    let a := portPage p + 0x104
    if f.type = 0 then
      let s2 := ((goodCredits s1 p f.cvc f.credits).setFld 0 a 25 16 (field f.payload 0 2)).setFld 0 a 13 8 (field f.payload 2 1)
      if f.seq = (s2.port p).rxSeq then s2 else sendNak s2 p
    else if f.type = 2 then takeNak (goodCredits s1 p f.cvc f.credits) p f.ack
    else if f.type = 1 ∨ f.type = 3 then
      match acceptSeq s1 p f.seq with
      | none => sendNak s1 p
      | some t0 =>
        let t := goodCredits t0 p f.cvc f.credits
        if f.type = 1 then takeData t p f else afterCut (takeMarker t p (field f.payload 0 2) f)
    else s1

/-- Codewords that a port's decoder has corrected, and found uncorrectable, while it is up (R263, R287). -/
def fecCodewords (s : State) (p corrected uncorrectable : Nat) : State :=
  if portIsUp s p then (s.count 0 (portPage p + 0x60) corrected).count 0 (portPage p + 0x68) uncorrectable else s

/-- FLIT_RECEIVE. -/
def execFlitReceive (p type vc seq ack cvc credits corrected uncorrectable : Nat) (payload : List Byte) (crc : Nat)
    (s : State) : Res :=
  onUnit (decide (p < 64)) (takeFlit (fecCodewords s p corrected uncorrectable) p
    ⟨type % 8, vc % 4, seq % 1024, ack % 1024, cvc % 4, credits % 32, payload⟩ crc)

/-- NAK. -/
def execNak (p ack : Nat) (s : State) : Res :=
  onUnit (decide (p < 64)) (if portIsUp s p then takeNak (goodFlit s p (ack % 1024)) p (ack % 1024) else s)

/-- The ACK that leaves a port's replay buffer as it stands. -/
def ackNone (P : Port) : Nat :=
  match P.replay with
  | [] => P.txSeq
  | f :: _ => f.1.seq

/-- STOP_MARKER: the next flit of its port, with a good CRC, an ACK that passes nothing and no credits. -/
def execStopMarker (p n epoch src : Nat) (s : State) : Res :=
  let f : PortFlit := ⟨3, 0, (s.port p).rxSeq, ackNone (s.port p), 0, 0, leBytes 2 n ++ leBytes 4 epoch ++ leBytes 2 src⟩
  onUnit (decide (p < 64)) (takeFlit s p f (flitCrc f))

/-- A port has gone down: it counts as marked in a stop (R285). -/
def afterPortDown (s : State) : State := afterCut (stopProgress s)

/-- LIVENESS_TIMEOUT. -/
def execLivenessTimeout (p : Nat) (s : State) : Res := onUnit (decide (p < 64)) (afterPortDown (livenessEnds s p))

/-- FEC_LOCK_LOST. -/
def execFecLockLost (p : Nat) (s : State) : Res := onUnit (decide (p < 64)) (afterPortDown (portGoesDown s p 0xA))

/-- REPLAY_FULL_TIMEOUT. -/
def execReplayFullTimeout (p : Nat) (s : State) : Res := onUnit (decide (p < 64)) (afterPortDown (replayEnds s p))

/-! ## Roles (R271) -/

/-- ROLE and MEMBER of PLK_PACK_ID. -/
def setRole (s : State) (role : Nat) : State := s.setFld 0 (packPage + 0x100) 31 30 role
def setMember (s : State) (m : Nat) : State := s.setFld 0 (packPage + 0x100) 9 0 m
def setManager (s : State) (m : Nat) : State := s.setFld 0 (packPage + 0x108) 25 16 m

/-- Hub time at which a member's heartbeat was last heard. -/
def heardAt (s : State) (m : Nat) : Nat := mget s.pack.heard m 0

/-- A member heard now. -/
def hear (s : State) (m : Nat) : State := { s with pack := { s.pack with heard := mset s.pack.heard m s.hubUs 0 } }

/-- The device becomes isolated, and keeps its state (R274). -/
def isolate (s : State) : State :=
  startPeriod (setRole { s with pack := { s.pack with mgrLost := false, claim := none, members := [], accepts := [], links := [] } } 0)
    joinTimer 0

/-! ## Heartbeats and losses (R272, R273, R176) -/

/-- Every pending pack-scope entry completes PEER_LOST, which stops its ring (R176). -/
def losePackEntries (s : State) : State :=
  let s1 := s.rings.foldl (fun t p => ((s.ring p.1).fly.filter fun f =>
      !f.isDone && entryScope f.bytes && decide (1 ≤ entryOp f.bytes ∧ entryOp f.bytes ≤ 3)).foldl
    (fun u f =>
      let (a, b) := waiterRes u p.1 f.seq f.wait
      finishEntry (forgetWaiter u p.1 f.seq) p.1 f.seq 0xA a b 0) t) s
  { s1 with mirrors := [], mirrorWait := [], pack := { s1.pack with
      unacked := s1.pack.unacked.filter fun m => !decide (m.kind = .signal ∨ m.kind = .arrive ∨ m.kind = .subscribe) } }

/-- A worker declares its manager lost; the standby claims the pack with the next epoch (R274). -/
def loseManager (s : State) : State :=
  let s1 := losePackEntries (s.count 0 (packPage + 0x50) 1)
  let s2 := { s1 with pack := { s1.pack with mgrLost := true, claimUs := s.hubUs } }
  if packRole s = 2 then
    let e := add32 (packEpoch s) 1
    let s3 := { s2 with pack := { s2.pack with claim := some e, accepts := [ownMember s] } }
    (otherMembers s3).foldl (fun t m => sendMsg t .takeover m [e]) s3
  else s2

/-- Pending requests to a member complete PEER_LOST, and an error event goes to the host (R273). -/
def heedLoss (s : State) (x : Nat) : State := errEvent (failPeers s (fun _ d _ => decide (descPeer d.bytes = x)) 0xA) 0

/-- A member leaves the list of members that this device was told of; its recovery is under way until the pack resumes. -/
def leaveRoster (s : State) (x : Nat) : State :=
  { s with pack := { s.pack with roster := s.pack.roster.filter (· ≠ x), lostX := some x } }

/-- The manager declares a member lost (R273): it leaves the pack and its links the map, the epoch rises and the routes are computed
anew, LOST goes to every member, a stop goes on without it, and recovery begins. -/
def declareLost (s : State) (x : Nat) : State :=
  match s.pack.members.find? fun p => p.1 == x with
  | none => s
  | some (_, m) =>
    let gone := (m.serial, x, m.since, packEpoch s)
    let s1 := { s with pack := { s.pack with
      members := mdel s.pack.members x, heard := mdel s.pack.heard x, former := s.pack.former ++ [gone]
      unacked := s.pack.unacked.filter fun k => decide (k.dst ≠ x) } }
    let s2 := nextEpoch (dropLinks (s1.count 0 (packPage + 0x50) 1) x)
    let s3 := heedLoss (sendEvery s2 .lost [x]) x
    let s4 := if stopState s3 = 1 ∨ stopState s3 = 2 then packCut (s3.setFld 0 (packPage + 0x118) 29 29 1) else s3
    swatchLoss s4 x m.partner m.coFed

/-- Ten microseconds without a heartbeat (R272). -/
def memberSilent (s : State) (m : Nat) : Bool := decide (10 ≤ s.hubUs - heardAt s m)

/-- MEMBER_LOST. -/
def execMemberLost (m : Nat) (s : State) : Res :=
  onUnit (decide (m < 1024)) (if !memberSilent s m then s
    else if packRole s = 3 then declareLost s m
    else if (packRole s = 1 ∨ packRole s = 2) ∧ m = packManager s ∧ !s.pack.mgrLost then loseManager s
    else s)

/-- The standby that this device names as manager, 1,024 for none. -/
def namedStandby (s : State) : Nat := if s.fld 0 (packPage + 0x108) 15 15 = 1 then s.fld 0 (packPage + 0x108) 9 0 else 1024

/-- HEARTBEAT_TIMER: a worker's goes to the manager; the manager's goes to every member, down the tree of the routes, on which the
members forward it (R272, log entry 92), and names the standby (R271, log entry 93). -/
def execHeartbeatTimer (s : State) : Res :=
  .next (if packRole s = 0 then s else repeatAfter s packTimer 2 fun t =>
    if packRole t = 3 then sendEvery t .heartbeat [namedStandby t] else sendMsg t .heartbeat (packManager t) [])

/-- A member learns which member is the standby: itself, or another (R271, R288). -/
def learnStandby (s : State) (sb : Nat) : State :=
  let a := packPage + 0x108
  let s1 := (s.setFld 0 a 15 15 (flag (decide (sb < 1024)))).setFld 0 a 9 0 (if sb < 1024 then sb else 0)
  setRole s1 (if sb = ownMember s then 2 else 1)

/-- HEARTBEAT: the sender is heard, and the manager's names the standby. -/
def execHeartbeat (src : Nat × Nat) (epoch mseq : Nat) (s : State) : Res :=
  onUnit (decide (src.1 < 1024)) (if packRole s = 0 then s else manageMsg s src.1 epoch mseq fun t =>
    if fromManager t src.1 then learnStandby (hear t src.1) src.2 else hear t src.1)

/-- LOST. -/
def execLost (src epoch mseq m : Nat) (s : State) : Res :=
  onUnit (decide (src < 1024 ∧ m < 1024))
    (if fromManager s src then manageMsg s src epoch mseq fun t => heedLoss (leaveRoster t m) m else s)

/-- PORT_DOWN_MSG: the manager takes it, and computes the routes anew without the link (R270, R279). -/
def execPortDownMsg (src epoch mseq port : Nat) (s : State) : Res :=
  onUnit (decide (src < 1024 ∧ port < 64))
    (if packRole s = 3 then manageMsg s src epoch mseq fun t => sendRoutes (dropLink t src port) else s)

/-! ## Takeover (R274, R275) -/

/-- A worker that has itself declared its manager lost takes the standby as manager. -/
def acceptTakeover (s : State) (src epoch : Nat) : State :=
  let s1 := setManager (s.setReg 0 (packPage + 0x104) (epoch % 2 ^ 32)) src
  let s2 := setRole ((s1.setFld 0 (packPage + 0x108) 15 15 0).setFld 0 (packPage + 0x108) 9 0 0) 1
  sendMsg (hear { s2 with pack := { s2.pack with mgrLost := false } } src) .takeoverAccept src []

/-- TAKEOVER. -/
def execTakeover (src epoch mseq : Nat) (s : State) : Res :=
  onUnit (decide (src < 1024)) (if packRole s = 0 then s else manageMsg s src epoch mseq fun t =>
    if packRole t = 1 ∧ t.pack.mgrLost then acceptTakeover t src epoch else sendMsg t .takeoverRefuse src [])

/-- An object broken with CAUSE 2, also where it is broken already (R275). -/
def breakAnew (s : State) (o : Nat) : State :=
  let x := s.obj o
  if x.broken then s.setObj o { x with cause := 2, breakerMember := ownMember s, breakerRing := 0 }
  else breakAll s o 2 (ownMember s) 0

/-- The new manager sets every pack object broken with CAUSE 2. -/
def breakPackObjects (s : State) : State := ((s.sync.map Prod.fst).filter fun o => (s.obj o).pack).foldl breakAnew s

/-- What the new manager knows of a member of the old epoch: its serial number, rack, feed and whether it is a spare were
published or told to the old manager (R276, R281), but no message of the manual carries them to the standby. -/
def inherited (s : State) (m : Nat) : Member :=
  { serial := Config.freeNat s.freeCtr m % 2 ^ 64, rack := Config.freeNat (s.freeCtr + 1) m % 2 ^ 16
    feed := Config.freeNat (s.freeCtr + 2) m % 16, partner := 1024, coFed := false
    spare := decide (Config.freeNat (s.freeCtr + 3) m % 2 = 1), since := 0 }

/-- The standby becomes manager with the epoch it claimed. A stop under way fails, and the recovery of a lost member starts anew
(R286, R301); its partner is one of the old manager's pairs. It knows no link of the pack yet, so that the routes stand. -/
def becomeManager (s : State) (e : Nat) : State :=
  let old := packManager s
  let others := (otherMembers s).filter fun m => decide (m ≠ old)
  let ms := others.map fun m => (m, inherited s m)
  let heard := others.map fun m => (m, s.hubUs)
  let s1 := { s with freeCtr := s.freeCtr + 5, pack := { s.pack with
    members := ms, heard := heard.filter fun p => decide (p.2 ≠ 0), mgrLost := false, claim := none, accepts := []
    links := [], roster := (otherMembers s).filter (· ≠ old) } }
  let s2 := setManager (setRole (s1.setReg 0 (packPage + 0x104) e) 3) (ownMember s)
  let s3 := (s2.setFld 0 (packPage + 0x108) 15 15 0).setFld 0 (packPage + 0x108) 9 0 0
  let s4 := breakPackObjects (pairAll (s3.count 0 (packPage + 0x58) 1))
  let s5 := if s4.pack.stopNo.isSome then failStop s4 else s4
  match s.pack.lostX with
  | some x => beginRecovery s5 x (Config.freeNat (s.freeCtr + 4) x % 1025)
  | none => s5

/-- An ACCEPT is counted; more than half of the members of the old epoch make the standby manager. -/
def countAccept (s : State) (src : Nat) : State :=
  match s.pack.claim with
  | none => s
  | some e =>
    let as := putRising src s.pack.accepts
    let s1 := { s with pack := { s.pack with accepts := as } }
    if (otherMembers s).length + 1 < 2 * as.length then becomeManager s1 e else s1

/-- TAKEOVER_ACCEPT. -/
def execTakeoverAccept (src epoch mseq : Nat) (s : State) : Res :=
  onUnit (decide (src < 1024)) (if packRole s = 0 then s else manageMsg s src epoch mseq fun t => countAccept t src)

/-- TAKEOVER_REFUSE. -/
def execTakeoverRefuse (src epoch mseq : Nat) (s : State) : Res :=
  onUnit (decide (src < 1024)) (if packRole s = 0 then s else manageMsg s src epoch mseq id)

/-- TAKEOVER_TIMEOUT: 1 ms with no majority, or with neither manager. -/
def execTakeoverTimeout (s : State) : Res :=
  .next (if s.pack.mgrLost ∧ 1000 ≤ s.hubUs - s.pack.claimUs then isolate s else s)

/-- MANAGER_STEP_DOWN: for 10 µs heartbeats have come from no more than half of the members, this one counted. -/
def execManagerStepDown (s : State) : Res :=
  .next (
    let alive := 1 + (s.pack.members.filter fun p => !memberSilent s p.1).length
    if packRole s = 3 ∧ 2 * alive ≤ s.pack.members.length + 1 then isolate s else s)

/-! ## Joining (R276) -/

/-- What a JOIN carries: serial number, last epoch, firmware version, FEED and RACK, then the firmware digest, the
configuration's digest, and the evidence with the certificates. -/
def joinArgs (s : State) : List Nat :=
  let nonce := (span 0 32).map (Config.freeByte s.freeCtr)
  [serialOf s, packEpoch s, s.sec.version, s.fld 0 (packPage + 0x10C) 3 0, s.fld 0 (packPage + 0x10C) 31 16] ++
    (fit 64 s.sec.fw ++ hash Config.packConfig ++ signedEvidence s nonce ++ certificates s).map BitVec.toNat

/-- A JOIN is sent to the manager that the configuration names; it takes the place of one that has not been answered. -/
def sendJoin (s : State) : State :=
  let a := packPage + 0x128
  let s1 := (s.setFld 0 a 23 0 (s.fld 0 a 23 0 + 1)).count 0 (secPage + 0x48) 1
  let un := s1.pack.unacked.filter fun m => decide (m.kind ≠ .join)
  sendMsg { s1.fresh with pack := { s1.pack with unacked := un } } .join (Config.packManager % 1024) (joinArgs s)

/-- JOIN_RETRY: an isolated device joins at the pack-join step, and repeats its JOIN every 10 ms. -/
def execJoinRetry (s : State) : Res :=
  .next (if packRole s = 0 ∧ (s.start.state = 1 ∨ s.start.step = 10) ∧ !s.start.asserted then
    repeatAfter s joinTimer 10000 sendJoin else s)

/-- Whether a device was a member at an epoch. -/
def wasMember (s : State) (serial e : Nat) : Bool :=
  (s.pack.members.any fun p => decide (p.2.serial = serial ∧ p.2.since ≤ e)) ||
    s.pack.former.any fun f => decide (f.1 = serial ∧ f.2.2.1 ≤ e ∧ e ≤ f.2.2.2)

/-- The code of a JOIN_REPLY. -/
def joinCode (s : State) (serial devEpoch : Nat) (evidence version : Bool) (config : List Byte) : Nat :=
  if !evidence then 1
  else if !version then 2
  else if config ≠ hash Config.packConfig then 3
  else if 1024 ≤ s.pack.members.length + 1 then 4
  else if packEpoch s < devEpoch then 5
  else if devEpoch ≠ 0 ∧ devEpoch < packEpoch s ∧ wasMember s serial devEpoch then 6
  else 0

/-- The number of a device that joins: it keeps its own for as long as it stays, gets a former one back where it is free, and
else the lowest free one. -/
def joinNumber (s : State) (serial : Nat) : Nat :=
  let used (m : Nat) : Bool := decide (m = ownMember s) || s.pack.members.any fun p => p.1 == m
  match s.pack.members.find? fun p => decide (p.2.serial = serial) with
  | some p => p.1
  | none =>
    match s.pack.former.find? fun f => decide (f.1 = serial) && !used f.2.1 with
    | some f => f.2.1
    | none => ((span 0 1024).find? fun m => !used m).getD 1023

/-- The sequence numbers between this device and a member start anew. -/
def freshSequence (s : State) (m : Nat) : State :=
  { s with pack := { s.pack with mseqOut := mdel s.pack.mseqOut m
                                 seen := s.pack.seen.filter (fun k => decide (k / 2 ^ 32 ≠ m))
                                 unacked := s.pack.unacked.filter fun k => decide (k.dst ≠ m) } }

/-- A device joins the pack under a number. -/
def admitMember (s : State) (m serial devEpoch feed rack : Nat) : State :=
  let rec' : Member := ⟨serial, rack, feed, 1024, false, decide (devEpoch = 0), add32 (packEpoch s) 1⟩
  let s1 := freshSequence s m
  let s2 := hear { s1 with pack := { s1.pack with members := mput s1.pack.members m rec' } } m
  nextEpoch (s2.count 0 (packPage + 0x40) 1)

/-- JOIN_REPLY's arguments: code, member, epoch, manager, standby, partner and CO_FED, and the routing table (R276). -/
def replyArgs (s : State) (code m : Nat) : List Nat :=
  let r := mget s.pack.members m ⟨0, 0, 0, 1024, false, false, 0⟩
  [code, m, packEpoch s, ownMember s, namedStandby s, r.partner, flag r.coFed] ++ tableArgs (memberTable s m)

/-- The manager takes a JOIN. -/
def takeJoin (s : State) (src mseq serial devEpoch feed rack : Nat) (evidence version : Bool) (config : List Byte) : State :=
  let code := joinCode s serial devEpoch evidence version config
  let s0 := ackMsg s src mseq 0 0 0
  if code = 0 ∨ code = 6 then
    let m := joinNumber s serial
    let s1 := admitMember s0 m serial devEpoch (feed % 16) (rack % 2 ^ 16)
    let s2 := sendMsg s1 .joinReply m (replyArgs s1 code m)
    if code = 6 then orderRestore s2 s.flash.swtLast 0 1024 else s2
  else
    let s1 := (countVerify s0 evidence).count 0 (packPage + 0x48) 1
    let s2 := if code = 5 then errEvent s1 0 else s1
    sendMsg s2 .joinReply src [code]

/-- JOIN. -/
def execJoin (src mseq serial devEpoch feed rack : Nat) (evidence version : Bool) (config : List Byte) (s : State) : Res :=
  onUnit (decide (src < 1024))
    (if packRole s = 3 then takeJoin s src mseq serial devEpoch feed rack evidence version config else s)

/-- An isolated device takes the code of a JOIN_REPLY, and the table of an accepted one. -/
def takeReply (s : State) (src epoch mseq code member standby partner : Nat) (coFed : Nat × RouteTable) : State :=
  let s1 := s.setFld 0 (packPage + 0x128) 31 24 code
  if code = 0 ∨ code = 6 then
    let s2 := learnStandby (setMember (freshSequence s1 src) member) standby
    let s3 := setManager (s2.setReg 0 (packPage + 0x104) (epoch % 2 ^ 32)) src
    let s4 := { s3 with pack := { s3.pack with mgrLost := false, claim := none, lossC := none } }
    let s5 := setPartner s4 (min 1024 partner) (decide (coFed.1 = 1))
    let s6 := if coFed.2.routes = [] then { s5 with pack := { s5.pack with roster := coFed.2.members } } else setRoutes s5 coFed.2
    hear (ackMsg s6 src mseq 0 0 0) src
  else ackMsg s1 src mseq 0 0 0

/-- JOIN_REPLY. -/
def execJoinReply (src epoch mseq code member standby partner : Nat) (coFed : Nat × RouteTable) (s : State) : Res :=
  onUnit (decide (src < 1024 ∧ member < 1024))
    (if packRole s = 0 then takeReply s src epoch mseq code member standby partner coFed else s)

/-! ## Routes and acknowledgements (R279, R280) -/

/-- ROUTE_TABLE: a table from the manager; or on the manager itself the links that it knows, from which it computes every member's
routes (R279, log entry 11). -/
def execRouteTable (src epoch mseq : Nat) (routes : List (Nat × Nat × Nat)) (m : PackMap) (feeds : List (Nat × Nat))
    (s : State) : Res :=
  onUnit (decide (src < 1024))
    (if packRole s = 3 ∧ src = ownMember s then sendRoutes { s with pack := { s.pack with links := m.links } }
    else if fromManager s src then manageMsg s src epoch mseq fun t => setRoutes t ⟨m.members, routes, m.upward, feeds⟩
    else s)

/-- A subscription is refused with a status: the waits for an object of its kind complete with it, and others subscribe anew. -/
def refuseMirror (s : State) (o kind status : Nat) : State :=
  match s.mirrors.find? fun x => x.obj == o with
  | none => s
  | some x =>
    let mine (w : Waiter) : Bool := waitsOnBarrier s w == (kind == 2)
    let rest := (x.waiters.filter fun w => !mine w).map fun w => (⟨o, w, false⟩ : MirrorWait)
    (x.waiters.filter mine).foldl (fun t w => release t w status w.res0 w.res1)
      { s with mirrors := s.mirrors.filter (fun y => !(y.obj == o)), mirrorWait := s.mirrorWait ++ rest }

/-- A remote arrival that waits is held on its generation, and counted where no mirror releases it at once (R173, R176, R184). -/
def joinArrival (s : State) (r q o : Nat) (w : Waiter) : State :=
  let s1 := setWait s r q (.barrier o w.target true)
  joinMirror (syncCount s1 0x58 (flag (mirrorBlocks s1 o true w))) o w

/-- An acknowledged pack-scope operation completes its entry, or begins its wait at the mirror (R165, R171, R176). -/
def settleAck (s : State) (m : PackMsg) (status res0 res1 : Nat) : State :=
  match m.kind, m.args with
  | .signal, [1, _, _, r, q] => finishEntry s r q status (if status = 0 then res0 else 0) 0 0
  | .arrive, [2, o, g, r, q] =>
    match openFlight (s.ring r) q with
    | none => s
    | some f =>
      if status ≠ 0 then finishEntry s r q status 0 0 0
      else if !arriveWaits f.bytes then finishEntry s r q 0 res0 res1 0
      else if 1 ≤ (res0 + 256 - g % 256) % 256 ∧ (res0 + 256 - g % 256) % 256 < 128 then
        release s ⟨r, q, g % 256, res0, res1⟩ 0 res0 res1
      else joinArrival s r q o ⟨r, q, g % 256, res0, res1⟩
  | .subscribe, [o, 1, kind] => if status = 0 then s else refuseMirror s o kind status
  | _, _ => s

/-- MSEQ_ACK. -/
def execMseqAck (dst mseq status res0 res1 : Nat) (s : State) : Res :=
  onUnit (decide (dst < 1024)) (match s.pack.unacked.find? fun m => decide (m.dst = dst ∧ m.mseq = mseq) with
    | none => s
    | some m =>
      let un := s.pack.unacked.filter fun k => !decide (k.dst = dst ∧ k.mseq = mseq)
      settleAck { s with pack := { s.pack with unacked := un } } m status res0 res1)

/-! ## The loss scale (R93, R94) -/

/-- An 8-bit two's complement value, and back. -/
def signed8 (v : Nat) : Int := if v % 256 < 128 then (v % 256 : Nat) else ((v % 256 : Nat) : Int) - 256
def unsigned8 (v : Int) : Nat := (v % 256).toNat

/-- SHIFT and CLEAN after a step: with an overflow s falls to MIN_SHIFT at least, else CLEAN rises and may raise s. -/
def lossStep (s : State) (overflow : Bool) : Nat × Nat :=
  let v := s.reg 0 (hubPage + 0x130)
  let cfg := s.reg 0 (hubPage + 0x134)
  let sh := signed8 (bits v 7 0)
  if overflow then (unsigned8 (max (sh - 1) (signed8 (bits cfg 23 16))), 0)
  else if bits v 31 16 + 1 = max 1 (bits cfg 15 0) then (unsigned8 (min (sh + 1) (signed8 (bits cfg 31 24))), 0)
  else (bits v 7 0, bits v 31 16 + 1)

/-- HUB_LOSS_SCALE after a decision; a skipped step that is recorded is counted. -/
def setLoss (s : State) (shift clean c1 : Nat) (skipped : Bool) : State :=
  let s1 := s.setReg 0 (hubPage + 0x130) (clean % 2 ^ 16 * 2 ^ 16 + shift % 256)
  let s2 := { s1 with pack := { s1.pack with lossC := some (c1 % 2 ^ 32), lossTouched := false } }
  s2.count 0 (hubPage + 0x140) (flag skipped)

/-- The decision of a step whose SHIFT or CLEAN was written during it: undefined, and its outcome is not recorded (R94). -/
def undefinedLoss (s : State) (c1 : Nat) : State :=
  let free (i : Nat) : Nat := Config.freeNat s.freeCtr i
  let t := setLoss s.fresh (free 1) (free 2) c1 false
  sendEvery t .lossScale [free 1 % 256, c1, free 3 % 2]

/-- The manager decides a step (orders 5 to 7): the counter against c0. For the first step of a pack it takes c0, and then sends s,
which releases the workers into it (order 1). Whether a write of HUB_LOSS_SCALE fell into the step is a free value (log entry
94). -/
def decideLoss (s : State) : State :=
  let c1 := (s.obj (s.fld 0 (hubPage + 0x138) 15 0)).value
  match s.pack.lossC with
  | none => sendEvery { s with pack := { s.pack with lossC := some c1, lossTouched := false } } .lossScale
      [s.fld 0 (hubPage + 0x130) 7 0, c1, 0]
  | some c0 =>
    let overflow := decide (c1 ≠ c0)
    let (sh, cl) := lossStep s overflow
    if s.pack.lossTouched ∧ Config.freeNat s.freeCtr 0 % 2 = 1 then undefinedLoss s c1
    else sendEvery (setLoss s sh cl c1 overflow) .lossScale [sh, c1, flag overflow]

/-- A worker or the standby takes s and the decision, which it mirrors with the CLEAN that its own CLEAN and GROWTH give (log entry
95); before the first step of its pack it takes s and c0 alone. -/
def takeLoss (s : State) (sh c1 : Nat) (overflow : Bool) : State :=
  match s.pack.lossC with
  | none => setLoss s sh (s.fld 0 (hubPage + 0x130) 31 16) c1 false
  | some _ => setLoss s sh (lossStep s overflow).2 c1 overflow

/-- LOSS_SCALE_DECISION: on a worker or the standby the received s and the decision; on the manager its own decision. -/
def execLossScaleDecision (src epoch mseq sh c1 : Nat) (overflow : Bool) (s : State) : Res :=
  onUnit (decide (src < 1024)) (if packRole s = 3 ∧ src = ownMember s then decideLoss s
    else if fromManager s src then manageMsg s src epoch mseq fun t => takeLoss t sh c1 overflow
    else s)

/-! ## Peer memory (R131, R268) -/

/-- The response to a peer's request, at the input of the request (R189). -/
def answer (s : State) (src input : Nat) (args : List Nat) : State := sendMsgAt s .peerResponse src args input 0 none

/-- A request of another member at this device's HBM is served at the input of its CLASS, and answered. -/
def servePeer (s : State) (src id write input addr len : Nat) (data : List Byte) : State :=
  if ¬ (addr + len ≤ 2 ^ 41) ∨ (write = 1 ∧ data.length ≠ len) then answer s src input [id, 2]
  else if !hbmMeets s 4 addr len then answer s src input [id, 3]
  else if write = 1 then
    let bad := hbmStoreFails s addr len
    let t := (hbmTraffic s 4 addr len input input src true none).hbmStore addr data Who.none none
    answer t src input [id, if bad then 7 else 0]
  else
    let bad := hbmReadFails s addr len
    let bs := s.bytesAt 1 addr len
    let t := (hbmTraffic s 4 addr len input input src false none).hbmLoad addr len Who.none none
    answer t src input ([id, if bad then 7 else 0] ++ bs.map BitVec.toNat)

/-- CLASS of a peer request as an arbiter input: 1 to 5 (R189). -/
def peerInput (cls : Nat) : Nat := min 5 (max 1 cls)

/-- PEER_REQUEST. -/
def execPeerRequest (src id : Nat) (write : Nat × Nat) (addr len : Nat) (data : List Byte) (s : State) : Res :=
  onUnit (decide (src < 1024 ∧ len ≤ 2048)) (servePeer s src id write.1 (peerInput write.2) addr len data)

/-- A response answers a read of a request, or the write of one of its parts. -/
def answerPeer (s : State) (src id status : Nat) (data : List Byte) : State :=
  let n := (id - 1) / 2 ^ 32 % 2 ^ 8
  let k := (id - 1) % 2 ^ 32
  let part := (id - 1) / 2 ^ 40
  let failed (q : Request) : Nat := if q.fail = 0 then status else q.fail
  let answer (q : Request) : Request :=
    if q.sent then match q.parts.find? fun p => p.1 == part with
      | none => q
      | some p => { q with parts := q.parts.filter (fun x => !(x.1 == part)), fail := failed q,
                           wrote := q.wrote + if status = 0 then p.2 else 0 }
    else if q.data.isNone then { q with data := some data, fail := failed q } else q
  let give (d : Desc) : Desc :=
    if descPeer d.bytes = src then { d with reqs := d.reqs.map fun q => if q.id = k then answer q else q } else d
  if id = 0 then s else s.setRtv n { s.rtv n with descs := (s.rtv n).descs.map give }

/-- PEER_RESPONSE. -/
def execPeerResponse (src id status : Nat) (data : List Byte) (s : State) : Res :=
  onUnit (decide (src < 1024)) (answerPeer s src id status data)

/-! ## Stops (R283 to R286) -/

/-- STOP. -/
def execStop (src epoch mseq n : Nat) (s : State) : Res :=
  onUnit (decide (src < 1024 ∧ n < 65536))
    (if fromManager s src then manageMsg s src epoch mseq fun t => takeStop t n else s)

/-- QUIESCENT. -/
def execQuiescent (s : State) : Res := .next (afterCut (stopProgress s))

/-- CUT. -/
def execCut (src epoch mseq n : Nat) (s : State) : Res :=
  onUnit (decide (src < 1024)) (if packRole s = 3 then
      manageMsg s src epoch mseq fun t => if t.pack.stopNo = some n then afterCut (noteCut t src) else t
    else s)

/-- STOP_LIMIT_EXPIRY: the stop fails, and with it a capture (R294). -/
def execStopLimitExpiry (s : State) : Res :=
  .next (if packRole s = 3 ∧ stopState s = 1 ∧ stopLimitUs s ≤ s.pack.stopUs then captureFails (failStop s) 4 else s)

/-- RESUME. -/
def execResume (src epoch mseq n last : Nat) (s : State) : Res :=
  onUnit (decide (src < 1024 ∧ n < 65536))
    (if fromManager s src then manageMsg s src epoch mseq fun t => takeResume t n last else s)

/-! ## Registers of the pack page (R288) -/

/-- PLK_STOP_CTRL written: REQ has passed its key check. -/
def writeStopCtrl (s : State) (v : Nat) : State :=
  let s1 := s.setFld 0 (packPage + 0x114) 15 0 (bits v 15 0)
  let s2 := if bit v 31 then stopRequest s1 else s1
  if bit v 30 then stopResume s2 else s2

/-- PLK_MGR written: only on the manager; a standby that it names anew is sent every pack object (R271, R275, log entry 93). -/
def writePlkMgr (s : State) (v : Nat) : State :=
  if packRole s = 3 then
    let t := (s.setFld 0 (packPage + 0x108) 15 15 (bits v 15 15)).setFld 0 (packPage + 0x108) 9 0 (bits v 9 0)
    if namedStandby t = namedStandby s then t else (t.sync.map Prod.fst).foldl (fun u o => forwardObj u o false) t
  else s

/-- PLK_DOMAIN written: RACK only while isolated. -/
def writePlkDomain (s : State) (v : Nat) : State :=
  if packRole s = 0 then s.setFld 0 (packPage + 0x10C) 31 16 (bits v 31 16) else s

end Sys2Proof.Machine
end

