-- ==== Sys2Proof/Machine/Host.lean ====
section
/-! DEFINITION. Sys2Proof/Machine/Host.lean: the host at the aperture, the doorbells and configuration space; function-level
resets and D3hot (R305 to R324). -/

namespace Sys2Proof.Machine

open Sys2Proof

/-! ## Reaching a function (R309, R320, R322, R333) -/

/-- Whether a function exists on the link. -/
def fnPresent (s : State) (f : Nat) : Bool := decide (f = 0) || s.pci.vfEnable

/-- Whether a function claims memory requests to its BARs. -/
def fnClaims (s : State) (f : Nat) : Bool :=
  !s.start.asserted && (if f = 0 then (s.fn 0).memSpace else s.pci.vfEnable && s.pci.vfMse)

/-- Whether the device serves its BARs whole: start is READY. -/
def devReady (s : State) : Bool := !s.start.asserted && decide (s.start.state = 1 ∨ (s.start.state = 0 ∧ 8 < s.start.step))

/-- An access dropped in D3hot or refused for its partition is counted. -/
def countNotPermitted (s : State) : State := s.count 0 (pciPage + 0x68) 1

/-! ## The aperture (R308, R310) -/

/-- The segment of a BAR4 offset of a function. -/
def aperSegment (f off : Nat) : Option Nat :=
  if f = 0 then (if off < 2 ^ 36 then some (off / 2 ^ 32) else none)
  else if off < 2 ^ 32 then some (15 + f) else none

/-- The HBM address that an access reaches, where its segment is enabled and its partition holds it. -/
def aperAddr (s : State) (f off n : Nat) : Option Nat :=
  match aperSegment f off with
  | none => none
  | some g =>
    let m := s.reg g (pciPage + 0x154)
    let a := bits m 8 0 * 2 ^ 32 + off % 2 ^ 32
    if bit m 31 && decide (a + n ≤ 2 ^ 41) && partReaches s f 1 a n then some a else none

/-- Whether the load buffer of R339 answers at BAR4: in start steps 1 and 2, and in safe mode at step 2 (R341). -/
def loadBuffer (s : State) (f off n : Nat) : Bool :=
  decide (f = 0 ∧ off + n ≤ 2 ^ 24 ∧ s.start.state ≠ 1 ∧ 1 ≤ s.start.step ∧ s.start.step ≤ 2) &&
    decide (s.fld 0 (rstPage + 0x108) 1 0 = 1)

/-- A write through BAR4: it stands at input 1 of the bridges and the stacks (R189, R310). DESIGN CHOICE (log entry 85): one to a
die behind a bridge that has been taken down, or to a stack whose controller is being reset, is lost, and a read there returns
poisoned data (R17, R336). -/
def aperWrite (s : State) (f off : Nat) (data : List Byte) : State :=
  if !fnClaims s f || (aperSegment f off).isNone then s
  else if (s.fn f).d3hot then countNotPermitted s
  else if (s.fn f).draining then s
  else if loadBuffer s f off data.length then
    { s with start := { s.start with load := data.zipIdx.foldl (fun m p => mput m (off + p.2) p.1) s.start.load } }
  else if !devReady s then s
  else match aperAddr s f off data.length with
    | none => countNotPermitted s
    | some a =>
      if hbmMeets s 4 a data.length then (hbmTraffic s 4 a data.length 1 1 f true none).hbmStore a data Who.none none else s

/-- A byte of the load buffer; one that has not been written is undefined. -/
def loadByte (s : State) (o : Nat) : Byte := mget s.start.load o (Config.freeByte (2 ^ 64) o)

/-- A read through BAR4. One whose data comes after the host has abandoned it is discarded and counted (R310). -/
def aperRead (s : State) (f off n : Nat) (late : Bool) : State :=
  let ones : List Byte := List.replicate n 0xFF
  if !fnClaims s f || (aperSegment f off).isNone then s
  else if (s.fn f).d3hot then (countNotPermitted s).send (.completion f ones false false)
  else if (s.fn f).draining then s
  else if loadBuffer s f off n then s.send (.completion f ((span off n).map (loadByte s)) false false)
  else if !devReady s then s.send (.completion f ones false false)
  else match aperAddr s f off n with
    | none => (countNotPermitted s).send (.completion f ones false true)
    | some a =>
      if !hbmMeets s 4 a n then s.send (.completion f ones true false)
      else
        let t := (hbmTraffic s 4 a n 1 1 f false none).hbmLoad a n Who.none none
        if late then t.count 0 (pciPage + 0x70) 1
        else if hbmReadFails s a n then t.send (.completion f ones true false)
        else t.send (.completion f (s.bytesAt 1 a n) false false)

/-- Whether a memory request keeps PCI Express's 4 KiB rule. -/
def oneBlock (off n : Nat) : Bool := decide (1 ≤ n) && decide (off / 4096 = (off + n - 1) / 4096)

/-- APERTURE_WRITE. -/
def execApertureWrite (f off : Nat) (data : List Byte) (s : State) : Res :=
  onUnit (decide (f < 16)) (if oneBlock off data.length then aperWrite s f off data else s)

/-- APERTURE_READ. -/
def execApertureRead (f off n : Nat) (late : Bool) (s : State) : Res :=
  onUnit (decide (f < 16)) (if oneBlock off n then aperRead s f off n late else s)

/-! ## Doorbells (R311, R312, R316) -/

/-- A doorbell write is refused and counted. -/
def refuseDoorbell (s : State) : State := s.count 0 (pciPage + 0x48) 1

/-- Whether a doorbell of function f may name a ring. -/
def mayName (s : State) (f r : Nat) : Bool := decide (f = 0) || decide ((s.ring r).part = f)

/-- DB_TAIL of function f, one beat at input 6 of the bridge of the ring's die (R189): it marks the ring for the doorbell wake
(R215, R312). An update that R121 ignores also sets STATE in the ring's page. -/
def doorbellTail (s : State) (f v : Nat) : State :=
  let r := bits v 15 0
  if bits v 31 16 ≠ 0 ∨ (s.ring r).mode = .off ∨ !mayName s f r then refuseDoorbell s
  else match moveTail s r (bits v 63 32) with
    | none => refuseDoorbell (errState s (ringPage (dieOfRing r)))
    | some t =>
    let t1 := mergeRequest { t with pci := { t.pci with rung := putRising r t.pci.rung } } 0
    bridgePacket (t1.count 0 (pciPage + 0x40) 1) (dieOfRing r) 1 8 6 f 0 (some r)

/-- DB_RELEASE of function f. -/
def doorbellRelease (s : State) (f v : Nat) : State :=
  let r := bits v 15 0
  if bits v 31 16 ≠ 0 ∨ (s.ring r).mode = .off ∨ (s.ring r).kind = 2 ∨ !(s.ring r).rsEn ∨ !mayName s f r then refuseDoorbell s
  else releaseSlots s r (bits v 63 32)

/-- A write to a doorbell page: `f` below 16 is the function itself, 16 + k page k of PF0's BAR2. -/
def doorbell (s : State) (f off size v : Nat) : State :=
  let g := if f < 16 then f else 0
  if !fnClaims s g then s
  else if (s.fn g).d3hot then countNotPermitted s
  else if (s.fn g).draining || (s.fn (f % 16)).draining || !devReady s then s
  else if 16 ≤ off then s
  else if size ≠ 8 ∨ (off ≠ 0 ∧ off ≠ 8) then refuseDoorbell s
  else if off = 0 then doorbellTail s (f % 16) v
  else doorbellRelease s (f % 16) v

/-- DB_TAIL. -/
def execDbTail (f off size v : Nat) (s : State) : Res := onUnit (decide (f < 32 ∧ off < 4096)) (doorbell s f off size v)

/-- DB_RELEASE. -/
def execDbRelease (f off size v : Nat) (s : State) : Res := onUnit (decide (f < 32 ∧ off < 4096)) (doorbell s f off size v)

/-! ## Function-level reset (R320, R321) -/

/-- Rings of a partition that are not OFF. -/
def partRings (s : State) (f : Nat) : List Nat :=
  (s.rings.map Prod.fst).filter fun r => decide ((s.ring r).mode ≠ .off ∧ (s.ring r).part = f)

/-- A descriptor entry that touches host memory. -/
def touchesHost (d : Desc) : Bool :=
  (!descFill d.bytes && !descFromRing d.bytes && decide (descSrcSpace d.bytes = 2)) ||
    (!descToRing d.bytes && decide (descDstSpace d.bytes = 2))

/-- Retriever entries of a partition that touch host memory are cut (order 2). -/
def cutHost (s : State) (f : Nat) : State :=
  settle { s with rtvs := s.rtvs.map fun p => (p.1, { p.2 with descs := p.2.descs.map fun d =>
    match d.owner with
    | .entry r _ => if (s.ring r).part = f ∧ touchesHost d then cutNow s r d else d
    | .channel _ => d }) }

/-- Sync objects of a partition break with CAUSE 2 (order 4). -/
def breakPart (s : State) (f : Nat) : State :=
  ((s.sync.map Prod.fst).filter fun o => decide ((s.obj o).kind ≠ 0 ∧ (s.obj o).part = f) && !(s.obj o).pack).foldl
    (fun t o => breakAll t o 2 (ownMember s) 0) s

/-- A function's configuration, MSI-X table and aperture map take their reset values (order 5), and so do its copies of KEY and
of the selectors (R382, R389); VF Enable and VF MSE are PF0's. -/
def resetFunction (s : State) (f : Nat) : State :=
  let lo := msixTable f
  let segs := if f = 0 then span 0 16 else [15 + f]
  let regs := s.regs.filter fun p => !decide (lo ≤ p.1 ∧ p.1 < lo + 16 * 2048) &&
    !segs.any fun g => decide (p.1 = regKey g (pciPage + 0x154))
  let sels := s.sels.filter fun p => decide (p.1 / 2 ^ 32 ≠ f)
  ({ s with regs := regs, sels := sels }).setFn f { Fn.zero with draining := (s.fn f).draining }

/-- Orders 1 to 5 of R320 on one function. -/
def drainFunction (s : State) (f : Nat) : State :=
  let s1 := s.setFn f { s.fn f with draining := true, d3hot := false }
  let free := s1.rings.map fun p =>
    if p.2.part = f then (p.1, { p.2 with holds := p.2.holds.filter (· ≠ .d3hot) }) else p
  let s2 := (partRings s f).foldl ringStop { s1 with rings := free }
  resetFunction (breakPart (cutHost s2 f) f) f

/-- A function-level reset: on PF0 it clears VF Enable and reaches all sixteen partitions. -/
def functionReset (s : State) (f : Nat) : State :=
  let s1 := s.count 0 (pciPage + 0x78) 1
  if f = 0 then
    let s2 := { s1 with pci := { s1.pci with vfEnable := false, vfMse := false, mps := 0 } }
    (span 0 16).foldl drainFunction s2
  else drainFunction s1 f

/-- Whether configuration space answers: from the end of step 1 (R333). -/
def configOpen (s : State) : Bool := !s.start.asserted && !decide (s.start.state = 0 ∧ s.start.step ≤ 1)

/-- FUNCTION_LEVEL_RESET. -/
def execFunctionLevelReset (f : Nat) (s : State) : Res :=
  onUnit (decide (f < 16)) (if configOpen s && fnPresent s f then functionReset s f else s)

/-- Whether a partition holds a WEDGED or HELD panel. -/
def holdsWedge (s : State) (f : Nat) : Bool :=
  (span 0 64).any fun p =>
    decide ((s.panel p).state = .wedged ∨ (s.panel p).state = .held) && decide ((s.ring (panelRing s p)).part = f)

/-- FLR_DRAIN_DONE (order 6). -/
def execFlrDrainDone (f : Nat) (s : State) : Res :=
  onUnit (decide (f < 16))
    (if (s.fn f).draining && (partRings s f).all (fun r => decide ((s.ring r).inFlight = 0)) && !holdsWedge s f then
      let s1 := (partRings s f).foldl ringToOff s
      s1.setFn f { s1.fn f with draining := false }
    else s)

/-! ## D3hot (R322) -/

/-- D3HOT_ENTRY: every ring of the partition that is not OFF goes to HELD. -/
def execD3hotEntry (f : Nat) (s : State) : Res :=
  onUnit (decide (f < 16)) (if configOpen s && fnPresent s f && !(s.fn f).d3hot && !(s.fn f).draining then
    let s1 := s.setFn f { s.fn f with d3hot := true }
    (partRings s f).foldl (fun t r => t.setRing r { t.ring r with holds := (t.ring r).holds ++ [.d3hot] }) s1
  else s)

/-- Pending vectors that may be sent now are sent. -/
def sendPending (s : State) (f : Nat) : State :=
  (s.fn f).pending.foldl (fun t v =>
    if (t.fn f).msixEn && !(t.fn f).fnMask && !vectorMasked t f v && !(t.fn f).d3hot && decide (fnState t f = 1) then
      (t.setFn f { t.fn f with pending := (t.fn f).pending.filter (· ≠ v) }).send (.msix f v)
    else t) s

/-- Completions of a ring that wait unposted are posted in sequence order, as far as they can be; there are never more of them
than `fuel`. -/
def postWaiting : (fuel : Nat) → State → (r : Nat) → State
  | 0, s, _ => s
  | fuel + 1, s, r => if canPost s r then postWaiting fuel (postCompletion s r none) r else s

/-- D0_ENTRY: held completions are posted, pending interrupts are sent, and held rings return to their states, in this order. -/
def execD0Entry (f : Nat) (s : State) : Res :=
  onUnit (decide (f < 16)) (if (s.fn f).d3hot then
    let s0 := s.setFn f { s.fn f with d3hot := false }
    let waits := (partRings s f).filter fun r => (s.ring r).rsEn && decide ((s.ring r).rsSpace = 0)
    let s1 := sendPending (waits.foldl (fun t r => postWaiting (t.ring r).fly.length t r) s0) f
    (partRings s f).foldl (fun t r =>
      t.setRing r { t.ring r with holds := (t.ring r).holds.filter (· ≠ .d3hot) }) s1
  else s)

/-! ## Configuration space (R305, R307, R317, R333, R341) -/

/-- A write of a field of a function's configuration space. -/
def writeConfig (s : State) (f fld v : Nat) : State :=
  let F := s.fn f
  let on := decide (v % 2 = 1)
  match fld with
  | 0 => if f = 0 then s.setFn 0 { F with memSpace := on } else s
  | 1 => if f = 0 ∧ ¬ (on ∧ s.start.state = 2) then { s with pci := { s.pci with vfEnable := on } } else s
  | 2 => if f = 0 then { s with pci := { s.pci with vfMse := on } } else s
  | 3 => sendPending (s.setFn f { F with msixEn := on }) f
  | 4 => sendPending (s.setFn f { F with fnMask := on }) f
  | 5 => if f = 0 ∧ v ≤ 2 then { s with pci := { s.pci with mps := v } } else s
  | _ => s

/-- CONFIGURATION_REQUEST. -/
def execConfigurationRequest (f fld v : Nat) (s : State) : Res :=
  onUnit (decide (f < 16)) (if s.start.asserted then s
    else if !configOpen s then s.send (.retryStatus f)
    else if !fnPresent s f || (s.fn f).draining then s
    else writeConfig s f fld v)

/-- UNEXPECTED_COMPLETION: a completion of a request issued before a reset is discarded and reported through AER (R325). -/
def execUnexpectedCompletion (f : Nat) (s : State) : Res :=
  onUnit (decide (f < 16)) (if configOpen s && fnPresent s f then s.setFn f { s.fn f with aerUnexpected := true } else s)

end Sys2Proof.Machine
end

