-- ==== Sys2Proof/Machine/Bringup.lean ====
section
/-! DEFINITION. Sys2Proof/Machine/Bringup.lean: what the start steps 3 and 5 to 8 find and load: bridges and their spare wires,
stacks and their lanes, darn maps, and control cores (R17, R25, R43, R61, R64, R144, R153, R162, R163, R339). -/

namespace Sys2Proof.Machine

open Sys2Proof

/-- The set bits of a mask of n bits. -/
def onesOf (v n : Nat) : Nat := ((span 0 n).filter fun i => bit v i).length

/-- The mask with a bit for each listed number. -/
def maskOf (l : List Nat) : Nat := l.foldl (fun m i => m ||| 2 ^ i) 0

/-! ## Step 5: bridges (R17, R25) -/

/-- Newly failed wires of a lane group. -/
def newWires (fs : List Finding) (die dir g : Nat) : Nat :=
  fs.foldl (fun n f => match f with
    | .wires d e h k => if d = die ∧ e = dir ∧ h = g then n + k else n
    | _ => n) 0

/-- Failed wires of a lane group, old and new: each takes a spare, up to 8; 9 stands for more, and then the group is failed
(log entry 87). -/
def groupWires (s : State) (fs : List Finding) (die dir g : Nat) : Nat :=
  min 9 (mget s.flash.spares (32 * die + 16 * dir + g) 0 + newWires fs die dir g)

/-- Failed lane groups of a direction after training. -/
def trainedMask (s : State) (fs : List Finding) (die dir : Nat) : Nat :=
  maskOf ((span 0 16).filter fun g => decide (8 < groupWires s fs die dir g))

/-- Whether a bridge trains: at least 8 working groups in each direction. -/
def bridgeTrains (s : State) (fs : List Finding) (die : Nat) : Bool :=
  decide (onesOf (trainedMask s fs die 0) 16 ≤ 8) && decide (onesOf (trainedMask s fs die 1) 16 ≤ 8)

/-- Spare wires in use on a bridge. -/
def sparesUsed (s : State) (fs : List Finding) (die : Nat) : Nat :=
  (span 0 32).foldl (fun n k => n + min 8 (groupWires s fs die (k / 16) (k % 16))) 0

/-- A bridge's training loads its status register and the presence of its die. -/
def loadBridge (fs : List Finding) (s : State) (die : Nat) : State :=
  let up := bridgeTrains s fs die
  let m0 := trainedMask s fs die 0
  let m1 := trainedMask s fs die 1
  let word := flag up * 2 ^ 31 + sparesUsed s fs die * 2 ^ 16 + (m0 ||| m1)
  let s1 := (s.setReg 0 (bridgeReg die) word).setFld 0 (hubPage + 0x100) (20 + die) (20 + die) (flag up)
  let groups := mset (mset s.dies.groupsFailed (2 * die) m0 0) (2 * die + 1) m1 0
  let down := if up then s.dies.bridgeDown else putRising die s.dies.bridgeDown
  { s1 with dies := { s1.dies with groupsFailed := groups, bridgeDown := down } }

/-- The spare-wire map with the new entries. -/
def sparesAfter (s : State) (fs : List Finding) : SMap Nat :=
  (span 0 128).foldl (fun m k => mset m k (groupWires s fs (k / 32) (k / 16 % 2) (k % 16)) 0) s.flash.spares

/-! ## Step 6: stacks (R144, R153, R162, R163) -/

/-- Newly failed lanes of a byte group of a stack, 128 its command/address bus. -/
def newLanes (fs : List Finding) (st g : Nat) : Nat :=
  fs.foldl (fun n f => match f with
    | .lanes t h k => if t = st ∧ h = g then n + k else n
    | _ => n) 0

/-- Failed lanes of a group, old and new. -/
def groupLanes (s : State) (fs : List Finding) (st g : Nat) : Nat := mget s.flash.repairs (256 * st + g) 0 + newLanes fs st g

/-- A stack is repairable while each group has at most one failed lane. -/
def repairable (s : State) (fs : List Finding) (st : Nat) : Bool := (span 0 129).all fun g => decide (groupLanes s fs st g ≤ 1)

/-- How a stack trains: 0 at 6.4 Gb/s, 1 there with stored values, 2 at 5.2 Gb/s. The alternatives are those of a stack that has
failed before; one with no stored values takes level 2 at once (R339, R340). -/
def trainMode (s : State) (st : Nat) : Nat :=
  if s.start.level = 0 ∨ st ∉ s.flash.weak then 0
  else if s.start.level = 1 ∧ st ∈ s.flash.stored then 1
  else 2

/-- Whether a stack trains. -/
def stackTrains (s : State) (fs : List Finding) (st : Nat) : Bool :=
  repairable s fs st && !fs.any fun f => match f with
    | .untrained t modes => decide (t = st) && bit modes (trainMode s st)
    | _ => false

/-- A stack's training loads its status register and its presence. -/
def loadStack (fs : List Finding) (s : State) (st : Nat) : State :=
  let ok := stackTrains s fs st
  let lanes := (span 0 129).foldl (fun n g => n + min 1 (groupLanes s fs st g)) 0
  let a := stackPage st + 0x100
  let s1 := (s.setFld 0 a 31 29 (flag ok * 4 + flag (trainMode s st = 2) * 2 + flag (trainMode s st = 1))).setFld 0 a 23 16 lanes
  s1.setFld 0 (hubPage + 0x100) st st (flag ok)

/-- HBM_DIE_RATE of a die: 2,662 GB/s with a stack at 5.2 Gb/s, else 3,276. -/
def loadDieRate (s : State) (d : Nat) : State :=
  let slow := (span (4 * d) 4).any fun st => decide (s.fld 0 (stackPage st + 0x100) 30 30 = 1)
  s.setReg 0 (dmapPage d + 0x108) (if slow then 2662 else 3276)

/-- The lane-repair maps with the new entries. -/
def repairsAfter (s : State) (fs : List Finding) : SMap Nat :=
  (span 0 16).foldl (fun m st => (span 0 129).foldl (fun m' g => mset m' (256 * st + g) (groupLanes s fs st g) 0) m) s.flash.repairs

/-! ## Step 7: the darn map (R61, R64) -/

/-- Column bands in which a physical row has faulty cores: those that self-test finds, and the suspect ones (R59). -/
def faultyBands (s : State) (fs : List Finding) (n row : Nat) : List Nat :=
  (span 0 16).filter fun j =>
    (s.flash.suspects.any fun k => decide (k / 256 = n * 544 + row) && decide (k % 256 / 16 = j)) ||
    fs.any fun f => match f with
      | .badCore l r c => decide (l = n ∧ r = row ∧ c / 16 = j)
      | _ => false

/-- The row of a list whose faulty cores lie in the most column bands, the lowest index on a tie. -/
def widestRow (width : Nat → Nat) : List Nat → Option Nat
  | [] => none
  | i :: r => match widestRow width r with
    | none => some i
    | some j => if width j ≤ width i then some i else some j

/-- Rules 1 to 3 for a band: the row that its darn row takes, and the column bands that it retires. -/
def darnBand (s : State) (fs : List Finding) (n b : Nat) : Option Nat × Nat :=
  let at' (i : Nat) := faultyBands s fs n (17 * b + i)
  let rows := (span 0 16).filter fun i => !(at' i).isEmpty
  let f := if (at' 16).isEmpty then widestRow (fun i => (at' i).length) rows else none
  (f, maskOf ((rows.filter fun i => decide (some i ≠ f)).flatMap at'))

/-- The darn map that self-test builds for a Loom: retired column bands, darned bands, and their rows in the four words of
LOOM_DARN_ROW (R61, R64). -/
def darnLoom (s : State) (fs : List Finding) (n : Nat) : List Nat :=
  let bands := (span 0 32).map fun b => (b, darnBand s fs n b)
  let cols := maskOf (fs.filterMap fun f => match f with
    | .badColumn l j => if l = n ∧ j < 16 then some j else none
    | _ => none)
  let retired := bands.foldl (fun m p => m ||| p.2.2) cols
  let darned := maskOf (bands.filterMap fun p => if p.2.1.isSome then some p.1 else none)
  let rows (q : Nat) : Nat := ((bands.drop (8 * q)).take 8).foldl (fun m p => m + p.2.1.getD 0 * 2 ^ (4 * (p.1 % 8))) 0
  [retired, darned, rows 0, rows 1, rows 2, rows 3]

/-- The saved darn map of a Loom. -/
def savedDarn (s : State) (n : Nat) : List Nat := (span 0 6).map fun i => mget s.flash.darnMap (8 * n + i) 0

/-- A Loom's darn map loaded into its registers, its geometry and the package's widths: 0 encodes 16 column bands (R25, R43). -/
def loadDarn (s : State) (n : Nat) (m : List Nat) : State :=
  let get (i : Nat) := m.getD i 0
  let active := 16 - onesOf (get 0) 16
  let a := loomPage n
  let s1 := ((s.setReg 0 (a + 0x124) (get 0)).setReg 0 (a + 0x120) (get 1)).setReg 0 (a + 0x100)
    (onesOf (get 1) 32 * 2 ^ 21 + active * 2 ^ 16 + 32 * active)
  let s2 := (span 0 4).foldl (fun t q => t.setReg 0 (a + 0x128 + 4 * q) (get (2 + q))) s1
  s2.setFld 0 (hubPage + 0x104) (4 * n + 3) (4 * n) (active % 16)

/-- The darn maps that step 7 builds, or at level 1 and 2 loads as saved (R339). -/
def darnMaps (s : State) (fs : List Finding) : List (Nat × List Nat) :=
  (span 0 8).map fun n => (n, if s.start.level = 0 then darnLoom s fs n else savedDarn s n)

/-- The map area of the darn maps. -/
def darnAfter (s : State) (maps : List (Nat × List Nat)) : SMap Nat :=
  maps.foldl (fun m p => (span 0 6).foldl (fun m' i => mset m' (8 * p.1 + i) (p.2.getD i 0) 0) m) s.flash.darnMap

/-! ## Step 8: control cores (R339) -/

/-- Control cores that fail their test. -/
def failedCores (fs : List Finding) : List Nat :=
  (span 0 32).filter fun c => fs.any fun f => match f with
    | .badControl k => decide (k = c)
    | _ => false

/-! ## What a step finds wrong, and what it loads -/

/-- The mask of DETAIL that the findings of a step fail it by, 0 for none: dies, stacks, Looms without a usable column band, or
control cores (R17, R61, R144, R338, R339). -/
def stepFaults (s : State) (k : Nat) (fs : List Finding) : Nat :=
  match k with
  | 5 => maskOf ((span 0 4).filter fun d => !bridgeTrains s fs d)
  | 6 => maskOf ((span 0 16).filter fun st => !stackTrains s fs st)
  | 7 => maskOf (((darnMaps s fs).filter fun p => decide (onesOf (p.2.getD 0 0) 16 = 16)).map (·.1))
  | 8 =>
    let bad := failedCores fs
    maskOf (bad.filter fun c => decide (s.start.level = 0) || bad.any fun o => decide (o ≠ c ∧ o / 8 = c / 8))
  | _ => 0

/-- Mask of the fields of a register that start loads from outside: the serial number in fuses and the trained link. -/
def loadMask (k a : Nat) : Nat :=
  if a = pciPage + 0x100 then 2 ^ 9 - 1
  else if k = 3 ∧ a = secPage + 0x110 then 2 ^ 64 - 1
  else 0

/-- A loaded value put into its register. A voltage code goes to its quadrant's regulator, and the configuration's ROLE 3
makes this device the manager. -/
def loadFact (k i a v : Nat) (s : State) : State :=
  if a = pwrPage + 0x144 then s.setQuad (i % 8) { s.quad (i % 8) with vcode := v % 32 }
  else if k = 10 ∧ a = packPage + 0x100 then (if bits v 31 30 = 3 ∧ packRole s = 0 then s.setFld 0 a 31 30 3 else s)
  else
    let m := loadMask k a
    let w := s.reg i a
    s.setReg i a (w - (w &&& m) + (v &&& m))

/-- What a step loads: step 3 the silicon revision, 5 the bridges, 6 the stacks, 7 the darn maps, 8 the control cores it holds
in reset; and the values from outside. A step that fails loads what it found, but for step 7, which has no map then (log
entry 87). -/
def loadFindings (s : State) (k : Nat) (fs : List Finding) : State :=
  let s1 := fs.foldl (fun t f => match f with
    | .load i a v => loadFact k i a v t
    | _ => t) s
  match k with
  | 3 => s1.setFld 0 (hubPage + 0x100) 31 24 0xB0
  | 5 => (span 0 4).foldl (loadBridge fs) s1
  | 6 => (span 0 4).foldl loadDieRate ((span 0 16).foldl (loadStack fs) s1)
  | 7 => if stepFaults s1 7 fs = 0 then (darnMaps s1 fs).foldl (fun t p => loadDarn t p.1 p.2) s1 else s1
  | 8 =>
    let held := (failedCores fs).foldl (fun l c => putRising c l) s1.dies.coreHeld
    { s1 with dies := { s1.dies with coreHeld := held, coreSince := mset s1.dies.coreSince 32 s1.hubUs 0 } }
  | _ => s1

/-- Map areas of the journal that a step which succeeds writes: spare wires, lane repairs and stored training values of stacks
at 6.4 Gb/s, and the darn maps that self-test has built (R17, R61, R153, R338). The state is that before the step loads. -/
def saveMaps (s : State) (k : Nat) (fs : List Finding) : Flash :=
  match k with
  | 5 => { s.flash with spares := sparesAfter s fs }
  | 6 =>
    let good := (span 0 16).filter fun st => decide (trainMode s st ≠ 2)
    { s.flash with repairs := repairsAfter s fs, stored := good.foldl (fun l st => putRising st l) s.flash.stored }
  | 7 => if s.start.level = 0 then { s.flash with darnMap := darnAfter s (darnMaps s fs) } else s.flash
  | _ => s.flash

/-- A step 6 that fails marks the stacks that failed, which the alternatives train otherwise (R339). -/
def markWeak (s : State) (k : Nat) (fs : List Finding) : Flash :=
  if k = 6 then
    let bad := (span 0 16).filter fun st => !stackTrains s fs st
    { s.flash with weak := bad.foldl (fun l st => putRising st l) s.flash.weak }
  else s.flash

end Sys2Proof.Machine
end

