-- ==== Sys2Proof/Machine/Start.lean ====
section
/-! DEFINITION. Sys2Proof/Machine/Start.lean: reset sources, the end of reset, the ten start steps, safe mode and block resets
(R325 to R344, R394 to R396). -/

namespace Sys2Proof.Machine

open Sys2Proof

/-! ## The step records of the journal (R338, R340) -/

/-- What the journal keeps of a step. -/
def stepRec (s : State) (k : Nat) : StepRec := mget s.flash.steps k ⟨0, 0, 0, 0⟩

/-- A step's record set. -/
def setStep (s : State) (k : Nat) (r : StepRec) : State :=
  { s with flash := { s.flash with steps := mset s.flash.steps k r ⟨0, 0, 0, 0⟩ } }

/-- FAILS and LEVEL of every step set to 0, and no stack is trained otherwise any more (R341). -/
def clearSteps (s : State) : State :=
  { s with flash := { s.flash with clearDue := false, weak := [], steps := s.flash.steps.map fun p =>
      (p.1, { p.2 with fails := 0, level := 0 }) } }

/-- The last level of a step (R339). -/
def lastLevel (k : Nat) : Nat := if k = 2 ∨ (5 ≤ k ∧ k ≤ 8) then 2 else 0

/-- BOOT_SRC and CLK_MODE of RST_STRAPS. -/
def bootSrc (s : State) : Nat := s.fld 0 (rstPage + 0x108) 1 0
def clkMode (s : State) : Nat := s.fld 0 (rstPage + 0x108) 5 4

/-- Limit of a step in microseconds (R339). -/
def stepLimit (s : State) (k : Nat) : Nat :=
  match k with
  | 1 => 20000
  | 2 => if bootSrc s = 1 ∨ bootSrc s = 3 then 60000000 else 100000
  | 3 => 20000
  | 4 => 20000
  | 5 => 50000
  | 6 => 300000
  | 7 => 400000
  | 8 => 50000
  | 9 => 500000
  | _ => 1000000

/-- Safe mode is entered at a step (R341). -/
def enterSafe (s : State) (k : Nat) : State :=
  { s with start := { s.start with state := 2, step := k },
           flash := { s.flash with cntSafe := s.flash.cntSafe + 1 } }

/-- A step begins: its entry record is written, or safe mode is entered where it has failed three times. -/
def beginStep (s : State) (k : Nat) : State :=
  let r := stepRec s k
  if 3 ≤ r.fails then enterSafe s k
  else
    let s1 := { s with start := { s.start with step := k, level := r.level, stepUs := s.hubUs } }
    journalAdd s1 k 1 r.level 0 0

/-- A step fails in the journal: its exit record, FAILS and LEVEL (R340). -/
def recordFailure (s : State) (k result detail ms : Nat) : State :=
  let r := stepRec s k
  let n := r.fails + 1
  let lv := if n = 3 then r.level else max r.level (min n (lastLevel k))
  setStep (journalAdd s k 3 s.start.level result detail) k ⟨n, lv, result, min ms 65535⟩

/-- A start in which a step ran above level 0 is counted once (R344). -/
def noteAlternative (s : State) (level : Nat) : State :=
  if 0 < level ∧ !s.start.altSeen then
    { s with start := { s.start with altSeen := true }, flash := { s.flash with cntAlt := s.flash.cntAlt + 1 } }
  else s

/-- The step in progress fails: safe mode at the third failure, else a full reset with cause 6, SUB 1. -/
def failStep (s : State) (result detail ms : Nat) : State :=
  let k := s.start.step
  let s1 := noteAlternative (recordFailure s k result detail ms) s.start.level
  if (stepRec s1 k).fails = 3 then enterSafe s1 k else resetWith s1 6 1 true

/-- The step in progress fails by what it found, which the registers show in safe mode. -/
def failFound (s : State) (result detail ms : Nat) (fs : List Finding) : State :=
  let k := s.start.step
  let faults := stepFaults s k fs
  failStep { loadFindings s k fs with flash := markWeak s k fs } result (if faults = 0 then detail else faults) ms

/-! ## What a step does (R339) -/

/-- The level in use when a step ends: at step 6 a stack at 5.2 Gb/s shows level 2 (R340). -/
def levelInUse (s : State) (k : Nat) : Nat :=
  if k = 6 ∧ 0 < s.start.level ∧ (span 0 16).any fun st => s.fld 0 (stackPage st + 0x100) 30 30 == 1 then 2
  else s.start.level

/-- Regions whose release wave a step waits for (R331). -/
def stepRegions (k : Nat) : List Nat :=
  match k with
  | 4 => [0]
  | 5 => span 1 4
  | 7 => span 5 8
  | _ => []

/-- What a step that succeeds does beside loading: step 3 checks the token and signs two certificates, step 4 loads the ledger's
numbers, step 8 makes the device READY, and after step 10 the ledger closes a start block. -/
def stepEffect (s : State) (k : Nat) : State :=
  if k = 3 then countSign (expireToken s) 2
  else if k = 4 then
    (s.setReg 0 (ldgPage + 0x150) (s.flash.blockNo - 1)).setReg 0 (ldgPage + 0x158) s.flash.receiptNext
  else if k = 8 then { s with start := { s.start with state := 1 } }
  else if k = 10 then startBlock (firstWindow { s with start := { s.start with step := 0 } })
  else s

/-- The step in progress succeeds: its exit record is written, and the next step begins. CLK_MODE 11 stops the device after
step 1 in safe mode (R334). -/
def passStep (s : State) (result detail ms : Nat) (fs : List Finding) : State :=
  let k := s.start.step
  let s1 := loadFindings s k fs
  let lv := levelInUse s1 k
  let s2 := noteAlternative { s1 with flash := saveMaps s k fs } lv
  let s3 := setStep (journalAdd s2 k 2 lv result detail) k ⟨0, lv, result, min ms 65535⟩
  let s4 := stepEffect s3 k
  if k = 10 then s4
  else if k = 1 ∧ clkMode s = 3 then enterSafe s4 1
  else beginStep s4 (k + 1)

/-- The image that step 2 checks: the load buffer for BOOT_SRC 01 and 11, once it is complete. -/
def bootImage (s : State) (image : List Byte) : Option (List Byte) :=
  if bootSrc s = 1 ∨ bootSrc s = 3 then
    if s.start.loadDone then
      let n := min (2 ^ 24) (0x2000 + leNat ((span 0x10 8).map (loadByte s)))
      some ((span 0 n).map (loadByte s))
    else none
  else some image

/-- The end of the step in progress: it fails where it reports failure or where its findings fail it. A link that does not train
and a join that does not come never fail their steps. -/
def endStep (s : State) (ok : Bool) (result detail ms : Nat) (image : List Byte) (facts : List Finding) : State :=
  let k := s.start.step
  if k = 0 ∨ s.start.asserted ∨ s.start.state = 2 then s
  else if (!ok ∨ stepFaults s k facts ≠ 0) ∧ k ≤ 8 then failFound s result detail ms facts
  else if !(stepRegions k).all fun g => decide (g ∈ s.start.released) then s
  else if k = 2 then
    match bootImage s image with
    | none => s
    | some img =>
      let (t, r) := takeImage s img
      if r = 0 then passStep t 0 detail ms facts else failStep t r detail ms
  else passStep s result detail ms facts

/-- START_STEP. -/
def execStartStep (ok : Bool) (result detail ms : Nat) (image : List Byte) (facts : List Finding) (s : State) : Res :=
  .next (endStep s ok result detail ms image facts)

/-- START_STEP_TIMEOUT: the step in progress has exceeded its limit. -/
def execStartStepTimeout (s : State) : Res :=
  .next (let k := s.start.step
    if k = 0 ∨ s.start.asserted ∨ s.start.state = 2 ∨ s.hubUs - s.start.stepUs < stepLimit s k then s
    else if k ≤ 8 then failStep s 0xFF 0 ((s.hubUs - s.start.stepUs) / 1000)
    else passStep s 0 0 ((s.hubUs - s.start.stepUs) / 1000) [])

/-- RELEASE_WAVE_DONE: a region of the step in progress is released. -/
def execReleaseWaveDone (region : Nat) (s : State) : Res :=
  onUnit (decide (region < 13)) (if region ∈ stepRegions s.start.step ∧ !s.start.asserted then
    { s with start := { s.start with released := putRising region s.start.released } } else s)

/-! ## Reset sources and the end of reset (R325 to R330, R342, R394 to R396) -/

/-- POWER_ON: PWR_OK rises. -/
def execPowerOn (s : State) : Res :=
  .next (if s.start.pwrOk then s
    else
      let t := resetWith s 1 0 true
      { t with start := { t.start with pwrOk := true, trip := false, holdUs := 1000 } })

/-- POWER_DOWN: PWR_OK falls, and reset is asserted at once; a thermal-trip hold ends (R405). -/
def execPowerDown (s : State) : Res :=
  .next (if s.start.pwrOk then
      let t := resetWith s 1 0 true
      { t with start := { t.start with pwrOk := false, trip := false } }
    else s)

/-- PERST_ASSERT; it has no effect but on its pin while PWR_OK is low (R405). -/
def execPerstAssert (s : State) : Res :=
  .next (if s.start.perst then s
    else
      let t := if s.start.pwrOk then assertReset s 2 0 else s
      { t with start := { t.start with perst := true } })

/-- PERST_DEASSERT. -/
def execPerstDeassert (s : State) : Res := .next { s with start := { s.start with perst := false } }

/-- HOT_RESET. -/
def execHotReset (s : State) : Res := .next (if s.start.pwrOk then assertReset s 3 0 else s)

/-- LINK_DOWN. -/
def execLinkDown (s : State) : Res := .next (if s.start.pwrOk then assertReset s 4 0 else s)

/-- RST_WDOG.MS as it acts, in microseconds (R343). -/
def mgmtPeriod (s : State) : Nat := 1000 * min 60000 (max 100 (s.fld 0 (rstPage + 0x110) 15 0))

/-- MGMT_WATCHDOG_EXPIRY: firmware has let a period pass (R328). No row restarts the watchdog, so that a whole period since the end of
reset is all that the model asks (log entry 67). -/
def execMgmtWatchdogExpiry (s : State) : Res :=
  .next (if s.start.asserted ∨ s.hubUs < mgmtPeriod s then s else assertReset s 6 0)

/-- MANAGER_RESET (R329): a message that passes raises an error event and resets 100 µs later. -/
def execManagerReset (serial epoch : Nat) (good : Bool) (s : State) : Res :=
  .next (if s.start.asserted then s
    else if good ∧ serial = serialOf s ∧ epoch = packEpoch s then
      let t := errEvent s 0
      { t with start := { t.start with due := some (t.start.due.getD (100, 7, 0)) } }
    else (countVerify s good).count 0 (rstPage + 0x78) 1)

/-- The step that the previous start had entered and not left, if any. -/
def openStep (j : List JournalRec) : Option (Nat × Nat) :=
  match (j.filter fun r => decide (1 ≤ r.event ∧ r.event ≤ 4)).getLast? with
  | none => none
  | some r => if r.event = 1 then some (r.step, r.level) else none

/-- A step left open counts as failed after a reset of cause 6, and is recorded interrupted after any other (R340). -/
def closeOpenStep (s : State) (code : Nat) : State :=
  match openStep s.flash.journal with
  | none => s
  | some (k, lv) =>
    if code = 6 then recordFailure { s with start := { s.start with level := lv } } k 0xFF 0 0
    else journalAdd s k 4 lv 0 0

/-- Reset ends: straps are sampled, the start number rises, and step 1 begins, which writes the cause to the journal. -/
def endReset (s : State) (boot clk feed : Nat) : State :=
  let code := s.fld 0 (rstPage + 0x104) 3 0
  let s0 := { s with hubUs := 0, start := { Start.zero with pwrOk := true } }
  let s1 := closeOpenStep s0 code
  let s2 := if s1.flash.clearDue then clearSteps s1 else s1
  let s3 := { s2 with flash := { s2.flash with startNo := s2.flash.startNo + 1 } }
  let s4 := s3.setReg 0 (rstPage + 0x108) (feed % 16 * 2 ^ 8 + clk % 4 * 2 ^ 4 + boot % 4)
  let s5 := beginStep (s4.setFld 0 (packPage + 0x10C) 3 0 (feed % 16)) 1
  if s5.flash.startNo = 1 then s5 else journalAdd s5 0 5 0 code 0

/-- RESET_END: every source has let go. -/
def execResetEnd (boot clk feed : Nat) (s : State) : Res :=
  .next (if s.start.asserted && decide (s.start.holdUs = 0) && s.start.pwrOk && !s.start.perst && !s.start.trip then
    endReset s boot clk feed else s)

/-- A microsecond of the hub timer at reset: the hold runs down, PERST# still asserted after a power-on's hold is recorded in
ALSO (R395), and an ordered reset is asserted when it is due. -/
def resetTick (s : State) : State :=
  if s.start.asserted then
    let a := rstPage + 0x104
    let cool := if s.start.trip then s.start.coolUs + 1 else 0
    let s1 := { s with start := { s.start with holdUs := s.start.holdUs - 1, coolUs := cool } }
    if s.start.holdUs = 1 ∧ s.start.perst ∧ s.fld 0 a 3 0 = 1 then s1.setReg 0 a (s.reg 0 a ||| 2 ^ 9) else s1
  else match s.start.due with
    | none => s
    | some (n, code, sub) =>
      if n ≤ 1 then assertReset s code sub
      else { s with start := { s.start with due := some (n - 1, code, sub) } }

/-! ## RST_CTRL (R327, R341, R343) -/

/-- SUB of a keyed software reset by its writer: the host, the management core or a control core, the monitor. -/
def resetSub (rq : Nat) : Nat := if rq = 49 then 2 else if rq = 0 then 0 else 1

/-- LOAD_DONE: the load buffer is complete. In safe mode at step 2, a sound image clears FAILS of that step (R341). -/
def loadComplete (s : State) : State :=
  let s1 := { s with start := { s.start with loadDone := true } }
  if s.start.state = 2 ∧ s.start.step = 2 ∧ (bootSrc s = 1 ∨ bootSrc s = 3) then
    match bootImage s1 [] with
    | none => s1
    | some img => if imageCheck s1 img = 0 then setStep s1 2 { stepRec s1 2 with fails := 0 } else s1
  else s1

/-- RST_CTRL written; DEVICE_RESET and CLEAR_STEPS have passed their key check. -/
def writeRstCtrl (s : State) (rq v : Nat) : State :=
  let s1 := if bit v 30 then
      (if s.start.state = 0 then { s with flash := { s.flash with clearDue := true } } else clearSteps s) else s
  let s2 := if bit v 29 then loadComplete s1 else s1
  if bit v 31 then assertReset s2 5 (resetSub rq) else s2

/-! ## Block resets (R335 to R337) -/

/-- Whether a block exists. -/
def blockExists (type inst : Nat) : Bool :=
  match type with
  | 0 => decide (inst < 64)
  | 1 => decide (inst < 16)
  | 2 => decide (inst < 64)
  | _ => decide (inst < 10)

/-- Whether a block reset is refused (R337). -/
def blockRefused (s : State) (type inst : Nat) : Bool :=
  drainRuns s || s.pack.stopNo.isSome || !blockExists type inst ||
    (decide (type = 2) && decide ((s.panel inst).state = .wedged ∨ (s.panel inst).state = .held)) ||
    (decide (type = 1) && s.stackSet.selfRefresh.any fun st => decide (st / 4 = inst / 4 ∧ st ≠ inst)) ||
    (decide (type = 3 ∧ 8 ≤ inst) && decide (1 ≤ swtState s ∧ swtState s ≤ 3))

/-- Requests that wait or are served at a stack's arbiters complete ISOLATED. -/
def isolateStack (s : State) (st : Nat) : State :=
  let s1 := isolateRequests s
  (span (32 * st) 32).foldl (fun t a => t.setArb a { t.arb a with waiting := [], serving := none }) s1

/-- Orders 1 to 3 of R335 on a block. -/
def isolateBlock (s : State) (type inst : Nat) : State :=
  match type with
  | 0 => portGoesDown s inst 3
  | 1 => isolateStack { s with stackSet := { s.stackSet with selfRefresh := putRising inst s.stackSet.selfRefresh } } inst
  | 2 =>
    let s1 := endStream s inst 3
    let r := panelRing s1 inst
    let s2 := if (s1.panel inst).state = .off then s1 else s1.setPanel inst { s1.panel inst with state := .idle }
    if (s2.ring r).mode = .on then ringStop s2 r else s2
  | _ =>
    let T := s.rtv inst
    let descs := T.descs.map fun d => { d with cut := if d.cut.isNone then some 3 else d.cut }
    let chans := T.chans.map fun c => (c.1, { c.2 with shadow := none })
    let s1 := settle (s.setRtv inst { T with descs := descs, chans := chans })
    let s2 := (span 0 8).foldl (fun t f => if trkEn t inst f then writeTrkCfg t inst f 0 else t) s1
    let rings := (s2.rings.map Prod.fst).filter fun r =>
      decide ((s2.ring r).kind = 1 ∧ (s2.ring r).server = 2 ∧ (s2.ring r).serverId = inst)
    rings.foldl ringStop s2

/-- RST_BLK written: TYPE and INSTANCE, and with GO a block reset starts or is refused. -/
def writeBlk (s : State) (v : Nat) : State :=
  let a := rstPage + 0x120
  let type := bits v 9 8
  let inst := bits v 6 0
  if !bit v 31 then (s.setFld 0 a 9 8 type).setFld 0 a 6 0 inst
  else if s.start.block.isSome then errState (s.count 0 (rstPage + 0x70) 1) rstPage
  else if blockRefused s type inst then (errState (s.count 0 (rstPage + 0x70) 1) rstPage).setFld 0 a 30 28 5
  else
    let s1 := (s.setFld 0 a 9 8 type).setFld 0 a 6 0 inst
    isolateBlock ({ s1 with start := { s1.start with block := some (type, inst) } }.setFld 0 a 30 28 3) type inst

/-- Whether a block has come to rest: a Retriever once its requests have landed and its FIFOs are disabled. -/
def blockAtRest (s : State) (type inst : Nat) : Bool :=
  decide (type ≠ 3) || ((s.rtv inst).descs.isEmpty && (span 0 8).all fun f => !trkEn s inst f)

/-- A stack whose controller has been reset runs again: its island's clock too; it has been trained from stored values where its
rate is 6.4 Gb/s (R162, R336). DEDUCED (log entry 105). -/
def retrainStack (s : State) (st : Nat) : State :=
  let a := stackPage st + 0x100
  let s1 := { s with power := { s.power with stopped := s.power.stopped.filter (· ≠ st) }
                     stackSet := { s.stackSet with selfRefresh := s.stackSet.selfRefresh.filter (· ≠ st) } }
  if s.fld 0 a 30 30 = 0 then s1.setFld 0 a 29 29 1 else s1

/-- BLOCK_RESET_DONE: order 4. -/
def execBlockResetDone (s : State) : Res :=
  .next (match s.start.block with
    | none => s
    | some (type, inst) =>
      if !blockAtRest s type inst then s
      else
        let s1 := { s with start := { s.start with block := none } }.setFld 0 (rstPage + 0x120) 30 28 0
        let s2 := s1.count 0 (rstPage + 0x50 + 8 * type) 1
        match type with
        | 0 => trainAgain s2 inst
        | 1 => retrainStack s2 inst
        | _ => s2)

end Sys2Proof.Machine
end

