-- ==== Sys2Proof/Machine/RegRead.lean ====
section
/-! DEFINITION. Sys2Proof/Machine/RegRead.lean: what a read of a register returns (R374 to R388). No read changes anything
(R379). -/

namespace Sys2Proof.Machine

open Sys2Proof

/-! ## The common head (R374 to R376) -/

/-- The start step that releases a page's block (R331). -/
def releaseStep (page : Nat) : Nat :=
  match regionOf page with
  | 1 => 1
  | 2 => 1
  | 3 => 1
  | 7 => 1
  | 8 => 7
  | 9 => 7
  | 10 => if instOf page < 8 then 7 else 4
  | 11 => 5
  | 12 => 6
  | 13 => 9
  | _ => 4

/-- READY of a page: its block has been released at its start step, and is in service. -/
def blockReady (s : State) (page : Nat) : Bool :=
  !s.start.asserted && decide (s.start.step = 0 ∨ releaseStep page < s.start.step) &&
    decide (s.start.state ≠ 2 ∨ regionOf page ≤ 3)

/-- BLK_RESET of a page: a block reset of its block is in progress (R335, R336). -/
def blockInReset (s : State) (page : Nat) : Bool :=
  match s.start.block with
  | none => false
  | some (type, inst) =>
    decide (page = match type with
      | 0 => portPage inst
      | 1 => stackPage inst
      | 2 => pnlPage inst
      | _ => rtvPage inst)

/-- A register of the common head. -/
def headValue (s : State) (rq a : Nat) : Nat :=
  let page := a - offOf a
  match offOf a with
  | 0x000 => blockId page
  | 0x004 => 2 ^ 24
  | 0x008 => blockCap (regionOf page) (instOf page)
  | 0x014 => flag (blockReady s page) * 2 ^ 31 + flag (blockInReset s page) * 2 ^ 30
  | 0x018 => s.reg 0 a
  | 0x01C => s.reg 0 a
  | 0x020 => s.reg 0 a
  | 0x028 => s.sel rq a % 2 ^ 8
  | _ => 0

/-! ## Windows (R122, R183, R204, R261) -/

/-- RING_CFG as it reads. -/
def ringCfgValue (R : Ring) : Nat :=
  R.kind * 2 ^ 30 + R.outMode * 2 ^ 29 + R.space * 2 ^ 28 + R.home * 2 ^ 25 + R.slotsM1 * 2 ^ 12 + R.server * 2 ^ 8 +
    R.serverId * 2 ^ 4 + R.part

/-- A register of the ring window of a ring, at its offset in the window. -/
def ringValue (s : State) (r woff : Nat) : Nat :=
  let R := s.ring r
  match woff with
  | 0x00 => ringCfgValue R
  | 0x04 => R.slotSize
  | 0x08 => R.base
  | 0x10 => if R.kind = 2 then freedOf s R else R.head
  | 0x14 => if R.kind = 2 then filledOf s R else R.tail
  | 0x18 => R.issue
  | 0x1C => R.tagQuota * 2 ^ 16 + R.limit
  | 0x20 => R.classOvr
  | 0x24 => ringTags s r * 2 ^ 20 + R.inFlight * 2 ^ 11 + ringStateCode R
  | 0x28 => R.freeSync * 2 ^ 16 + R.fillSync
  | 0x2C => R.wdogMs
  | 0x30 => R.srSeed
  | 0x38 => R.srStream
  | 0x40 => R.admState * 2 ^ 24 + R.admStatus * 2 ^ 16 + R.admInput
  | 0x44 => R.admDies * 2 ^ 8 + R.admUp * 2 ^ 4 + R.admDown
  | 0x48 => R.admRate
  | 0x4C => R.admLargest
  | 0x50 => R.admNeed
  | 0x54 => R.admGrant
  | 0x58 => R.cntDemoted
  | 0x60 => R.energy
  | 0x68 => match R.req with
    | none => 0
    | some q => q.id
  | 0x70 => flag R.req.isSome * 2 ^ 31
  | 0x74 => match R.req with
    | none => 0
    | some q => q.openSeq
  | 0x78 => match R.req with
    | none => 0
    | some q => (s.account q.no).energy
  | 0x80 => R.cntDone
  | 0x88 => R.cntBytes
  | 0x90 => R.cntDiscard
  | 0x98 => R.cntConflict
  | _ => 0

/-- A register of the sync window of an object, at its offset in the window: a counter shows no generation, a barrier no
value. -/
def syncValue (s : State) (o woff : Nat) : Nat :=
  let x := s.obj o
  match woff with
  | 0x00 => x.kind * 2 ^ 30 + flag x.pack * 2 ^ 29 + x.part * 2 ^ 24 + (if x.kind = 2 then x.count else 0)
  | 0x04 => if x.kind = 2 then 0 else x.value
  | 0x08 => x.early * 2 ^ 16 + x.arrived
  | 0x0C => if x.kind = 1 then 0 else x.gen
  | 0x10 => flag x.broken * 2 ^ 31 + flag x.saturated * 2 ^ 30 + flag x.misuse * 2 ^ 29 + x.cause * 2 ^ 26 + x.waiting
  | 0x14 => x.breakerMember * 2 ^ 16 + x.breakerRing
  | _ => 0

/-- A result-slot register of a ring at its page offset (R324). -/
def rsValue (s : State) (r off : Nat) : Nat :=
  let R := s.ring r
  match off with
  | 0x134 => flag R.rsEn * 2 ^ 31 + R.rsSpace * 2 ^ 30 + R.rsVector
  | 0x138 => R.rsBase
  | _ => R.released

/-! ## Registers that show the state of their blocks -/

/-- Selected values of the hub page. -/
def hubValue (s : State) (idx off : Nat) : Nat :=
  match off with
  | 0x208 => admResource s idx
  | 0x2A0 => s.flash.swtLast
  | 0x2A8 => s.flash.swtDurable
  | 0x304 => arbCtrl (s.arb (arbOf hubPage idx))
  | _ => s.reg idx (hubPage + off)

/-- The 32 bytes of a journal record (R338); the CRC is of the bytes before it. -/
def journalBytes (r : JournalRec) : List Byte :=
  let b := leBytes 8 r.startNo ++ leBytes 4 r.timeUs ++ leBytes 1 r.step ++ leBytes 1 r.event ++ leBytes 1 r.level ++
    leBytes 1 r.result ++ leBytes 12 r.detail
  b ++ leBytes 4 (Config.crc32 b).toNat

/-- RST_STEP_STATUS of a step (R340, R343). -/
def stepStatus (s : State) (k : Nat) : Nat :=
  if 1 ≤ k ∧ k ≤ 10 then
    let r := stepRec s k
    min r.fails 3 * 2 ^ 30 + r.level * 2 ^ 28 + r.result % 256 * 2 ^ 16 + min r.ms 65535
  else 0

/-- A word of the journal record that RST_JNL_SEL names. -/
def journalWord (s : State) (k i : Nat) : Nat :=
  match s.flash.journal[k]? with
  | none => 0
  | some r => field (journalBytes r) (4 * i) 4

/-- RST_START: STATE, and the step in progress, the failing step, or 0 when READY. -/
def startValue (s : State) : Nat := s.start.state * 2 ^ 30 + if s.start.state = 1 then 0 else s.start.step

/-- Values of the reset and start page. -/
def rstValue (s : State) (idx off : Nat) : Nat :=
  if 0x140 ≤ off ∧ off < 0x160 then journalWord s idx ((off - 0x140) / 4)
  else match off with
    | 0x040 => s.flash.cntAlt
    | 0x048 => s.flash.cntSafe
    | 0x10C => startValue s
    | 0x118 => stepStatus s idx
    | 0x168 => s.flash.startNo
    | _ => s.reg idx (rstPage + off)

/-- Values of the security page. -/
def secValue (s : State) (off : Nat) : Nat :=
  match off with
  | 0x060 => s.flash.cntFwRefused
  | 0x100 => secStatus s
  | 0x108 => s.sec.version
  | _ => s.reg 0 (secPage + off)

/-- Values of the power page: selectors beyond their objects have been met before. -/
def pwrValue (s : State) (idx off : Nat) : Nat :=
  let Q := s.quad idx
  match off with
  | 0x144 => Q.temp / 4 % 256 * 2 ^ 24 + Q.pace * 2 ^ 9 + limitCode Q * 2 ^ 5 + Q.vcode
  | 0x148 => min Q.amps 65535 * 2 ^ 16 + min Q.ctlW 65535
  | 0x150 => throttleReasons s
  | 0x154 => min (s.power.pmeas / 1000000) 65535 * 2 ^ 16 + min (s.power.pctl / 1000000) 65535
  | 0x164 => (s.ring idx).savedPhase * 2 ^ 4 + (s.ring idx).phase
  | 0x174 => weightOf (idx / 16) (idx % 16) % 2 ^ 32
  | _ => s.reg idx (pwrPage + off)

/-- STATE of a channel (R141). -/
def channelState (C : Channel) : Nat := if C.active.isNone then 0 else if C.shadow.isNone then 1 else 2

/-- Values of a Retriever page. -/
def rtvValue (s : State) (n idx off : Nat) : Nat :=
  match off with
  | 0x100 => tagsReserved s n % 2 ^ 12 * 2 ^ 16 + (2048 - tagsHeld s n)
  | 0x108 => channelState (s.chan n idx) * 2 ^ 16 + s.fld idx (rtvPage n + 0x108) 15 0
  | 0x1AC => (s.trickle n idx).words.length * 2 ^ 4 + (s.trickle n idx).part.length / 4
  | _ => s.reg idx (rtvPage n + off)

/-- PCI_LINK: the trained link, and USABLE, which is B_host in whole GB/s: 220 at x16, 128 GT/s and a max payload size of 512
bytes, in proportion to width × rate, less 4 % at 256 bytes and 11 % at 128 (R306). DEDUCED (log entry 101): a fraction of a GB/s
is cut off. -/
def pciLink (s : State) : Nat :=
  let w := s.reg 0 (pciPage + 0x100) % 512
  let rate := [25, 50, 80, 160, 320, 640, 1280].getD (bits w 7 5) 0
  let share := if s.pci.mps = 2 then 100 else if s.pci.mps = 1 then 96 else 89
  220 * (w % 32) * rate * share / (16 * 1280 * 100) * 2 ^ 16 + w

/-- The value of a register of a block page beside its head, at the index that its selector names. -/
def blockValue (s : State) (a idx : Nat) : Nat :=
  let off := offOf a
  let i := instOf a
  match regionOf a with
  | 0 => hubValue s idx off
  | 1 => rstValue s idx off
  | 2 => secValue s off
  | 3 => if off = 0x158 then flag (bit (s.reg 0 a) 31) * 2 ^ 31 + s.monitor.held.length else s.reg 0 a
  | 4 => pwrValue s idx off
  | 5 => if off = 0x104 then s.fld 0 a 31 26 * 2 ^ 26 + min (ldgPending s) 12288 else s.reg idx a
  | 6 => if off = 0x104 then mirrorsUsed s else if 0x200 ≤ off then syncValue s idx (off - 0x200) else s.reg 0 a
  | 7 => if off = 0x100 then pciLink s else if off = 0x10C then fnState s idx else if 0x134 ≤ off ∧ off < 0x144 then rsValue s idx off else s.reg idx a
  | 8 => if off = 0x144 then fotData s i (s.fld 0 (loomPage i + 0x140) 8 0) else s.reg idx a
  | 9 => if off = 0x100 then panelStateWord s i else if off = 0x104 then panelStateCode (s.panel i).state else s.reg 0 a
  | 10 => rtvValue s i idx off
  | 11 => ringValue s (16384 * i + idx % 16384) (off - 0x200)
  | 12 => if off = 0x304 ∧ i < 16 then arbCtrl (s.arb (arbOf (stackPage i) idx)) else s.reg idx a
  | 13 => if off = 0x304 ∧ i < 64 then arbCtrl (s.arb (arbOf (portPage i) idx)) else s.reg idx a
  | _ => s.reg idx a

/-! ## The function page of a VF (R309) -/

/-- Whether a VF's selection lies in its partition. -/
def vfRing (s : State) (f r : Nat) : Bool := decide ((s.ring r).part = f)
def vfObj (s : State) (f o : Nat) : Bool := decide ((s.obj o).part = f) && !(s.obj o).pack

/-- A register of a VF's function page beside its head; a selection outside the partition reads zeros. -/
def vfValue (s : State) (f off idx : Nat) : Nat :=
  if 0x200 ≤ off ∧ off < 0x300 then (if vfRing s f idx then ringValue s idx (off - 0x200) else 0)
  else if 0x300 ≤ off ∧ off < 0x320 then (if vfObj s f idx then syncValue s idx (off - 0x300) else 0)
  else if vfRing s f idx then rsValue s idx off else 0

/-! ## Reads (R378, R383, R384) -/

/-- The bits of a register that a read shows: WO and W1S fields and reserved bits read 0. -/
def readMask (r : RegSpec) : Nat :=
  accMask (fun x => decide (x ≠ .wo ∧ x ≠ .w1s)) r.fields

/-- The index of a register: what the requester's selector names, or 0. -/
def indexOf (s : State) (rq a : Nat) : Nat :=
  match selectorOf a with
  | none => 0
  | some q => s.sel rq q

/-- Whether the selector of a register names an object that the page holds. -/
def indexInside (s : State) (rq a : Nat) : Bool :=
  match selectorOf a with
  | none => true
  | some q => decide (s.sel rq q < windowSize q)

/-- The value of the register at an offset, as a requester reads it; a reserved offset reads 0. -/
def regValue (s : State) (rq a : Nat) : Nat :=
  match specAt a with
  | none => 0
  | some r =>
    if offOf a < 0x40 then headValue s rq a
    else
      let v := if isSelector a then s.sel rq a
        else if !indexInside s rq a then 0
        else if regionOf a = 0x40 then vfValue s (instOf a) (offOf a) (indexOf s rq a)
        else blockValue s a (indexOf s rq a)
      v &&& readMask r

/-- Whether the pages of a BAR0 offset answer now (R333, R341, R384). -/
def pageAnswers (s : State) (a : Nat) : Bool :=
  let r := regionOf a
  !s.start.asserted && (pageRegs r (instOf a)).isSome &&
    (devReady s || decide (r = 1 ∨ r = 3) || (decide (s.start.state = 2) && decide (r = 0 ∨ r = 2)))

/-- An aligned word of a page: a register, or a half of a 64-bit register. -/
def wordAt (s : State) (rq a : Nat) : Nat :=
  match specAt (a / 8 * 8) with
  | some ⟨_, true, _⟩ => if a % 8 = 0 then regValue s rq a % 2 ^ 32 else regValue s rq (a - 4) / 2 ^ 32 % 2 ^ 32
  | _ => regValue s rq a % 2 ^ 32

/-- A word of the MSI-X tables and the PBA of PF0: the vector control word is stored with its mask bit inverted (R309). -/
def msixWord (s : State) (f o : Nat) : Nat :=
  let v := s.reg 0 (msixTable f + o)
  if o % 16 = 12 then Nat.xor v 1 else v
def pbaWord (s : State) (f o : Nat) : Nat :=
  ((s.fn f).pending.filter fun v => decide (v / 32 = o / 4)).foldl (fun n v => n + 2 ^ (v % 32)) 0

/-- An aligned word of PF0's BAR0; a page that does not answer reads all ones. -/
def barWord (s : State) (rq a : Nat) : Nat :=
  let i := instOf a
  if regionOf a = 7 ∧ 16 ≤ i ∧ i ≤ 24 then
    if devReady s then (if i < 24 then msixWord s 0 (a - pageAddr 7 16) else if offOf a < 256 then pbaWord s 0 (offOf a) else 0)
    else 2 ^ 32 - 1
  else if pageAnswers s a then wordAt s rq a
  else 2 ^ 32 - 1

end Sys2Proof.Machine
end

