-- ==== Sys2Proof/Machine/RegWrite.lean ====
section
/-! DEFINITION. Sys2Proof/Machine/RegWrite.lean: register writes: access sizes, KEY, selectors, windows and the write rules of
every page (R359, R374 to R389). -/

namespace Sys2Proof.Machine

open Sys2Proof

/-! ## Guarded fields (R377, R380, R381) -/

/-- The guarded bits of the register at an offset. -/
def guardMask (a : Nat) : Nat :=
  match regionOf a, offOf a with
  | 0, 0x240 => 2 ^ 31 + 2 ^ 28
  | 1, 0x100 => 2 ^ 31 + 2 ^ 30
  | 1, 0x120 => 2 ^ 31
  | 2, 0x104 => 2 ^ 31
  | 6, 0x210 => 2 ^ 28
  | 10, 0x108 => 2 ^ 30
  | 11, 0x220 => 2 ^ 5
  | 13, 0x100 => if instOf a < 64 then 2 ^ 30 else 0
  | 13, 0x114 => if instOf a = 64 then 2 ^ 31 else 0
  | 0x40, 0x220 => 2 ^ 5
  | 0x40, 0x310 => 2 ^ 28
  | _, 0x24 => errBits (a - offOf a)
  | _, _ => 0

/-- A requester's KEY in the page of an offset is armed. -/
def keyArmed (s : State) (rq a : Nat) : Bool := decide (s.sel rq (a - offOf a + 0x28) % 256 = 0xA5)

/-- A guarded write consumes the copy of KEY, or finds it unarmed: its guarded fields have no effect and ERR_STAT.KEY is set. The
answer is the state and the value that goes on (R380). -/
def passGuard (s : State) (rq a v : Nat) : State × Nat :=
  let g := v &&& guardMask a
  if g = 0 then (s, v)
  else if keyArmed s rq a then (s.setSel rq (a - offOf a + 0x28) 0, v)
  else (errKey s (a - offOf a), v - g)

/-! ## Plain registers and the common head -/

/-- A register's plain rules: RW fields are stored, W1C bits cleared, every other field kept (R378). -/
def writePlain (s : State) (idx a v : Nat) : State :=
  match specAt a with
  | none => s
  | some r =>
    let rw := accMask (fun x => decide (x = .rw)) r.fields
    let clr := accMask (fun x => decide (x = .w1c)) r.fields &&& v
    let old := s.reg idx a
    let kept := old - (old &&& (rw ||| clr))
    s.setReg idx a (kept ||| (v &&& rw))

/-- Every bit of a list sets its ERR_STAT bit. -/
def injectErrors (s : State) (page v : Nat) : State :=
  (span 0 32).foldl (fun t b => if bit v b then raiseErr t page b Who.none (pagePart page) else t) s

/-- A register of the common head written (R376, R377, R380). -/
def writeHead (s : State) (rq a v : Nat) : State :=
  let page := a - offOf a
  match offOf a with
  | 0x018 => s.setReg 0 a (s.reg 0 a - (s.reg 0 a &&& v))
  | 0x01C => s.setReg 0 a (v &&& errBits page)
  | 0x024 => injectErrors s page (v &&& errBits page)
  | 0x028 => s.setSel rq a (v % 256)
  | _ => s

/-- A selector written: the requester's own copy; an arbiter beyond the page's own reads back 0 (R203, R382). -/
def writeSelector (s : State) (rq a v : Nat) : State :=
  match specAt a with
  | none => s
  | some r =>
    let w := v &&& accMask (fun x => decide (x = .rw)) r.fields
    let arbs := if regionOf a = 0 then 8 else if regionOf a = 12 then 32 else 1
    if offOf a = 0x300 ∧ arbs ≤ w % 32 then s.setSel rq a (w / 32 * 32) else s.setSel rq a w

/-! ## The sync window (R180, R183) -/

/-- SYNC_OBJ_CFG written. -/
def writeObjCfg (s : State) (page o v : Nat) (vf : Option Nat) : State :=
  let x := s.obj o
  let kind := bits v 31 30
  let count := bits v 15 0
  let changes := decide (kind = 2 ∧ x.kind = 2 ∧ count ≠ x.count)
  if x.waiting ≠ 0 ∨ x.broken ∨ kind = 3 ∨ (kind = 2 ∧ count = 0) ∨ (changes ∧ (x.arrived ≠ 0 ∨ x.early ≠ 0)) then
    errState s page
  else
    let y := if kind = x.kind then x else { SyncObj.zero with subs := x.subs }
    let n := if kind = 2 then count else 0
    let z := { y with kind := kind, pack := bit v 29, part := vf.getD (bits v 27 24), count := n }
    let t := publish (s.setObj o z) o
    if x.pack && !z.pack then forwardObj t o true else t

/-- SYNC_OBJ_VALUE or SYNC_OBJ_GEN written. -/
def writeObjState (s : State) (page o woff v : Nat) : State :=
  let x := s.obj o
  if x.waiting ≠ 0 ∨ x.broken then errState s page
  else if woff = 0x04 then (if x.kind = 2 then s else publish (s.setObj o { x with value := v % 2 ^ 32 }) o)
  else if x.kind = 1 then s
  else publish (s.setObj o { x with gen := v % 256 }) o

/-- SYNC_OBJ_FLAGS written: flags cleared, and BREAK, whose key check has passed (R180). -/
def writeObjFlags (s : State) (o v : Nat) : State :=
  let x := s.obj o
  let y := { x with saturated := x.saturated && !bit v 30, misuse := x.misuse && !bit v 29 }
  let z := if bit v 31 ∧ x.broken then
      { y with broken := false, arrived := 0, early := 0, cause := 0, breakerMember := 0, breakerRing := 0 } else y
  let s1 := if z = x then s else publish (s.setObj o z) o
  if bit v 28 then breakAll s1 o 2 (ownMember s) 0 else s1

/-- SYNC_OBJ_OP written: a SIGNAL or an ARRIVE that never waits, checked as the entry would be, its reserved bits among them
(check 1, log entry 77), and against PART for a host function (R165, R183). -/
def writeObjOp (s : State) (page o v : Nat) (part : Option Nat) : State :=
  let op := bits v 31 30
  let who := Who.none
  if op ≠ 0 ∧ op ≠ 3 ∧ bits v 29 24 ≠ 0 then errState s page
  else if op = 1 then
    if bits v 15 0 = 0 ∨ storeCheck s false o 1 part ≠ 0 then errState s page
    else signalObj s o (bits v 15 0) who
  else if op = 2 then
    if storeCheck s false o 2 part ≠ 0 then errState s page
    else match arrivalKind (s.obj o) (bits v 23 16) with
      | .saturated => errState (arriveObj s o (bits v 23 16) none who) page
      | .misuse => errState (arriveObj s o (bits v 23 16) none who) page
      | _ => arriveObj s o (bits v 23 16) none who
  else s

/-- The sync window of an object written at a window offset. -/
def writeSync (s : State) (page rq o woff v : Nat) (vf : Option Nat) : State :=
  match woff with
  | 0x00 => writeObjCfg s page o v vf
  | 0x04 => writeObjState s page o 0x04 v
  | 0x0C => writeObjState s page o 0x0C v
  | 0x10 => writeObjFlags s o v
  | 0x18 => writeObjOp s page o v (if rq < 16 then some rq else none)
  | _ => s

/-! ## The ring window (R122, R204) -/

/-- The ring window of a ring written at a window offset. -/
def writeRing (s : State) (r woff v : Nat) (vf : Option Nat) : State :=
  match woff with
  | 0x00 => holdIfWedged (writeRingConfig s r 0x00 v vf)
  | 0x04 => writeRingConfig s r 0x04 v vf
  | 0x08 => writeRingConfig s r 0x08 v vf
  | 0x14 => writeTail s r v
  | 0x1C => writeRingConfig s r 0x1C v vf
  | 0x20 => writeRingCtrl s r v
  | 0x28 => writeRingConfig s r 0x28 v vf
  | 0x2C => writeRingPlain s r 0x2C v
  | 0x30 => writeRingPlain s r 0x30 v
  | 0x38 => writeRingPlain s r 0x38 v
  | 0x40 => writeRingAdm s r 0x40 v
  | 0x44 => writeRingAdm s r 0x44 v
  | 0x48 => writeRingAdm s r 0x48 v
  | 0x4C => writeRingAdm s r 0x4C v
  | 0x50 => writeRingAdm s r 0x50 v
  | _ => s

/-! ## Pages with rules of their own -/

/-- The arbiter registers of a page written (R188, R203). -/
def writeArb (s : State) (page idx off v : Nat) : State :=
  if off = 0x304 then setFreeze s (arbOf page idx) (bit v 31)
  else if off = 0x30C ∧ bit v 31 then clearWait s page idx
  else s

/-- The hub page. -/
def writeHub (s : State) (idx off v : Nat) : State :=
  if off = 0x130 then { writePlain s idx (hubPage + off) v with pack := { s.pack with lossTouched := true } }
  else if 0x300 ≤ off then writeArb s hubPage idx off v
  else if off = 0x120 then writeCoreWdog s v
  else if off = 0x200 then writeVmin s v
  else if off = 0x240 then writeSwtCtrl s v
  else if off = 0x278 then writeSwtReg s 0 off v
  else if off = 0x280 then writeSwtReg s 0 off (bits v 15 0)
  else if off = 0x288 then writeSwtReg s idx off (bits v 31 27 * 2 ^ 27)
  else if 0x290 ≤ off ∧ off ≤ 0x298 then writeSwtReg s idx off v
  else if off = 0x2A8 then writeDurable s v
  else writePlain s idx (hubPage + off) v

/-- MON_FILT_CTRL: EN is stored, CLEAR zeroes the five filtered counters (R372). -/
def writeFilt (s : State) (v : Nat) : State :=
  let s1 := s.setReg 0 (monPage + 0x108) (bits v 31 31 * 2 ^ 31)
  if bit v 30 then (span 0 5).foldl (fun t i => t.setReg 0 (monPage + 0x110 + 8 * i) 0) s1 else s1

/-- MON_TRC_CFG: while EN is 1 only EN may change; SIZE_LOG2 is 10 to 26. Clearing EN discards the held records; setting it
clears STOPPED (R371, R372). -/
def writeTrcCfg (s : State) (v : Nat) : State :=
  let a := monPage + 0x140
  let old := s.reg 0 a
  let new := v % 2 ^ 32 - v % 2 ^ 32 % 2 ^ 21 + v % 2 ^ 16
  let M := s.monitor
  let start (t : State) : State :=
    if bit v 31 then
      { t.setFld 0 (monPage + 0x158) 31 31 0 with monitor := { t.monitor with stopping := false } }
    else t
  if bit old 31 then
    if bits new 30 0 ≠ bits old 30 0 then errState s monPage
    else if bit v 31 then start s
    else
      ({ s with monitor := { M with held := [], lost := 0, stopping := false } }.setReg 0 a new).count 0
        (monPage + 0x68) M.held.length
  else if bits v 26 21 < 10 ∨ 26 < bits v 26 21 then errState s monPage
  else start (s.setReg 0 a new)

/-- MON_TRC_TRIGGER: a TRIGGER record with the value written (R363, R371). -/
def writeTrigger (s : State) (v : Nat) : State := trace s (blockId monPage) 8 0 (v % 2 ^ 32) Who.none

/-- The monitor page. DESIGN CHOICE (log entry 102): an unaligned MON_TRC_BASE is refused. -/
def writeMon (s : State) (off v : Nat) : State :=
  let a := monPage + off
  match off with
  | 0x108 => writeFilt s v
  | 0x140 => writeTrcCfg s v
  | 0x148 => if bit (s.reg 0 (monPage + 0x140)) 31 ∨ v % 64 ≠ 0 then errState s monPage else s.setReg 0 a v
  | 0x154 => if 2 ^ 31 ≤ sub32 (s.reg 0 (monPage + 0x150)) v then errState s monPage else s.setReg 0 a (v % 2 ^ 32)
  | 0x15C => writeTrigger s v
  | _ => writePlain s 0 a v

/-- The ledger page. -/
def writeLdg (s : State) (idx off v : Nat) : State :=
  match off with
  | 0x100 => writeLdgCtrl s v
  | 0x108 => writeLdgCfg s v
  | 0x110 => writeLdgBase s v
  | 0x11C => writeLdgGet s v
  | _ => writePlain s idx (ldgPage + off) v

/-- Whether a function's vectors meet another function's range (R324). -/
def vectorsMeet (s : State) (f base count : Nat) : Bool :=
  (span 0 16).any fun g =>
    let c := s.reg g (pciPage + 0x108)
    decide (g ≠ f) && decide (bits c 31 21 < base + count) && decide (base < bits c 31 21 + bits c 20 9)
      && decide (bits c 20 9 ≠ 0 ∧ count ≠ 0)

/-- PCI_FN_CFG written. -/
def writeFnCfg (s : State) (f v : Nat) : State :=
  let base := bits v 31 21
  let count := bits v 20 9
  if (s.fn f).msixEn ∨ 2048 < base + count ∨ vectorsMeet s f base count then errState s pciPage
  else s.setReg f (pciPage + 0x108) (base * 2 ^ 21 + count * 2 ^ 9)

/-- The PCI page. -/
def writePci (s : State) (idx off v : Nat) : State :=
  if off = 0x108 then writeFnCfg s idx v
  else if off = 0x134 ∨ off = 0x138 then writeRs s pciPage idx off v
  else writePlain s idx (pciPage + off) v

/-- A Loom page. -/
def writeLoom (s : State) (n idx off v : Nat) : State :=
  if off = 0x174 then writeWrtCtrl s n idx v
  else if 0x178 ≤ off ∧ off ≤ 0x184 then writeWrtRange s n idx off v
  else if off = 0x190 then writeWarpBuf s n v
  else writePlain s idx (loomPage n + off) v

/-- A panel page. -/
def writePnl (s : State) (p off v : Nat) : State :=
  if off = 0x108 then (if bit v 0 then pnlResume s p else s)
  else if off = 0x10C then writeCmdRing s p v
  else s

/-- RTV_CH_CTRL: ACCT_RING is stored, CANCEL, whose key check has passed, cancels the channel, ARM arms it (R132, R135). -/
def writeChCtrl (s : State) (n c v : Nat) : State :=
  let s1 := s.setFld c (rtvPage n + 0x108) 15 0 (bits v 15 0)
  let s2 := if bit v 30 then cancelChannel s1 n c else s1
  if bit v 31 then armChannel s2 n c else s2

/-- A Retriever page. -/
def writeRtv (s : State) (n idx off v : Nat) : State :=
  if off = 0x108 then writeChCtrl s n idx v
  else if off = 0x184 then writeTrkCfg s n idx v
  else if 0x188 ≤ off ∧ off ≤ 0x198 then writeTrkReg s n idx off v
  else if off = 0x1A4 then writeGet s n idx v
  else if off = 0x1A8 then writeTrkCtrl s n idx v
  else writePlain s idx (rtvPage n + off) v

/-- A stack page or a die map page. -/
def writeHbm (s : State) (i idx off v : Nat) : State :=
  if 16 ≤ i then (if off = 0x104 then writeWindow s (i - 16) idx v else s)
  else if 0x300 ≤ off then writeArb s (stackPage i) idx off v
  else if off = 0x104 then (if bit v 31 then clearPeak s i else s)
  else writePlain s idx (stackPage i + off) v

/-- A port page or the pack page. -/
def writePlk (s : State) (i idx off v : Nat) : State :=
  if i < 64 then
    (if 0x300 ≤ off then writeArb s (portPage i) idx off v
    else if off = 0x100 then writePortCtrl s i v
    else s)
  else match off with
    | 0x108 => writePlkMgr s v
    | 0x10C => writePlkDomain s v
    | 0x114 => writeStopCtrl s v
    | _ => s

/-- A register of a block page of PF0 beside its head and selectors written, at the index that its selector names. -/
def writeBlock (s : State) (rq a idx v : Nat) : State :=
  let off := offOf a
  let i := instOf a
  match regionOf a with
  | 0 => writeHub s idx off v
  | 1 => if off = 0x100 then writeRstCtrl s rq v else if off = 0x120 then writeBlk s v else writePlain s idx a v
  | 2 => if off = 0x104 then writeSecCtrl s v else s
  | 3 => writeMon s off v
  | 4 => if off = 0x100 then writeCap s v else writePlain s idx a v
  | 5 => writeLdg s idx off v
  | 6 => if 0x200 ≤ off then writeSync s syncPage rq idx (off - 0x200) v none else s
  | 7 => writePci s idx off v
  | 8 => writeLoom s i idx off v
  | 9 => writePnl s i off v
  | 10 => writeRtv s i idx off v
  | 11 => writeRing s (16384 * i + idx % 16384) (off - 0x200) v none
  | 12 => writeHbm s i idx off v
  | 13 => writePlk s i idx off v
  | _ => s

/-- A register of VF f's function page: a selection outside the partition ignores writes and is counted (R309). -/
def writeVf (s : State) (f a idx v : Nat) : State :=
  let off := offOf a
  if 0x200 ≤ off ∧ off < 0x300 then
    (if vfRing s f idx then writeRing s idx (off - 0x200) v (some f) else countNotPermitted s)
  else if 0x300 ≤ off then
    (if vfObj s f idx then writeSync s (vfPage f) f idx (off - 0x300) v (some f) else countNotPermitted s)
  else if off = 0x134 ∨ off = 0x138 then
    (if vfRing s f idx then writeRs s (vfPage f) idx off v else countNotPermitted s)
  else s

/-! ## A write to BAR0 -/

/-- A write of a whole register. -/
def writeReg (s : State) (rq a v : Nat) : State :=
  match specAt a with
  | none => s
  | some _ =>
    if isSelector a then writeSelector s rq a v
    else if !indexInside s rq a then
      errAccess (passGuard s rq a v).1 (a - offOf a)
    else
      let (t, w) := passGuard s rq a v
      if offOf a < 0x40 then writeHead t rq a w
      else if regionOf a = 0x40 then writeVf t (instOf a) a (indexOf s rq a) w
      else writeBlock t rq a (indexOf s rq a) w

/-- Whether an aligned word belongs to a 64-bit register. -/
def inWide (a : Nat) : Bool :=
  match specAt (a / 8 * 8) with
  | some r => r.wide
  | none => false

/-- A 4-byte write: to a half of a 64-bit register it is ignored and sets ACCESS (R378). -/
def write32 (s : State) (rq a v : Nat) : State :=
  if inWide a then errAccess s (a - offOf a) else writeReg s rq a (v % 2 ^ 32)

/-- The die on which a page's block stands, 4 the hub (R374, R384). -/
def pageDie (a : Nat) : Nat :=
  let i := instOf a
  match regionOf a with
  | 8 => i / 2
  | 9 => i / 16
  | 10 => rtvDie i
  | 11 => i
  | 12 => if i < 16 then i / 4 else i - 16
  | _ => 4

/-- The die of a requester, 4 the hub. -/
def requesterDie (rq : Nat) : Nat := if 17 ≤ rq ∧ rq < 49 then (rq - 17) / 8 else 4

/-- A register access on its way: one beat of each bridge that it crosses, at input 6 (R14, R189); it wakes a stack whose page it
reaches (R218). -/
def regTraffic (s : State) (rq a size : Nat) : State :=
  let t := crossDies s (requesterDie rq) (pageDie a) size 6 rq 0 none
  if regionOf a = 12 ∧ instOf a < 16 then wakeIsland t (instOf a) else t

/-- A write to a page that answers (R378). DESIGN CHOICE (log entry 85): one that meets a bridge taken down is lost. -/
def pageWrite (s0 : State) (rq a size v : Nat) : State :=
  let s := regTraffic s0 rq a size
  if !pageAnswers s0 a ∨ !diesMeet s0 (requesterDie rq) (pageDie a) then s0
  else if size = 8 ∧ a % 8 = 0 then
    (if inWide a then writeReg s rq a (v % 2 ^ 64) else write32 (write32 s rq a v) rq (a + 4) (v / 2 ^ 32))
  else if size = 4 ∧ a % 4 = 0 then write32 s rq a v
  else errAccess s (a - offOf a)

/-- A word of a function's MSI-X table written; a vector that is no longer masked is sent if it was pending (R309, R317). -/
def writeMsixWord (s : State) (f o v : Nat) : State :=
  if o % 16 = 12 then sendPending (s.setReg 0 (msixTable f + o) (Nat.xor (v % 2 ^ 32) 1)) f
  else s.setReg 0 (msixTable f + o) (v % 2 ^ 32)

/-- A write to a function's MSI-X table, in words. -/
def writeMsix (s : State) (f o size v : Nat) : State :=
  if !devReady s ∨ o % size ≠ 0 then s
  else if size = 4 then writeMsixWord s f o v
  else if size = 8 then writeMsixWord (writeMsixWord s f o v) f (o + 4) (v / 2 ^ 32)
  else s

/-- A write at an offset of the BAR0 of a requester: a VF's holds its function page and MSI-X table, every other requester's is
PF0's (R309, R384). -/
def barWrite (s : State) (rq off size v : Nat) : State :=
  if 1 ≤ rq ∧ rq < 16 then
    if off < 0x1000 then pageWrite s rq (vfPage rq + off) size v
    else if 0x10000 ≤ off ∧ off < 0x18000 then writeMsix s rq (off - 0x10000) size v
    else s
  else if 2 ^ 26 ≤ off then s
  else if pageAddr 7 16 ≤ off ∧ off < pageAddr 7 24 then writeMsix s 0 (off - pageAddr 7 16) size v
  else pageWrite s rq off size v

/-- Whether a requester is a control core that cannot act: before step 8 has ended, held in reset, or in an island whose clock is
stopped (R21, R217, R331). -/
def coreSilent (s : State) (rq : Nat) : Bool :=
  decide (17 ≤ rq ∧ rq < 49) && (!coreRuns s (rq - 17) || decide (16 + (rq - 17) / 8 ∈ s.power.stopped))

/-- A register write of a requester. Those of a function must be claimed, are dropped in D3hot and ignored while it drains
(R309, R320, R322). -/
def regWrite (s : State) (rq off size v : Nat) : State :=
  if s.start.asserted || coreSilent s rq then s
  else if rq < 16 then
    if !fnClaims s rq then s
    else if (s.fn rq).d3hot then countNotPermitted s
    else if (s.fn rq).draining then s
    else barWrite s rq off size v
  else barWrite s rq off size v

end Sys2Proof.Machine
end

