-- ==== Sys2Proof/Machine/Monitor.lean ====
section
/-! DEFINITION. Sys2Proof/Machine/Monitor.lean: the Tlaulo monitor's commands, the trace unit and the SMBus port (R362 to R371,
R400). -/

namespace Sys2Proof.Machine

open Sys2Proof

/-! ## Lines and responses (R367, R373) -/

/-- A response: its items, then OK or an error. The line is counted, and so is a response that ends in ERR. -/
def monAnswer (s : State) (items : List MonItem) : State :=
  let s1 := { s with monitor := { s.monitor with uart := s.monitor.uart ++ items ++ [MonItem.ok] } }
  s1.count 0 (monPage + 0x40) 1
def monError (s : State) (code : Nat) : State :=
  let s1 := { s with monitor := { s.monitor with uart := s.monitor.uart ++ [MonItem.err code] } }
  (s1.count 0 (monPage + 0x40) 1).count 0 (monPage + 0x48) 1

/-- The monitor answers from step 1 of start on, and in safe mode (R366). -/
def monitorRuns (s : State) (t : State) : Res := .next (if s.start.asserted then s else t)

/-- Number of the monitor among the requesters of R382. -/
def monitorRq : Nat := 49

/-- Words from an offset on, as PF0 would read them. -/
def monWords (s : State) (a n : Nat) : List MonItem := (span 0 n).map fun i => .word (barWord s monitorRq (a + 4 * i))

/-- Eight bytes from an aligned offset on. -/
def monRead64 (s : State) (a : Nat) : Nat := barWord s monitorRq a + 2 ^ 32 * barWord s monitorRq (a + 4)

/-- MON_HELP. -/
def execMonHelp (s : State) : Res := monitorRuns s (monAnswer s [.help])

/-- MON_STATUS: RST_START, RST_CAUSE, SEC_STATUS, SEC_SERIAL and SEC_FW_VERSION. -/
def execMonStatus (s : State) : Res :=
  monitorRuns s (monAnswer s (monWords s (rstPage + 0x10C) 1 ++ monWords s (rstPage + 0x104) 1 ++
    monWords s (secPage + 0x100) 1 ++ [.word64 (monRead64 s (secPage + 0x110))] ++ monWords s (secPage + 0x108) 1))

/-- MON_PEEK: 1 to 64 words. -/
def execMonPeek (a n : Nat) (s : State) : Res :=
  monitorRuns s (if n = 0 ∨ 64 < n then monError s 1
    else if a % 4 ≠ 0 ∨ 2 ^ 26 < a + 4 * n then monError s 3
    else monAnswer s (monWords s a n))

/-- MON_PEEK64: one 8-byte read. -/
def execMonPeek64 (a : Nat) (s : State) : Res :=
  monitorRuns s (if a % 8 ≠ 0 ∨ 2 ^ 26 < a + 8 then monError s 3 else monAnswer s [.word64 (monRead64 s a)])

/-- Whether a scope is unlocked: bit 0 poke, bit 1 reset; none before step 3 has ended (R355, R369). -/
def monUnlocked (s : State) (b : Nat) : Bool := keysReady s && bit (unlockScope s) b

/-- MON_POKE: refused where poke is locked, and at every offset of the RST page (R369). -/
def execMonPoke (a v : Nat) (s : State) : Res :=
  monitorRuns s (if 2 ^ 32 ≤ v then monError s 1
    else if !monUnlocked s 0 || decide (regionOf a = 1) then monError s 2
    else if a % 4 ≠ 0 ∨ 2 ^ 26 < a + 4 then monError s 3
    else monAnswer ((regWrite s monitorRq a 4 v).count 0 (monPage + 0x58) 1) [])

/-- MON_DUMP: the 4 KiB page at an offset. -/
def execMonDump (page : Nat) (s : State) : Res :=
  monitorRuns s (if page % 4096 ≠ 0 ∨ 2 ^ 26 ≤ page then monError s 3 else monAnswer s (monWords s page 1024))

/-- MON_COUNTERS: the eight always-on counters of a page, in decimal. -/
def execMonCounters (page : Nat) (s : State) : Res :=
  monitorRuns s (if page % 4096 ≠ 0 ∨ 2 ^ 26 ≤ page then monError s 3
    else monAnswer s ((span 0 8).map fun i => .decimal (monRead64 s (page + 0x40 + 8 * i))))

/-- MON_JOURNAL: the newest n records of the start journal, 1 to 256. -/
def execMonJournal (n : Nat) (s : State) : Res :=
  monitorRuns s (if n = 0 ∨ 256 < n then monError s 1
    else
      let j := s.flash.journal
      monAnswer s ((j.drop (j.length - n)).map fun r => .journal (journalBytes r)))

/-- A ledger register as the monitor prints it, at an index; all ones while its page does not answer. -/
def monLdg (s : State) (idx off : Nat) : Nat :=
  if pageAnswers s ldgPage then blockValue s (ldgPage + off) idx else 2 ^ 64 - 1

/-- MON_LEDGER: LDG_STATUS, LDG_WIN_NO, LDG_BLK_NO, LDG_RECEIPT_NEXT, and K, MEAS and EST of each domain. -/
def execMonLedger (s : State) : Res :=
  let dom (d : Nat) : List MonItem :=
    [.word (monLdg s d 0x134 % 2 ^ 32), .word64 (monLdg s d 0x138), .word64 (monLdg s d 0x140)]
  monitorRuns s (monAnswer s ([.word (monLdg s 0 0x104 % 2 ^ 32), .word64 (monLdg s 0 0x148), .word64 (monLdg s 0 0x150),
    .word64 (monLdg s 0 0x158)] ++ dom 0 ++ dom 1 ++ dom 2))

/-- MON_RESET: the keyed software reset with SUB = 2; output stops (R368, R371). -/
def execMonReset (s : State) : Res :=
  monitorRuns s (if monUnlocked s 1 then assertReset s 5 2 else monError s 2)

/-- The rates of R366. -/
def baudRates : List Nat := [115200, 230400, 460800, 921600, 1000000, 1500000, 2000000, 3000000]

/-- MON_BAUD: OK is answered at the old rate, then the rate changes. -/
def execMonBaud (rate : Nat) (s : State) : Res :=
  monitorRuns s (if rate ∈ baudRates then
      let t := monAnswer s []
      { t with monitor := { t.monitor with baud := rate } }
    else monError s 1)

/-- Whether `load` is possible: BOOT_SRC is 11 and step 2 is in progress, or is the failing step of safe mode (R341, R370). -/
def loadPossible (s : State) : Bool := decide (bootSrc s = 3 ∧ s.start.state ≠ 1 ∧ s.start.step = 2)

/-- MON_LOAD: READY, then the image fills the load buffer and is checked (R370). Step 2 ends by its own command. -/
def execMonLoad (n : Nat) (data : List Byte) (s : State) : Res :=
  monitorRuns s (if !loadPossible s then monError s 4
    else if n < 8192 ∨ 16777216 < n then monError s 1
    else if data.length ≠ n then s
    else
      let load := data.zipIdx.foldl (fun m p => mput m p.2 p.1) ([] : SMap Byte)
      let s1 := loadComplete { s with start := { s.start with load := load } }
      let r := imageCheck s1 data
      let s2 := { s1 with monitor := { s1.monitor with uart := s1.monitor.uart ++ [MonItem.ready] } }
      if r = 0 then monAnswer s2 []
      else
        let t := monError s2 6
        { t with monitor := { t.monitor with uart := t.monitor.uart ++ [MonItem.result r] } })

/-- MON_RX_OVERRUN: the line being received is rejected with ERR 5. -/
def execMonRxOverrun (s : State) : Res :=
  let s1 := { s with monitor := { s.monitor with uart := s.monitor.uart ++ [MonItem.err 5] } }
  monitorRuns s ((s1.count 0 (monPage + 0x48) 1).count 0 (monPage + 0x50) 1)

/-- UNKNOWN_COMMAND: ERR 1. -/
def execUnknownCommand (s : State) : Res := monitorRuns s (monError s 1)

/-! ## The trace unit (R362 to R365, R371) -/

/-- The 32 bytes of a record (R362). -/
def traceBytes (r : TraceRec) : List Byte :=
  leBytes 8 r.time ++ leBytes 4 r.source ++ leBytes 1 r.kind ++ leBytes 1 r.status ++ leBytes 2 r.ring ++ leBytes 2 r.layer ++
    leBytes 2 r.oper ++ leBytes 4 r.seq ++ leBytes 8 r.data

/-- Whether the unit takes records: EN, and neither stopped nor stopping. -/
def traceTakes (s : State) : Bool :=
  bit (s.reg 0 (monPage + 0x140)) 31 && !bit (s.reg 0 (monPage + 0x158)) 31 && !s.monitor.stopping

/-- A record is lost and counted; the next GAP names it. -/
def traceLose (s : State) : State :=
  { s with monitor := { s.monitor with lost := s.monitor.lost + 1 } }.count 0 (monPage + 0x68) 1

/-- The first ERROR record with STOP_ON_ERR ends capture, lost or not (R365, R371). -/
def traceStops (s : State) (r : TraceRec) : State :=
  if r.kind = 4 ∧ bit (s.reg 0 (monPage + 0x140)) 28 then { s with monitor := { s.monitor with stopping := true } } else s

/-- A record reaches the unit: it is held with the present time, or is lost because 256 are held or its crossing overran. -/
def traceArrive (s : State) (r : TraceRec) (ns : Nat) (full : Bool) : State :=
  if !traceTakes s then s
  else if crossFull s 2 (some full) then traceStops (traceLose (crossEnter (overrun s 2) 2)) r
  else if 256 ≤ s.monitor.held.length then traceStops (traceLose (crossEnter s 2)) r
  else
    let t := { r with time := s.hubUs * 1000 + ns % 1000 }
    let s1 := crossEnter s 2
    traceStops { s1 with monitor := { s1.monitor with held := s1.monitor.held ++ [t] } } r

/-- TRACE_RECORD: records of one source arrive in the order of their making. -/
def execTraceRecord (i ns : Nat) (overrun : Bool) (s : State) : Res :=
  .next (match s.monitor.fly[i]? with
    | none => s
    | some r =>
      if (s.monitor.fly.take i).any fun x => x.source == r.source then s
      else
        let fly := s.monitor.fly.take i ++ s.monitor.fly.drop (i + 1)
        traceArrive { s with monitor := { s.monitor with fly := fly } } r ns overrun)

/-- Whether the trace area can take a record: room unless WRAP, and PF0 able to write where it lies in host memory. -/
def traceRoom (s : State) : Bool :=
  let cfg := s.reg 0 (monPage + 0x140)
  let used := sub32 (s.reg 0 (monPage + 0x150)) (s.reg 0 (monPage + 0x154))
  (bit cfg 29 || decide (used < 2 ^ bits cfg 26 21)) && !(bit cfg 30 && ((s.fn 0).d3hot || (s.fn 0).draining))

/-- A record is written at PUT, and PUT moves past it (R365); its energy goes to the overhead bucket (R364). -/
def tracePut (s : State) (r : TraceRec) : State :=
  let cfg := s.reg 0 (monPage + 0x140)
  let put := s.reg 0 (monPage + 0x150)
  let a := s.reg 0 (monPage + 0x148) + 32 * (put % 2 ^ bits cfg 26 21)
  let s1 := if bit cfg 30 then s.send (.hostWrite 0 a (traceBytes r))
    else if inSpace 1 a 32 && hbmMeets s 4 a 32 then
      (hbmTraffic s 4 a 32 0 0 1021 true none).hbmStore a (traceBytes r) Who.none none
    else s
  (activity (s1.setReg 0 (monPage + 0x150) (add32 put 1)) 111 0 1 none).count 0 (monPage + 0x60) 1

/-- A GAP record: the records lost since the previous record. -/
def gapRecord (s : State) : TraceRec :=
  ⟨s.hubUs * 1000, blockId monPage, 0xF, 0, 0xFFFF, 0xFFFF, 0xFFFF, 0, s.monitor.lost⟩

/-- When an ending capture has nothing left to write, STOPPED is set. -/
def traceSettle (s : State) : State :=
  if s.monitor.stopping ∧ s.monitor.held = [] ∧ s.monitor.lost = 0 then
    ({ s with monitor := { s.monitor with stopping := false } }.setFld 0 (monPage + 0x158) 31 31 1).count 0 (monPage + 0x78) 1
  else s

/-- The next record is written: a GAP before any other, as soon as records have been lost and the store has room. -/
def traceNext (s : State) : State :=
  if !bit (s.reg 0 (monPage + 0x140)) 31 || !traceRoom s then s
  else if 0 < s.monitor.lost ∧ s.monitor.held.length < 256 then
    let t := tracePut s (gapRecord s)
    traceSettle ({ t with monitor := { t.monitor with lost := 0 } }.count 0 (monPage + 0x70) 1)
  else match s.monitor.held with
    | [] => s
    | r :: rest =>
      let t := tracePut s r
      traceSettle { t with monitor := { t.monitor with held := rest } }

/-- TRACE_WRITE. -/
def execTraceWrite (s : State) : Res := .next (traceNext s)

/-! ## SMBus (R400) -/

/-- The port answers from the end of start step 1, and in safe mode; a message whose PEC byte does not match is discarded. -/
def smbusTakes (s : State) (pec : Bool) : Bool :=
  pec && !s.start.asserted && !decide (s.start.state = 0 ∧ s.start.step = 1)

/-- A transfer wakes the island of its controller (R218). -/
def smbusWake (s : State) : State := if s.start.asserted then s else wakeIsland s 20

/-- A read is answered. -/
def smbusRead (s : State) (pec : Bool) (v : Nat) : Res :=
  .next (if smbusTakes s pec then (smbusWake s).send (.smbus v) else smbusWake s)

/-- BOARD as a written value acts: 0 none, 600 to 1,600. -/
def boardValue (v : Nat) : Nat := if v = 0 then 0 else min 1600 (max 600 v)

/-- SMBUS_BOARD_CAP. -/
def execSmbusBoardCap (write : Bool) (v : Nat) (pec : Bool) (s : State) : Res :=
  if write then
    .next (if smbusTakes s pec then (smbusWake s).setReg 0 (pwrPage + 0x104) (boardValue (v % 2 ^ 16)) else smbusWake s)
  else smbusRead s pec (boardCap s)

/-- SMBUS_PKG_POWER: PWR_PKG.MEAS_W. -/
def execSmbusPkgPower (pec : Bool) (s : State) : Res := smbusRead s pec (pwrValue s 0 0x154 / 2 ^ 16)

/-- The highest junction or stack reading in °C. -/
def hottest (s : State) : Nat :=
  max (maxOf ((span 0 5).map fun q => (s.quad q).temp / 4)) (maxOf ((span 0 16).map fun st => s.fld 0 (stackPage st + 0x100) 15 8))

/-- SMBUS_TEMP_MAX. -/
def execSmbusTempMax (pec : Bool) (s : State) : Res := smbusRead s pec (hottest s)

/-- SMBUS_THROTTLE: PWR_THR_ACTIVE.REASONS. -/
def execSmbusThrottle (pec : Bool) (s : State) : Res := smbusRead s pec (throttleReasons s)

/-- SMBUS_START_STATE: STATE in bits 7:6, STEP in bits 3:0. -/
def execSmbusStartState (pec : Bool) (s : State) : Res :=
  smbusRead s pec (startValue s / 2 ^ 30 * 2 ^ 6 + startValue s % 2 ^ 4)

end Sys2Proof.Machine
end

