-- ==== Sys2Proof/Machine/Rows.lean ====
section
/-! DEFINITION. Sys2Proof/Machine/Rows.lean: the commands that are writes of one named register. Each is the register write of
its requester at the register's offset. -/

namespace Sys2Proof.Machine

open Sys2Proof

/-- Requesters of R382: sixteen functions, the management core, 32 control cores and the monitor. -/
def rqCount : Nat := 50

/-- A requester that is a VF. -/
def isVf (rq : Nat) : Bool := decide (1 ≤ rq ∧ rq < 16)

/-- A write of the register at an offset of PF0's BAR0, at its own width. The BAR0 of a VF does not hold it. -/
def pfWrite (s : State) (rq a v : Nat) : State :=
  if isVf rq then s else regWrite s rq a (if inWide a then 8 else 4) v

/-- The offset of a ring-window register in a requester's BAR0: in the ring page of a die, or in the VF's function page. -/
def ringAt (rq die woff : Nat) : Nat := if isVf rq then 0x200 + woff else ringPage die + 0x200 + woff

/-- The offset of a sync-window register in a requester's BAR0. -/
def syncAt (rq woff : Nat) : Nat := if isVf rq then 0x300 + woff else syncPage + 0x200 + woff

/-- The width of a register of a window. -/
def windowWidth (rq off : Nat) : Nat := if inWide (if isVf rq then vfPage rq + off else off) then 8 else 4

/-- A write of a ring-window register. -/
def ringWrite (s : State) (rq die woff v : Nat) : State :=
  regWrite s rq (ringAt rq die woff) (windowWidth rq (ringAt rq die woff)) v

/-- A write of a sync-window register. -/
def syncWrite (s : State) (rq woff v : Nat) : State := regWrite s rq (syncAt rq woff) 4 v

/-- The register of a page as it stands, with bits set beside it: a write that keeps the RW fields. -/
def withBits (s : State) (a idx keep v : Nat) : Nat := (s.reg idx a &&& keep) ||| v

/-- The ring that a requester's window names. -/
def selectedRing (s : State) (rq die : Nat) : Nat :=
  if isVf rq then s.sel rq (vfPage rq + 0x100) else 16384 * die + s.sel rq (ringPage die + 0x100) % 16384

/-! ## Panels, Retrievers and trickle FIFOs -/

/-- PNL_RESUME. -/
def execPnlResume (rq p : Nat) (s : State) : Res :=
  onUnit (decide (rq < rqCount ∧ p < 64)) (pfWrite s rq (pnlPage p + 0x108) 1)

/-- RTV_CH_ARM: ARM with ACCT_RING. -/
def execRtvChArm (rq n acct : Nat) (s : State) : Res :=
  onUnit (decide (rq < rqCount ∧ n < 10)) (pfWrite s rq (rtvPage n + 0x108) (2 ^ 31 + acct % 2 ^ 16))

/-- RTV_CH_CANCEL: CANCEL with ACCT_RING. -/
def execRtvChCancel (rq n acct : Nat) (s : State) : Res :=
  onUnit (decide (rq < rqCount ∧ n < 10)) (pfWrite s rq (rtvPage n + 0x108) (2 ^ 30 + acct % 2 ^ 16))

/-- TRICKLE_FLUSH: FLUSH with FLUSH_US. -/
def execTrickleFlush (rq n us : Nat) (s : State) : Res :=
  onUnit (decide (rq < rqCount ∧ n < 10)) (pfWrite s rq (rtvPage n + 0x1A8) (2 ^ 31 + us % 2 ^ 14))

/-- TRICKLE_DISABLE: RTV_TRK_CFG with EN clear. -/
def execTrickleDisable (rq n v : Nat) (s : State) : Res :=
  onUnit (decide (rq < rqCount ∧ n < 10)) (pfWrite s rq (rtvPage n + 0x184) (v % 2 ^ 31))

/-- TRICKLE_GET_WRITE. -/
def execTrickleGetWrite (rq n v : Nat) (s : State) : Res :=
  onUnit (decide (rq < rqCount ∧ n < 10)) (pfWrite s rq (rtvPage n + 0x1A4) v)

/-! ## Rings -/

/-- RING_CONFIG_WRITE: a register of the ring window at offset `off`. -/
def execRingConfigWrite (rq die off v : Nat) (s : State) : Res :=
  onUnit (decide (rq < rqCount ∧ die < 4 ∧ off < 256)) (ringWrite s rq die off v)

/-- RING_TAIL_WRITE. -/
def execRingTailWrite (rq die v : Nat) (s : State) : Res :=
  onUnit (decide (rq < rqCount ∧ die < 4)) (ringWrite s rq die 0x14 v)

/-- RING_START, RING_STOP and RING_CANCEL: RING_CTRL with the bit and CLASS_OVR. -/
def execRingStart (rq die ovr : Nat) (s : State) : Res :=
  onUnit (decide (rq < rqCount ∧ die < 4)) (ringWrite s rq die 0x20 (2 ^ 7 + ovr % 8))
def execRingStop (rq die ovr : Nat) (s : State) : Res :=
  onUnit (decide (rq < rqCount ∧ die < 4)) (ringWrite s rq die 0x20 (2 ^ 6 + ovr % 8))
def execRingCancel (rq die ovr : Nat) (s : State) : Res :=
  onUnit (decide (rq < rqCount ∧ die < 4)) (ringWrite s rq die 0x20 (2 ^ 5 + ovr % 8))

/-- ADMISSION_REQUEST and ADMISSION_RELEASE: the bit with the INPUT that the ring declares. -/
def execAdmissionRequest (rq die : Nat) (s : State) : Res :=
  onUnit (decide (rq < rqCount ∧ die < 4))
    (ringWrite s rq die 0x40 (2 ^ 31 + (s.ring (selectedRing s rq die)).admInput % 16))
def execAdmissionRelease (rq die : Nat) (s : State) : Res :=
  onUnit (decide (rq < rqCount ∧ die < 4))
    (ringWrite s rq die 0x40 (2 ^ 30 + (s.ring (selectedRing s rq die)).admInput % 16))

/-! ## Sync objects -/

/-- SYNC_OBJ_OP_SIGNAL. -/
def execSyncObjOpSignal (rq count : Nat) (s : State) : Res :=
  onUnit (decide (rq < rqCount)) (syncWrite s rq 0x18 (2 ^ 30 + count % 2 ^ 16))

/-- SYNC_OBJ_OP_ARRIVE. -/
def execSyncObjOpArrive (rq gen : Nat) (s : State) : Res :=
  onUnit (decide (rq < rqCount)) (syncWrite s rq 0x18 (2 * 2 ^ 30 + gen % 256 * 2 ^ 16))

/-- SYNC_OBJ_WRITE: SYNC_OBJ_CFG, SYNC_OBJ_VALUE or SYNC_OBJ_GEN, at its window offset. -/
def execSyncObjWrite (rq off v : Nat) (s : State) : Res :=
  onUnit (decide (rq < rqCount ∧ off < 32)) (syncWrite s rq off v)

/-- SYNC_BREAK. -/
def execSyncBreak (rq : Nat) (s : State) : Res := onUnit (decide (rq < rqCount)) (syncWrite s rq 0x10 (2 ^ 28))

/-- SYNC_BROKEN_CLEAR. -/
def execSyncBrokenClear (rq : Nat) (s : State) : Res := onUnit (decide (rq < rqCount)) (syncWrite s rq 0x10 (2 ^ 31))

/-! ## Arbiters -/

/-- ARB_FREEZE, ARB_UNFREEZE and ARB_WAIT_CLEAR on the arbiter that the requester has selected in a page. -/
def execArbFreeze (rq page : Nat) (s : State) : Res :=
  onUnit (decide (rq < rqCount) && hasArbs page) (pfWrite s rq (page + 0x304) (2 ^ 31))
def execArbUnfreeze (rq page : Nat) (s : State) : Res :=
  onUnit (decide (rq < rqCount) && hasArbs page) (pfWrite s rq (page + 0x304) 0)
def execArbWaitClear (rq page : Nat) (s : State) : Res :=
  onUnit (decide (rq < rqCount) && hasArbs page) (pfWrite s rq (page + 0x30C) (2 ^ 31))

/-! ## Power, ledger and stacks -/

/-- PROFILE_850: with the CAP written beside it. -/
def execProfile850 (rq cap : Nat) (s : State) : Res :=
  onUnit (decide (rq < rqCount)) (pfWrite s rq (pwrPage + 0x100) (2 ^ 31 + cap % 2 ^ 11))

/-- CLOSE_NOW: with the LEAK_SHARE bit of the written value. -/
def execCloseNow (rq v : Nat) (s : State) : Res :=
  onUnit (decide (rq < rqCount)) (pfWrite s rq (ldgPage + 0x100) (2 ^ 31 + v % 2 ^ 31))

/-- LDG_OUT_GET_WRITE. -/
def execLdgOutGetWrite (rq v : Nat) (s : State) : Res :=
  onUnit (decide (rq < rqCount)) (pfWrite s rq (ldgPage + 0x11C) v)

/-- HBM_WIN_CFG_WRITE. -/
def execHbmWinCfgWrite (rq die v : Nat) (s : State) : Res :=
  onUnit (decide (rq < rqCount ∧ die < 4)) (pfWrite s rq (dmapPage die + 0x104) v)

/-- HBM_TEMP_PEAK_CLEAR. -/
def execHbmTempPeakClear (rq st : Nat) (s : State) : Res :=
  onUnit (decide (rq < rqCount ∧ st < 16)) (pfWrite s rq (stackPage st + 0x104) (2 ^ 31))

/-! ## Packs and swatches -/

/-- PLK_PORT_DOWN_WRITE: DOWN, EN as it stands. -/
def execPlkPortDownWrite (rq p : Nat) (s : State) : Res :=
  onUnit (decide (rq < rqCount ∧ p < 64))
    (pfWrite s rq (portPage p + 0x100) (withBits s (portPage p + 0x100) 0 (2 ^ 31) (2 ^ 30)))

/-- PLK_STOP_REQ and PLK_STOP_RESUME: the bit, STOP_LIMIT as it stands. -/
def execPlkStopReq (rq : Nat) (s : State) : Res :=
  onUnit (decide (rq < rqCount)) (pfWrite s rq (packPage + 0x114) (withBits s (packPage + 0x114) 0 (2 ^ 16 - 1) (2 ^ 31)))
def execPlkStopResume (rq : Nat) (s : State) : Res :=
  onUnit (decide (rq < rqCount)) (pfWrite s rq (packPage + 0x114) (withBits s (packPage + 0x114) 0 (2 ^ 16 - 1) (2 ^ 30)))

/-- SWATCH_CAPTURE, RESTORE_HOST and SWT_RATE_RESET: the bit, HOST and AUTO as they stand. -/
def execSwatchCapture (rq : Nat) (s : State) : Res :=
  onUnit (decide (rq < rqCount)) (pfWrite s rq (hubPage + 0x240) (withBits s (hubPage + 0x240) 0 (3 * 2 ^ 29) (2 ^ 31)))
def execRestoreHost (rq : Nat) (s : State) : Res :=
  onUnit (decide (rq < rqCount)) (pfWrite s rq (hubPage + 0x240) (withBits s (hubPage + 0x240) 0 (3 * 2 ^ 29) (2 ^ 28)))
def execSwtRateReset (rq : Nat) (s : State) : Res :=
  onUnit (decide (rq < rqCount)) (pfWrite s rq (hubPage + 0x240) (withBits s (hubPage + 0x240) 0 (3 * 2 ^ 29) (2 ^ 27)))

/-- SWT_DURABLE_WRITE. -/
def execSwtDurableWrite (rq v : Nat) (s : State) : Res :=
  onUnit (decide (rq < rqCount)) (pfWrite s rq (hubPage + 0x2A8) v)

/-! ## Result slots -/

/-- RS_CFG_WRITE: PCI_RS_CFG of the ring that the requester has selected, in the PCI page or its function page. -/
def execRsCfgWrite (rq v : Nat) (s : State) : Res :=
  onUnit (decide (rq < rqCount)) (regWrite s rq (if isVf rq then 0x134 else pciPage + 0x134) 4 v)

/-! ## Reset, security and the monitor page -/

/-- DEVICE_RESET, CLEAR_STEPS and LOAD_DONE. -/
def execDeviceReset (rq : Nat) (s : State) : Res :=
  onUnit (decide (rq < rqCount)) (pfWrite s rq (rstPage + 0x100) (2 ^ 31))
def execClearSteps (rq : Nat) (s : State) : Res :=
  onUnit (decide (rq < rqCount)) (pfWrite s rq (rstPage + 0x100) (2 ^ 30))
def execLoadDone (rq : Nat) (s : State) : Res :=
  onUnit (decide (rq < rqCount)) (pfWrite s rq (rstPage + 0x100) (2 ^ 29))

/-- BLOCK_RESET: GO with TYPE and INSTANCE. -/
def execBlockReset (rq type inst : Nat) (s : State) : Res :=
  onUnit (decide (rq < rqCount ∧ type < 4 ∧ inst < 128)) (pfWrite s rq (rstPage + 0x120) (2 ^ 31 + type * 2 ^ 8 + inst))

/-- SVN_COMMIT and SEC_LOCK. -/
def execSvnCommit (rq : Nat) (s : State) : Res :=
  onUnit (decide (rq < rqCount)) (pfWrite s rq (secPage + 0x104) (2 ^ 31))
def execSecLock (rq : Nat) (s : State) : Res :=
  onUnit (decide (rq < rqCount)) (pfWrite s rq (secPage + 0x104) (2 ^ 30))

/-- MON_TRC_TRIGGER. -/
def execMonTrcTrigger (rq v : Nat) (s : State) : Res :=
  onUnit (decide (rq < rqCount)) (pfWrite s rq (monPage + 0x15C) v)

/-- MON_TRC_ENABLE: MON_TRC_CFG with its EN bit. -/
def execMonTrcEnable (rq v : Nat) (s : State) : Res :=
  onUnit (decide (rq < rqCount)) (pfWrite s rq (monPage + 0x140) v)

/-- MON_FILT_CLEAR: CLEAR with the EN bit of the written value. -/
def execMonFiltClear (rq v : Nat) (s : State) : Res :=
  onUnit (decide (rq < rqCount)) (pfWrite s rq (monPage + 0x108) (v ||| 2 ^ 30))

/-! ## The weight-region table and the common head -/

/-- WRT_VALID_WRITE: LOOM_WRT_CTRL of the selected entry. -/
def execWrtValidWrite (rq n v : Nat) (s : State) : Res :=
  onUnit (decide (rq < rqCount ∧ n < 8)) (pfWrite s rq (loomPage n + 0x174) v)

/-- WRT_UNBIND. -/
def execWrtUnbind (rq n v : Nat) (s : State) : Res :=
  onUnit (decide (rq < rqCount ∧ n < 8)) (pfWrite s rq (loomPage n + 0x174) (v ||| 2 ^ 29))

/-- ERR_INJECT: in a page of PF0's BAR0, or in a VF's function page at 0. -/
def execErrInject (rq page v : Nat) (s : State) : Res :=
  onUnit (decide (rq < rqCount ∧ page % 4096 = 0)) (regWrite s rq (page + 0x24) 4 v)

/-- REGISTER_WRITE: any register, by offset and size. -/
def execRegisterWrite (rq off size v : Nat) (s : State) : Res :=
  onUnit (decide (rq < rqCount)) (regWrite s rq off size v)

end Sys2Proof.Machine
end

