-- ==== Sys2Proof/Machine/Dispatch.lean ====
section
/-! DEFINITION. Sys2Proof/Machine/Dispatch.lean: one arm for each command, each one call of its meaning. -/

namespace Sys2Proof.Machine

open Sys2Proof

/-- The effect of a command on everything but the queue. -/
def exec (i : Instr) (s : State) : Host.Outcome State Fault Refusal :=
  match i with
  | .loomGemm panel => Sys2Proof.Machine.execLoomGemm panel s
  | .loomFence panel => Sys2Proof.Machine.execLoomFence panel s
  | .loomSetPanels panel => Sys2Proof.Machine.execLoomSetPanels panel s
  | .drainComplete panel => Sys2Proof.Machine.execDrainComplete panel s
  | .loomCommandDone panel => Sys2Proof.Machine.execLoomCommandDone panel s
  | .coreFire loom row col fault => Sys2Proof.Machine.execCoreFire loom row col fault s
  | .warpLoad loom pair col fault => Sys2Proof.Machine.execWarpLoad loom pair col fault s
  | .fellSumEntry loom col fault => Sys2Proof.Machine.execFellSumEntry loom col fault s
  | .fellRowTake panel fault => Sys2Proof.Machine.execFellRowTake panel fault s
  | .gaugeTick loom starved own others => Sys2Proof.Machine.execGaugeTick loom starved own others s
  | .faultDrainDone panel => Sys2Proof.Machine.execFaultDrainDone panel s
  | .pnlResume rq panel => Sys2Proof.Machine.execPnlResume rq panel s
  | .wedgeDetect panel => Sys2Proof.Machine.execWedgeDetect panel s
  | .drainInterval loom => Sys2Proof.Machine.execDrainInterval loom s
  | .wait ring => Sys2Proof.Machine.execWait ring s
  | .signal ring => Sys2Proof.Machine.execSignal ring s
  | .arrive ring => Sys2Proof.Machine.execArrive ring s
  | .reqOpen ring => Sys2Proof.Machine.execReqOpen ring s
  | .reqClose ring => Sys2Proof.Machine.execReqClose ring s
  | .pwrPhase ring => Sys2Proof.Machine.execPwrPhase ring s
  | .pwrRestore ring => Sys2Proof.Machine.execPwrRestore ring s
  | .flush ring => Sys2Proof.Machine.execFlush ring s
  | .rtvCopy ring => Sys2Proof.Machine.execRtvCopy ring s
  | .rtvFill ring => Sys2Proof.Machine.execRtvFill ring s
  | .rtvKick ring => Sys2Proof.Machine.execRtvKick ring s
  | .dataRingClaim rtv desc => Sys2Proof.Machine.execDataRingClaim rtv desc s
  | .requestIssue rtv desc => Sys2Proof.Machine.execRequestIssue rtv desc s
  | .requestLand rtv req data => Sys2Proof.Machine.execRequestLand rtv req data s
  | .rtvChArm rq rtv acct => Sys2Proof.Machine.execRtvChArm rq rtv acct s
  | .rtvChCancel rq rtv acct => Sys2Proof.Machine.execRtvChCancel rq rtv acct s
  | .trickleWrite loom off data => Sys2Proof.Machine.execTrickleWrite loom off data s
  | .trickleWordWrite rtv fifo => Sys2Proof.Machine.execTrickleWordWrite rtv fifo s
  | .trickleTimeout rtv fifo => Sys2Proof.Machine.execTrickleTimeout rtv fifo s
  | .trickleFlush rq rtv us => Sys2Proof.Machine.execTrickleFlush rq rtv us s
  | .trickleDisable rq rtv v => Sys2Proof.Machine.execTrickleDisable rq rtv v s
  | .trickleGetWrite rq rtv v => Sys2Proof.Machine.execTrickleGetWrite rq rtv v s
  | .ringConfigWrite rq die off v => Sys2Proof.Machine.execRingConfigWrite rq die off v s
  | .ringTailWrite rq die v => Sys2Proof.Machine.execRingTailWrite rq die v s
  | .ringStart rq die ovr => Sys2Proof.Machine.execRingStart rq die ovr s
  | .ringStop rq die ovr => Sys2Proof.Machine.execRingStop rq die ovr s
  | .ringCancel rq die ovr => Sys2Proof.Machine.execRingCancel rq die ovr s
  | .cancelComplete ring => Sys2Proof.Machine.execCancelComplete ring s
  | .completionPost ring full => Sys2Proof.Machine.execCompletionPost ring full s
  | .syncObjOpSignal rq count => Sys2Proof.Machine.execSyncObjOpSignal rq count s
  | .syncObjOpArrive rq gen => Sys2Proof.Machine.execSyncObjOpArrive rq gen s
  | .syncObjWrite rq off v => Sys2Proof.Machine.execSyncObjWrite rq off v s
  | .syncBreak rq => Sys2Proof.Machine.execSyncBreak rq s
  | .syncBrokenClear rq => Sys2Proof.Machine.execSyncBrokenClear rq s
  | .mirrorSubscribe ring => Sys2Proof.Machine.execMirrorSubscribe ring s
  | .mirrorPush obj value gen broken => Sys2Proof.Machine.execMirrorPush obj value gen broken s
  | .packSyncOp src mseq op obj arg ring => Sys2Proof.Machine.execPackSyncOp src mseq op obj arg ring s
  | .standbySyncForward obj kind part count value gen arrived early broken => Sys2Proof.Machine.execStandbySyncForward obj kind part count value gen arrived early broken s
  | .queueWatchdog ring => Sys2Proof.Machine.execQueueWatchdog ring s
  | .arbGrant arb ns => Sys2Proof.Machine.execArbGrant arb ns s
  | .arbUnitDone arb => Sys2Proof.Machine.execArbUnitDone arb s
  | .arbFreeze rq page => Sys2Proof.Machine.execArbFreeze rq page s
  | .arbUnfreeze rq page => Sys2Proof.Machine.execArbUnfreeze rq page s
  | .arbWaitClear rq page => Sys2Proof.Machine.execArbWaitClear rq page s
  | .admissionRequest rq die => Sys2Proof.Machine.execAdmissionRequest rq die s
  | .admissionDecide => Sys2Proof.Machine.execAdmissionDecide s
  | .admissionRelease rq die => Sys2Proof.Machine.execAdmissionRelease rq die s
  | .estimateWindow others => Sys2Proof.Machine.execEstimateWindow others s
  | .governorLoop => Sys2Proof.Machine.execGovernorLoop s
  | .profile850 rq cap => Sys2Proof.Machine.execProfile850 rq cap s
  | .junctionSensorRead quad readings => Sys2Proof.Machine.execJunctionSensorRead quad readings s
  | .thermalHoldEnd => Sys2Proof.Machine.execThermalHoldEnd s
  | .regulatorFault quad => Sys2Proof.Machine.execRegulatorFault quad s
  | .regulatorShutdown quad => Sys2Proof.Machine.execRegulatorShutdown quad s
  | .clusterGate cluster => Sys2Proof.Machine.execClusterGate cluster s
  | .clusterStartRequest cluster => Sys2Proof.Machine.execClusterStartRequest cluster s
  | .rampWave quad => Sys2Proof.Machine.execRampWave quad s
  | .hbmSelfRefreshEnter die => Sys2Proof.Machine.execHbmSelfRefreshEnter die s
  | .islandClockStop island => Sys2Proof.Machine.execIslandClockStop island s
  | .islandWake island => Sys2Proof.Machine.execIslandWake island s
  | .monitorSample uw missing faults amps droop full => Sys2Proof.Machine.execMonitorSample uw missing faults amps droop full s
  | .ledgerWindowClose pout => Sys2Proof.Machine.execLedgerWindowClose pout s
  | .closeNow rq v => Sys2Proof.Machine.execCloseNow rq v s
  | .blockSigned => Sys2Proof.Machine.execBlockSigned s
  | .ledgerRecordWrite => Sys2Proof.Machine.execLedgerRecordWrite s
  | .ldgOutGetWrite rq v => Sys2Proof.Machine.execLdgOutGetWrite rq v s
  | .hbmAccess addr write retries kind corrected agent who => Sys2Proof.Machine.execHbmAccess addr write retries kind corrected agent who s
  | .patrolRead addr result => Sys2Proof.Machine.execPatrolRead addr result s
  | .hbmRefresh stack bank => Sys2Proof.Machine.execHbmRefresh stack bank s
  | .hbmTempRead stack reading => Sys2Proof.Machine.execHbmTempRead stack reading s
  | .hbmWinCfgWrite rq die v => Sys2Proof.Machine.execHbmWinCfgWrite rq die v s
  | .hbmTempPeakClear rq stack => Sys2Proof.Machine.execHbmTempPeakClear rq stack s
  | .bridgeBeat die dir group bad => Sys2Proof.Machine.execBridgeBeat die dir group bad s
  | .heartbeatCheck alive => Sys2Proof.Machine.execHeartbeatCheck alive s
  | .scheduleDigestCheck core ring table digest => Sys2Proof.Machine.execScheduleDigestCheck core ring table digest s
  | .coreWatchdogExpiry core => Sys2Proof.Machine.execCoreWatchdogExpiry core s
  | .portUp port member peer => Sys2Proof.Machine.execPortUp port member peer s
  | .portTrainRetry port => Sys2Proof.Machine.execPortTrainRetry port s
  | .flitReceive port type vc seq ack cvc credits corrected uncorrectable payload crc => Sys2Proof.Machine.execFlitReceive port type vc seq ack cvc credits corrected uncorrectable payload crc s
  | .nak port ack => Sys2Proof.Machine.execNak port ack s
  | .idleFlitTimer port => Sys2Proof.Machine.execIdleFlitTimer port s
  | .livenessTimeout port => Sys2Proof.Machine.execLivenessTimeout port s
  | .fecLockLost port => Sys2Proof.Machine.execFecLockLost port s
  | .replayFullTimeout port => Sys2Proof.Machine.execReplayFullTimeout port s
  | .plkPortDownWrite rq port => Sys2Proof.Machine.execPlkPortDownWrite rq port s
  | .portDownMsg src epoch mseq port => Sys2Proof.Machine.execPortDownMsg src epoch mseq port s
  | .heartbeatTimer => Sys2Proof.Machine.execHeartbeatTimer s
  | .heartbeat src epoch mseq => Sys2Proof.Machine.execHeartbeat src epoch mseq s
  | .memberLost member => Sys2Proof.Machine.execMemberLost member s
  | .lost src epoch mseq member => Sys2Proof.Machine.execLost src epoch mseq member s
  | .takeover src epoch mseq => Sys2Proof.Machine.execTakeover src epoch mseq s
  | .takeoverAccept src epoch mseq => Sys2Proof.Machine.execTakeoverAccept src epoch mseq s
  | .takeoverRefuse src epoch mseq => Sys2Proof.Machine.execTakeoverRefuse src epoch mseq s
  | .takeoverTimeout => Sys2Proof.Machine.execTakeoverTimeout s
  | .managerStepDown => Sys2Proof.Machine.execManagerStepDown s
  | .joinRetry => Sys2Proof.Machine.execJoinRetry s
  | .join src mseq serial devEpoch feed rack evidence version config => Sys2Proof.Machine.execJoin src mseq serial devEpoch feed rack evidence version config s
  | .joinReply src epoch mseq code member standby partner coFed => Sys2Proof.Machine.execJoinReply src epoch mseq code member standby partner coFed s
  | .routeTable src epoch mseq routes upward feeds => Sys2Proof.Machine.execRouteTable src epoch mseq routes upward feeds s
  | .mseqAck dst mseq status res0 res1 => Sys2Proof.Machine.execMseqAck dst mseq status res0 res1 s
  | .lossScaleDecision src epoch mseq scale c1 overflow => Sys2Proof.Machine.execLossScaleDecision src epoch mseq scale c1 overflow s
  | .peerRequest src id write addr len data => Sys2Proof.Machine.execPeerRequest src id write addr len data s
  | .peerResponse src id status data => Sys2Proof.Machine.execPeerResponse src id status data s
  | .plkStopReq rq => Sys2Proof.Machine.execPlkStopReq rq s
  | .stop src epoch mseq n => Sys2Proof.Machine.execStop src epoch mseq n s
  | .stopMarker port n epoch src => Sys2Proof.Machine.execStopMarker port n epoch src s
  | .quiescent => Sys2Proof.Machine.execQuiescent s
  | .cut src epoch mseq n => Sys2Proof.Machine.execCut src epoch mseq n s
  | .stopLimitExpiry => Sys2Proof.Machine.execStopLimitExpiry s
  | .plkStopResume rq => Sys2Proof.Machine.execPlkStopResume rq s
  | .resume src epoch mseq n last => Sys2Proof.Machine.execResume src epoch mseq n last s
  | .swatchCapture rq => Sys2Proof.Machine.execSwatchCapture rq s
  | .swatchIntervalTimer => Sys2Proof.Machine.execSwatchIntervalTimer s
  | .swatch src epoch mseq n sw bytes => Sys2Proof.Machine.execSwatch src epoch mseq n sw bytes s
  | .swatchCopyDone result => Sys2Proof.Machine.execSwatchCopyDone result s
  | .swatchDone src epoch mseq sw result => Sys2Proof.Machine.execSwatchDone src epoch mseq sw result s
  | .swatchCapLimit => Sys2Proof.Machine.execSwatchCapLimit s
  | .restore src epoch mseq sw source check extCheck ext => Sys2Proof.Machine.execRestore src epoch mseq sw source check extCheck ext s
  | .restored src epoch mseq sw result => Sys2Proof.Machine.execRestored src epoch mseq sw result s
  | .restoreHost rq => Sys2Proof.Machine.execRestoreHost rq s
  | .fill src epoch mseq x sw p check ext => Sys2Proof.Machine.execFill src epoch mseq x sw p check ext s
  | .swtRateReset rq => Sys2Proof.Machine.execSwtRateReset rq s
  | .swtDurableWrite rq v => Sys2Proof.Machine.execSwtDurableWrite rq v s
  | .dbTail f off size v => Sys2Proof.Machine.execDbTail f off size v s
  | .dbRelease f off size v => Sys2Proof.Machine.execDbRelease f off size v s
  | .apertureWrite f off data => Sys2Proof.Machine.execApertureWrite f off data s
  | .apertureRead f off len late => Sys2Proof.Machine.execApertureRead f off len late s
  | .rsCfgWrite rq v => Sys2Proof.Machine.execRsCfgWrite rq v s
  | .functionLevelReset f => Sys2Proof.Machine.execFunctionLevelReset f s
  | .flrDrainDone f => Sys2Proof.Machine.execFlrDrainDone f s
  | .d3hotEntry f => Sys2Proof.Machine.execD3hotEntry f s
  | .d0Entry f => Sys2Proof.Machine.execD0Entry f s
  | .getCerts payload => Sys2Proof.Machine.execGetCerts payload s
  | .getEvidence payload => Sys2Proof.Machine.execGetEvidence payload s
  | .setUnlock payload => Sys2Proof.Machine.execSetUnlock payload s
  | .doeAbort => Sys2Proof.Machine.execDoeAbort s
  | .powerOn => Sys2Proof.Machine.execPowerOn s
  | .powerDown => Sys2Proof.Machine.execPowerDown s
  | .perstAssert => Sys2Proof.Machine.execPerstAssert s
  | .perstDeassert => Sys2Proof.Machine.execPerstDeassert s
  | .hotReset => Sys2Proof.Machine.execHotReset s
  | .linkDown => Sys2Proof.Machine.execLinkDown s
  | .deviceReset rq => Sys2Proof.Machine.execDeviceReset rq s
  | .mgmtWatchdogExpiry => Sys2Proof.Machine.execMgmtWatchdogExpiry s
  | .managerReset serial epoch verifies => Sys2Proof.Machine.execManagerReset serial epoch verifies s
  | .resetEnd boot clk feed => Sys2Proof.Machine.execResetEnd boot clk feed s
  | .releaseWaveDone region => Sys2Proof.Machine.execReleaseWaveDone region s
  | .startStep ok result detail ms image facts => Sys2Proof.Machine.execStartStep ok result detail ms image facts s
  | .startStepTimeout => Sys2Proof.Machine.execStartStepTimeout s
  | .loadDone rq => Sys2Proof.Machine.execLoadDone rq s
  | .clearSteps rq => Sys2Proof.Machine.execClearSteps rq s
  | .blockReset rq type inst => Sys2Proof.Machine.execBlockReset rq type inst s
  | .blockResetDone => Sys2Proof.Machine.execBlockResetDone s
  | .svnCommit rq => Sys2Proof.Machine.execSvnCommit rq s
  | .secLock rq => Sys2Proof.Machine.execSecLock rq s
  | .monHelp => Sys2Proof.Machine.execMonHelp s
  | .monStatus => Sys2Proof.Machine.execMonStatus s
  | .monPeek addr n => Sys2Proof.Machine.execMonPeek addr n s
  | .monPeek64 addr => Sys2Proof.Machine.execMonPeek64 addr s
  | .monPoke addr v => Sys2Proof.Machine.execMonPoke addr v s
  | .monDump page => Sys2Proof.Machine.execMonDump page s
  | .monCounters page => Sys2Proof.Machine.execMonCounters page s
  | .monJournal n => Sys2Proof.Machine.execMonJournal n s
  | .monLedger => Sys2Proof.Machine.execMonLedger s
  | .monReset => Sys2Proof.Machine.execMonReset s
  | .monBaud rate => Sys2Proof.Machine.execMonBaud rate s
  | .monLoad n data => Sys2Proof.Machine.execMonLoad n data s
  | .monRxOverrun => Sys2Proof.Machine.execMonRxOverrun s
  | .traceRecord record ns overrun => Sys2Proof.Machine.execTraceRecord record ns overrun s
  | .traceWrite => Sys2Proof.Machine.execTraceWrite s
  | .monTrcTrigger rq v => Sys2Proof.Machine.execMonTrcTrigger rq v s
  | .monTrcEnable rq v => Sys2Proof.Machine.execMonTrcEnable rq v s
  | .monFiltClear rq v => Sys2Proof.Machine.execMonFiltClear rq v s
  | .smbusBoardCap write v pec => Sys2Proof.Machine.execSmbusBoardCap write v pec s
  | .smbusPkgPower pec => Sys2Proof.Machine.execSmbusPkgPower pec s
  | .smbusTempMax pec => Sys2Proof.Machine.execSmbusTempMax pec s
  | .smbusThrottle pec => Sys2Proof.Machine.execSmbusThrottle pec s
  | .smbusStartState pec => Sys2Proof.Machine.execSmbusStartState pec s
  | .wrtValidWrite rq loom v => Sys2Proof.Machine.execWrtValidWrite rq loom v s
  | .wrtUnbind rq loom v => Sys2Proof.Machine.execWrtUnbind rq loom v s
  | .errInject rq page v => Sys2Proof.Machine.execErrInject rq page v s
  | .registerWrite rq off size v => Sys2Proof.Machine.execRegisterWrite rq off size v s
  | .reservedOpcode ring => Sys2Proof.Machine.execReservedOpcode ring s
  | .slotReadFailure ring => Sys2Proof.Machine.execSlotReadFailure ring s
  | .regulatorFaultClear quad => Sys2Proof.Machine.execRegulatorFaultClear quad s
  | .scrubLate stack => Sys2Proof.Machine.execScrubLate stack s
  | .doeDiscovery payload => Sys2Proof.Machine.execDoeDiscovery payload s
  | .configurationRequest f field v => Sys2Proof.Machine.execConfigurationRequest f field v s
  | .unexpectedCompletion f => Sys2Proof.Machine.execUnexpectedCompletion f s
  | .unknownCommand => Sys2Proof.Machine.execUnknownCommand s

end Sys2Proof.Machine
end

