-- ==== Sys2Proof/Machine/Tick.lean ====
section
/-! DEFINITION. Sys2Proof/Machine/Tick.lean: a microsecond of the hub timer with no command waiting (log entry 1). -/

namespace Sys2Proof.Machine

open Sys2Proof

/-- The arbiters that hold anything count their waits (R191). -/
def arbTicks (s : State) : State := (s.arbs.map Prod.fst).foldl arbTick s

/-- A microsecond at the blocks: held rings, descriptors, watchdogs, buckets, FIFOs, clusters, panels, islands, ports, stacks,
throttle reasons, the stop limit and the swatch clock. -/
def blockTicks (s : State) : State :=
  swatchTick (stopTick (powerTick (hbmTick (portTick (islandTick (panelTick (clusterTick (trickleTick (bucketTick
    (watchdogTick (descTick (holdTick (arbTicks s)))))))))))))

/-- A microsecond of the hub timer. While a full reset is asserted only its hold runs. -/
def idleTick (s : State) : State :=
  if s.start.asserted then resetTick s
  else resetTick (blockTicks { s with hubUs := s.hubUs + 1 })

end Sys2Proof.Machine
end

