-- ==== Sys2Proof/Machine/Step.lean ====
section
/-! DEFINITION. Sys2Proof/Machine/Step.lean: one step of the block: the command at the front of the queue takes effect. -/

namespace Sys2Proof.Machine

open Sys2Proof

/-- The command at the front of the queue runs with the queue's rest; on an empty queue a microsecond of the hub timer
passes (log entry 1). -/
def step (s : State) : Host.Outcome State Fault Refusal :=
  match s.pending with
  | [] => .next (idleTick s)
  | c :: rest => exec c { s with pending := rest }

/-- The state with the command of a table word put at the front of its queue. -/
def State.withFetchWord (s : State) (nbits w : Nat) : State :=
  match decodeTableWord nbits w with
  | some c => { s with pending := c :: s.pending }
  | none => s

end Sys2Proof.Machine
end

