-- ==== Sys2Proof/WellFormed.lean ====
section
/-! DEFINITION. Sys2Proof/WellFormed.lean: the commands that name units the package has. A command that is not well formed
faults with `noSuchUnit`; a well-formed one always answers a next state. -/

namespace Sys2Proof

/-- Whether a BAR0 offset is that of a page with arbiters (R189, R374): the hub page, a stack page or a port page. -/
def pageOfArbs (page : Nat) : Bool :=
  decide (page = 0 ∨ (page / 2 ^ 20 = 12 ∧ page / 2 ^ 12 % 256 < 16) ∨ (page / 2 ^ 20 = 13 ∧ page / 2 ^ 12 % 256 < 64)) &&
    decide (page % 2 ^ 12 = 0)

/-- Every unit that the command names exists: 8 Looms, 64 panel pages, 10 Retrievers with 8 FIFOs, 65,536 rings and sync
objects, 4 dies, 16 stacks, 584 arbiters, 5 quadrants, 4,096 clusters, 85 islands, 64 ports, 1,024 members, 16 functions
and 50 requesters; and an address lies in its space. -/
def Instr.wf : Instr → Bool
  | .loomGemm panel => decide (panel < 64)
  | .loomFence panel => decide (panel < 64)
  | .loomSetPanels panel => decide (panel < 64)
  | .drainComplete panel => decide (panel < 64)
  | .loomCommandDone panel => decide (panel < 64)
  | .coreFire loom row col _ => decide (loom < 8 ∧ row < 512 ∧ col < 256)
  | .warpLoad loom pair col _ => decide (loom < 8 ∧ pair < 256 ∧ col < 256)
  | .fellSumEntry loom col _ => decide (loom < 8 ∧ col < 256)
  | .fellRowTake panel _ => decide (panel < 64)
  | .gaugeTick loom _ _ _ => decide (loom < 8)
  | .faultDrainDone panel => decide (panel < 64)
  | .pnlResume rq panel => decide (rq < 50 ∧ panel < 64)
  | .wedgeDetect panel => decide (panel < 64)
  | .drainInterval loom => decide (loom < 8)
  | .wait ring => decide (ring < 65536)
  | .signal ring => decide (ring < 65536)
  | .arrive ring => decide (ring < 65536)
  | .reqOpen ring => decide (ring < 65536)
  | .reqClose ring => decide (ring < 65536)
  | .pwrPhase ring => decide (ring < 65536)
  | .pwrRestore ring => decide (ring < 65536)
  | .flush ring => decide (ring < 65536)
  | .rtvCopy ring => decide (ring < 65536)
  | .rtvFill ring => decide (ring < 65536)
  | .rtvKick ring => decide (ring < 65536)
  | .dataRingClaim rtv _ => decide (rtv < 10)
  | .requestIssue rtv _ => decide (rtv < 10)
  | .requestLand rtv _ _ => decide (rtv < 10)
  | .rtvChArm rq rtv _ => decide (rq < 50 ∧ rtv < 10)
  | .rtvChCancel rq rtv _ => decide (rq < 50 ∧ rtv < 10)
  | .trickleWrite loom off data => decide (loom < 8 ∧ off % 2 ^ 26 + data.length ≤ 2 ^ 26 ∧ loom * 2 ^ 26 + off < 8 * 2 ^ 26)
  | .trickleWordWrite rtv fifo => decide (rtv < 10 ∧ fifo < 8)
  | .trickleTimeout rtv fifo => decide (rtv < 10 ∧ fifo < 8)
  | .trickleFlush rq rtv _ => decide (rq < 50 ∧ rtv < 10)
  | .trickleDisable rq rtv _ => decide (rq < 50 ∧ rtv < 10)
  | .trickleGetWrite rq rtv _ => decide (rq < 50 ∧ rtv < 10)
  | .ringConfigWrite rq die off _ => decide (rq < 50 ∧ die < 4 ∧ off < 256)
  | .ringTailWrite rq die _ => decide (rq < 50 ∧ die < 4)
  | .ringStart rq die _ => decide (rq < 50 ∧ die < 4)
  | .ringStop rq die _ => decide (rq < 50 ∧ die < 4)
  | .ringCancel rq die _ => decide (rq < 50 ∧ die < 4)
  | .cancelComplete ring => decide (ring < 65536)
  | .completionPost ring _ => decide (ring < 65536)
  | .syncObjOpSignal rq _ => decide (rq < 50)
  | .syncObjOpArrive rq _ => decide (rq < 50)
  | .syncObjWrite rq off _ => decide (rq < 50 ∧ off < 32)
  | .syncBreak rq => decide (rq < 50)
  | .syncBrokenClear rq => decide (rq < 50)
  | .mirrorSubscribe ring => decide (ring < 65536)
  | .mirrorPush obj _ _ _ => decide (obj.src < 1024 ∧ obj.obj < 65536)
  | .packSyncOp src _ _ obj _ _ => decide (src < 1024 ∧ obj < 65536)
  | .standbySyncForward obj _ _ _ _ _ _ _ _ => decide (obj.src < 1024 ∧ obj.obj < 65536)
  | .queueWatchdog ring => decide (ring < 65536)
  | .arbGrant arb _ => decide (arb < 584)
  | .arbUnitDone arb => decide (arb < 584)
  | .arbFreeze rq page => decide (rq < 50) && pageOfArbs page
  | .arbUnfreeze rq page => decide (rq < 50) && pageOfArbs page
  | .arbWaitClear rq page => decide (rq < 50) && pageOfArbs page
  | .admissionRequest rq die => decide (rq < 50 ∧ die < 4)
  | .admissionDecide => true
  | .admissionRelease rq die => decide (rq < 50 ∧ die < 4)
  | .estimateWindow _ => true
  | .governorLoop => true
  | .profile850 rq _ => decide (rq < 50)
  | .junctionSensorRead quad _ => decide (quad < 5)
  | .thermalHoldEnd => true
  | .regulatorFault quad => decide (quad < 5)
  | .regulatorShutdown quad => decide (quad < 5)
  | .clusterGate cluster => decide (cluster < 4096)
  | .clusterStartRequest cluster => decide (cluster < 4096)
  | .rampWave quad => decide (quad < 4)
  | .hbmSelfRefreshEnter die => decide (die < 4)
  | .islandClockStop island => decide (island < 85)
  | .islandWake island => decide (island < 85)
  | .monitorSample _ _ _ _ _ _ => true
  | .ledgerWindowClose _ => true
  | .closeNow rq _ => decide (rq < 50)
  | .blockSigned => true
  | .ledgerRecordWrite => true
  | .ldgOutGetWrite rq _ => decide (rq < 50)
  | .hbmAccess addr _ _ _ _ _ _ => decide (addr < 2 ^ 41)
  | .patrolRead addr _ => decide (addr < 2 ^ 41)
  | .hbmRefresh stack bank => decide (stack < 16 ∧ bank.1 < 32)
  | .hbmTempRead stack _ => decide (stack < 16)
  | .hbmWinCfgWrite rq die _ => decide (rq < 50 ∧ die < 4)
  | .hbmTempPeakClear rq stack => decide (rq < 50 ∧ stack < 16)
  | .bridgeBeat die dir group _ => decide (die < 4 ∧ dir < 2 ∧ group < 16)
  | .heartbeatCheck _ => true
  | .scheduleDigestCheck core ring _ _ => decide (core < 32 ∧ ring < 65536)
  | .coreWatchdogExpiry core => decide (core.1 < 32)
  | .portUp port _ _ => decide (port < 64)
  | .portTrainRetry port => decide (port < 64)
  | .flitReceive port _ _ _ _ _ _ _ _ _ _ => decide (port < 64)
  | .nak port _ => decide (port < 64)
  | .idleFlitTimer port => decide (port < 64)
  | .livenessTimeout port => decide (port < 64)
  | .fecLockLost port => decide (port < 64)
  | .replayFullTimeout port => decide (port < 64)
  | .plkPortDownWrite rq port => decide (rq < 50 ∧ port < 64)
  | .portDownMsg src _ _ port => decide (src < 1024 ∧ port < 64)
  | .heartbeatTimer => true
  | .heartbeat src _ _ => decide (src.1 < 1024)
  | .memberLost member => decide (member < 1024)
  | .lost src _ _ member => decide (src < 1024 ∧ member < 1024)
  | .takeover src _ _ => decide (src < 1024)
  | .takeoverAccept src _ _ => decide (src < 1024)
  | .takeoverRefuse src _ _ => decide (src < 1024)
  | .takeoverTimeout => true
  | .managerStepDown => true
  | .joinRetry => true
  | .join src _ _ _ _ _ _ _ _ => decide (src < 1024)
  | .joinReply src _ _ _ member _ _ _ => decide (src < 1024 ∧ member < 1024)
  | .routeTable src _ _ _ _ _ => decide (src < 1024)
  | .mseqAck dst _ _ _ _ => decide (dst < 1024)
  | .lossScaleDecision src _ _ _ _ _ => decide (src < 1024)
  | .peerRequest src _ _ _ len _ => decide (src < 1024 ∧ len ≤ 2048)
  | .peerResponse src _ _ _ => decide (src < 1024)
  | .plkStopReq rq => decide (rq < 50)
  | .stop src _ _ n => decide (src < 1024 ∧ n < 65536)
  | .stopMarker port _ _ _ => decide (port < 64)
  | .quiescent => true
  | .cut src _ _ _ => decide (src < 1024)
  | .stopLimitExpiry => true
  | .plkStopResume rq => decide (rq < 50)
  | .resume src _ _ n _ => decide (src < 1024 ∧ n < 65536)
  | .swatchCapture rq => decide (rq < 50)
  | .swatchIntervalTimer => true
  | .swatch src _ _ _ _ _ => decide (src < 1024)
  | .swatchCopyDone _ => true
  | .swatchDone src _ _ _ _ => decide (src < 1024)
  | .swatchCapLimit => true
  | .restore src _ _ _ _ _ _ _ => decide (src < 1024)
  | .restored src _ _ _ _ => decide (src < 1024)
  | .restoreHost rq => decide (rq < 50)
  | .fill src _ _ x _ p _ _ => decide (src < 1024 ∧ x < 1024 ∧ p < 1025)
  | .swtRateReset rq => decide (rq < 50)
  | .swtDurableWrite rq _ => decide (rq < 50)
  | .dbTail f off _ _ => decide (f < 32 ∧ off < 4096)
  | .dbRelease f off _ _ => decide (f < 32 ∧ off < 4096)
  | .apertureWrite f _ _ => decide (f < 16)
  | .apertureRead f _ _ _ => decide (f < 16)
  | .rsCfgWrite rq _ => decide (rq < 50)
  | .functionLevelReset f => decide (f < 16)
  | .flrDrainDone f => decide (f < 16)
  | .d3hotEntry f => decide (f < 16)
  | .d0Entry f => decide (f < 16)
  | .getCerts _ => true
  | .getEvidence _ => true
  | .setUnlock _ => true
  | .doeAbort => true
  | .powerOn => true
  | .powerDown => true
  | .perstAssert => true
  | .perstDeassert => true
  | .hotReset => true
  | .linkDown => true
  | .deviceReset rq => decide (rq < 50)
  | .mgmtWatchdogExpiry => true
  | .managerReset _ _ _ => true
  | .resetEnd _ _ _ => true
  | .releaseWaveDone region => decide (region < 13)
  | .startStep _ _ _ _ _ _ => true
  | .startStepTimeout => true
  | .loadDone rq => decide (rq < 50)
  | .clearSteps rq => decide (rq < 50)
  | .blockReset rq type inst => decide (rq < 50 ∧ type < 4 ∧ inst < 128)
  | .blockResetDone => true
  | .svnCommit rq => decide (rq < 50)
  | .secLock rq => decide (rq < 50)
  | .monHelp => true
  | .monStatus => true
  | .monPeek _ _ => true
  | .monPeek64 _ => true
  | .monPoke _ _ => true
  | .monDump _ => true
  | .monCounters _ => true
  | .monJournal _ => true
  | .monLedger => true
  | .monReset => true
  | .monBaud _ => true
  | .monLoad _ _ => true
  | .monRxOverrun => true
  | .traceRecord _ _ _ => true
  | .traceWrite => true
  | .monTrcTrigger rq _ => decide (rq < 50)
  | .monTrcEnable rq _ => decide (rq < 50)
  | .monFiltClear rq _ => decide (rq < 50)
  | .smbusBoardCap _ _ _ => true
  | .smbusPkgPower _ => true
  | .smbusTempMax _ => true
  | .smbusThrottle _ => true
  | .smbusStartState _ => true
  | .wrtValidWrite rq loom _ => decide (rq < 50 ∧ loom < 8)
  | .wrtUnbind rq loom _ => decide (rq < 50 ∧ loom < 8)
  | .errInject rq page _ => decide (rq < 50 ∧ page % 4096 = 0)
  | .registerWrite rq _ _ _ => decide (rq < 50)
  | .reservedOpcode ring => decide (ring < 65536)
  | .slotReadFailure ring => decide (ring < 65536)
  | .regulatorFaultClear quad => decide (quad < 5)
  | .scrubLate stack => decide (stack < 16)
  | .doeDiscovery _ => true
  | .configurationRequest f _ _ => decide (f < 16)
  | .unexpectedCompletion f => decide (f < 16)
  | .unknownCommand => true
end Sys2Proof
end

