-- ==== Sys2Proof/Safety.lean ====
section
/-! DEFINITION. Sys2Proof/Safety.lean: the terms in which claims about the block are stated: what it is for a command to
answer, what a command leaves alone, and the canonical form of memory. -/

namespace Sys2Proof.Machine

open Sys2Proof

/-- A command answers a next state of which a property holds. -/
def Answers (i : Instr) (s : State) (P : State → Prop) : Prop := ∃ t, exec i s = .next t ∧ P t

/-- Stage memory and HBM are in canonical form. -/
def MemoryOk (s : State) : Prop := s.stage.wf = true ∧ s.hbm.wf = true

/-- Every byte of stage memory and HBM reads as before. -/
def SameMemory (s t : State) : Prop := ∀ a, t.stage.read a = s.stage.read a ∧ t.hbm.read a = s.hbm.read a

/-- Every byte of stage memory outside the listed (address, length) extents reads as before. -/
def SameStageBut (s t : State) (ws : List (Nat × Nat)) : Prop :=
  ∀ a, (∀ w ∈ ws, a < w.1 ∨ w.1 + w.2 ≤ a) → t.stage.read a = s.stage.read a

/-- Every byte of HBM outside the listed (address, length) extents reads as before. -/
def SameHbmBut (s t : State) (ws : List (Nat × Nat)) : Prop :=
  ∀ a, (∀ w ∈ ws, a < w.1 ∨ w.1 + w.2 ≤ a) → t.hbm.read a = s.hbm.read a

/-- The queue, the hub timer, flash, start and keys stand as before. -/
def Aside (s t : State) : Prop :=
  t.pending = s.pending ∧ t.hubUs = s.hubUs ∧ t.flash = s.flash ∧ t.start = s.start ∧ t.sec = s.sec

/-- Memory and everything of `Aside` stand as before. -/
def Calm (s t : State) : Prop := SameMemory s t ∧ Aside s t

/-- Rings, sync objects, panels, Retrievers, ports and arbiters beside the listed ones stand as before. -/
def OtherRings (s t : State) (ks : List Nat) : Prop := ∀ k, k ∉ ks → t.ring k = s.ring k
def OtherObjs (s t : State) (ks : List Nat) : Prop := ∀ k, k ∉ ks → t.obj k = s.obj k
def OtherPanels (s t : State) (ks : List Nat) : Prop := ∀ k, k ∉ ks → t.panel k = s.panel k
def OtherRtvs (s t : State) (ks : List Nat) : Prop := ∀ k, k ∉ ks → t.rtv k = s.rtv k
def OtherPorts (s t : State) (ks : List Nat) : Prop := ∀ k, k ∉ ks → t.port k = s.port k
def OtherArbs (s t : State) (ks : List Nat) : Prop := ∀ k, k ∉ ks → t.arb k = s.arb k

/-- Registers beside the listed (index, offset) ones hold what they held. -/
def OtherRegs (s t : State) (ks : List (Nat × Nat)) : Prop :=
  ∀ i a, (∀ k ∈ ks, regKey i a ≠ regKey k.1 k.2) → t.reg i a = s.reg i a

/-- The entry of a sequence number of a ring has completed with a completion that waits to be posted. -/
def Done (t : State) (r q : Nat) (c : Completion) : Prop := ∃ f ∈ (t.ring r).fly, f.seq = q ∧ f.done = some c

/-- The entry of a sequence number of a ring has started and waits. -/
def Waits (t : State) (r q : Nat) (w : EntryWait) : Prop := ∃ f ∈ (t.ring r).fly, f.seq = q ∧ f.done = none ∧ f.wait = w

/-- Whether a requester's writes can reach a page of the package: a function's space is claimed, it is in D0 and it does not drain
(R309, R320, R322), a control core runs (R21, R217), and no bridge on the way has been taken down (R17). -/
def reaches (s : State) (rq page : Nat) : Bool :=
  !s.start.asserted && decide (rq < 50) && !coreSilent s rq && diesMeet s (requesterDie rq) (pageDie page) &&
    (decide (16 ≤ rq) || (fnClaims s rq && !(s.fn rq).d3hot && !(s.fn rq).draining))

/-- Whether a requester's writes reach the registers of a page: the device is READY as well (R333). -/
def mayWrite (s : State) (rq page : Nat) : Bool := devReady s && reaches s rq page

/-- The same for a requester whose BAR0 is PF0's. -/
def pfMayWrite (s : State) (rq page : Nat) : Bool := mayWrite s rq page && !isVf rq

/-- The page of a requester's window for rings of a die, or for sync objects. -/
def ringPageOf (rq die : Nat) : Nat := if isVf rq then vfPage rq else ringPage die
def syncPageOf (rq : Nat) : Nat := if isVf rq then vfPage rq else syncPage

/-- The sync object that a requester's window names. -/
def selectedObj (s : State) (rq : Nat) : Nat :=
  if isVf rq then s.sel rq (vfPage rq + 0x104) else s.sel rq (syncPage + 0x100)

/-- Whether a requester's window shows its object: the object exists, and it is the VF's own where the requester is a VF. -/
def objShown (s : State) (rq : Nat) : Bool :=
  decide (selectedObj s rq < 65536) && (!isVf rq || vfObj s rq (selectedObj s rq))

/-- Whether a requester's ring window of a die shows its ring. -/
def ringShown (s : State) (rq die : Nat) : Bool :=
  decide (selectedRing s rq die < 65536) && (!isVf rq || vfRing s rq (selectedRing s rq die)) &&
    (isVf rq || decide (s.sel rq (ringPage die + 0x100) < 16384))

/-- The page at which a requester's KEY for a page of PF0, or for its own function page, stands. -/
def keyPage (rq page : Nat) : Nat := if isVf rq then vfPage rq else page

/-- A requester's KEY of a page holds 0xA5. -/
def armed (s : State) (rq page : Nat) : Bool := decide (s.sel rq (keyPage rq page + 0x28) % 256 = 0xA5)

/-- No started entry of a ring that has not completed bears the sequence number of the next one. -/
def seqFree (s : State) (r : Nat) : Prop := openFlight (s.ring r) (s.ring r).issue = none

/-- Every ring, and every sync object, stands as before. -/
def SameRings (s t : State) : Prop := ∀ k, t.ring k = s.ring k
def SameObjs (s t : State) : Prop := ∀ k, t.obj k = s.obj k

/-- An ERR_STAT bit of a page is set. -/
def ErrSet (t : State) (page b : Nat) : Prop := bit (t.reg 0 (page + 0x18)) b = true

/-- A counter, or any stored register, has advanced by n (R359). -/
def Counted (s t : State) (idx a n : Nat) : Prop := t.reg idx a = (s.reg idx a + n) % 2 ^ 64

/-- The last message that this device has sent to a member. -/
def SentLast (t : State) (kind : PackKind) (dst : Nat) (args : List Nat) : Prop :=
  (t.pack.out.getLast?.map fun m => (m.kind, m.dst, m.args)) = some (kind, dst, args)

/-- A command of the monitor answers with these items and counts its line, and leaves rings, objects and memory alone. -/
def Says (s : State) (i : Instr) (items : List MonItem) : Prop :=
  Answers i s fun t =>
    t.monitor.uart = s.monitor.uart ++ items ∧ Counted s t 0 (monPage + 0x40) 1 ∧ SameRings s t ∧ SameObjs s t ∧ Calm s t

/-- A management message is neither stale nor a duplicate (R268, R280). -/
def newMessage (s : State) (src epoch mseq : Nat) : Prop :=
  packEpoch s ≤ epoch % 2 ^ 32 ∧ src * 2 ^ 32 + mseq % 2 ^ 32 ∉ s.pack.seen

/-- Whether a write of a requester other than a VF reaches a page that answers before start has ended (R333). -/
def earlyWrite (s : State) (rq page : Nat) : Bool := reaches s rq page && !isVf rq

/-- Whether an error event of PF0 is sent at once as its vector 0 (R317): fewer than four have come within the microsecond, so that
its crossing has room (R214). -/
def hostHears (s : State) : Bool :=
  decide (crossHeld s 1 < 4) && !(s.fn 0).d3hot && !(s.fn 0).draining && decide (0 < vecCount s 0) && (s.fn 0).msixEn && !(s.fn 0).fnMask &&
    !vectorMasked s 0 0

end Sys2Proof.Machine
end

