-- ==== Sys2Proof/Certificates/Slice0/Obligations.lean ====
section
/-! DEFINITION. Sys2Proof/Certificates/Slice0/Obligations.lean: what is claimed of the block, one definition for each claim. -/

open Sys2Proof Sys2Proof.Machine

/-! ## The whole block -/

/-- A step takes the command at the front of the queue and is exec of it with the queue's rest. -/
def Obligations.StepRunsFrontCommand : Prop :=
  ∀ (c : Instr) (rest : List Instr) (s : State), step { s with pending := c :: rest } = exec c { s with pending := rest }

/-- Every command whose operands name units that the package has answers a next state; every other one faults with
`noSuchUnit`. That a command whose condition does not hold changes nothing is the model's choice (log entry 13), as is the
fault (log entry 14). -/
def Obligations.WellFormedCommandsAnswer : Prop :=
  ∀ (i : Instr) (s : State),
    (i.wf = true → ∃ t, exec i s = .next t) ∧ (i.wf = false → exec i s = .fault .noSuchUnit)

/-- Every step keeps stage memory and HBM in canonical form. -/
def Obligations.StepKeepsMemoryCanonical : Prop := ∀ s t : State, MemoryOk s → step s = .next t → MemoryOk t

/-- Reset leaves both memories in canonical form. -/
def Obligations.ResetMemoryCanonical : Prop := MemoryOk State.reset

/-- No command puts a command into the queue or takes one out. -/
def Obligations.CommandsLeaveQueue : Prop := ∀ (c : Instr) (s t : State), exec c s = .next t → t.pending = s.pending

/-- What reset leaves, as the chapters' Reset columns and R326, R366 and R395 give it: no ring in service, no command in flight,
panel 0 of every Loom idle, every arbiter empty, every requester's KEY and selectors at their Reset values, every register
at its Reset value but RST_CAUSE, whose CODE is 1, and the straps, the monitor at 115,200 baud, and start step 1 in progress.
That the reset is a power-on reset of unstrapped pins is the model's choice (log entry 12), and so are the 0 of fields that start
loads (log entry 2) and of hidden state (log entry 77). -/
def Obligations.ResetState : Prop :=
  (∀ r, (State.reset.ring r).kind = 0 ∧ (State.reset.ring r).mode = .off ∧ (State.reset.ring r).wdogMs = 1000 ∧
    (State.reset.ring r).phase = 1) ∧
  (∀ p, (State.reset.panel p).cmds = [] ∧ (State.reset.panel p).state = if p % 8 = 0 then .idle else .off) ∧
  (∀ a, (State.reset.arb a).waiting = [] ∧ (State.reset.arb a).serving = none) ∧
  (∀ o, (State.reset.obj o).kind = 0) ∧
  (∀ rq a, State.reset.sel rq a = resetValue 0 a % 2 ^ 64) ∧
  (∀ i a, a < 2 ^ 32 → (i ≠ 0 ∨ (a ≠ rstPage + 0x104 ∧ a ≠ rstPage + 0x108)) →
    State.reset.reg i a = resetValue i a % 2 ^ 64) ∧
  State.reset.reg 0 (rstPage + 0x104) = 1 ∧
  State.reset.start.step = 1 ∧ State.reset.start.state = 0 ∧ State.reset.monitor.baud = 115200 ∧ State.reset.pending = []

/-! ## Loom commands -/

/-- LOOM_GEMM at the head of a panel's ring (R34, R50, R101, R123): it fails a check and completes without a side effect, waits
for the drain, or joins the panel's stream with the descriptors that it read now (R53). -/
def Obligations.LoomGemmStarts : Prop :=
  ∀ (s : State) (p : Nat) (b : List Byte), p < 64 → panelEntry s p 0x10 = some b →
    ((s.panel p).state = .idle ∨ (s.panel p).state = .running) → streamRoom (s.ring (panelRing s p)) = true →
    (gemmSound s p b = false → seqFree s (panelRing s p) → Answers (.loomGemm p) s fun t =>
      Done t (panelRing s p) (s.ring (panelRing s p)).issue (completionOf b 2 0 0 0) ∧ t.panel p = s.panel p ∧
        Calm s t ∧ OtherRings s t [panelRing s p] ∧ OtherPanels s t [p]) ∧
    (gemmSound s p b = true → wrtConflict s (tileOf (tdtBytes s (p / 8) (gemmY b))) (gemmM b) (gemmN b) (entryLayer b) = true →
      seqFree s (panelRing s p) → Answers (.loomGemm p) s fun t =>
        Done t (panelRing s p) (s.ring (panelRing s p)).issue (completionOf b 1 0 0 0) ∧ t.panel p = s.panel p ∧
          Calm s t ∧ OtherRings s t [panelRing s p] ∧ OtherPanels s t [p]) ∧
    (gemmSound s p b = true → wrtConflict s (tileOf (tdtBytes s (p / 8) (gemmY b))) (gemmM b) (gemmN b) (entryLayer b) = false →
      needsDrain (s.panel p) b = false → Answers (.loomGemm p) s fun t =>
        (t.panel p).cmds = (s.panel p).cmds ++ [gemmOf s p b (s.panel p).total] ∧ (t.panel p).state = .running ∧
          (t.panel p).total = (s.panel p).total + (gemmOf s p b (s.panel p).total).total ∧
          Waits t (panelRing s p) (s.ring (panelRing s p)).issue .running ∧
          (t.ring (panelRing s p)).issue = add32 (s.ring (panelRing s p)).issue 1 ∧
          Calm s t ∧ OtherRings s t [panelRing s p] ∧ OtherPanels s t [p])

/-- LOOM_FENCE and LOOM_SET_PANELS at the head of a panel's ring (R34, R56, R406): a fence waits for the drain or completes; cuts
are set, and every completion of LOOM_SET_PANELS has 0 in TAG, LAYER_ID and OPERATOR_ID, whatever its reserved bytes hold. -/
def Obligations.LoomFenceAndSetPanels : Prop :=
  ∀ (s : State) (p : Nat) (b : List Byte), p < 64 → ((s.panel p).state = .idle ∨ (s.panel p).state = .running) →
    (panelEntry s p 0x11 = some b → streamRoom (s.ring (panelRing s p)) = true → fenceForm b = true →
      (s.panel p).cmds ≠ [] → Answers (.loomFence p) s fun t =>
        (t.panel p).state = .draining ∧ (t.panel p).fence = some (panelRing s p, (s.ring (panelRing s p)).issue) ∧
          (t.panel p).cmds = (s.panel p).cmds ∧ Calm s t ∧ OtherRings s t [panelRing s p] ∧ OtherPanels s t [p]) ∧
    (panelEntry s p 0x11 = some b → streamRoom (s.ring (panelRing s p)) = true → fenceForm b = true →
      seqFree s (panelRing s p) → (s.panel p).cmds = [] → Answers (.loomFence p) s fun t =>
        (t.panel p).state = .idle ∧ Done t (panelRing s p) (s.ring (panelRing s p)).issue (completionOf b 0 0 0 0) ∧
          Calm s t ∧ OtherRings s t [panelRing s p] ∧ OtherPanels s t [p]) ∧
    (panelEntry s p 0x12 = some b → (s.ring (panelRing s p)).quiet = true → setPanelsForm b = true →
      cutsWide s (p / 8) (field b 6 1) = true → cutsConflict s p = false → Answers (.loomSetPanels p) s fun t =>
        t.reg 0 (loomPage (p / 8) + 0x110) = field b 6 1 ∧
          Done t (panelRing s p) (s.ring (panelRing s p)).issue
            ⟨0, 0x12, 0, 0, 0, field b 6 1, 0, 0, false, false⟩ ∧
          Calm s t ∧ OtherRings s t [panelRing s p]) ∧
    (panelEntry s p 0x12 = some b → (s.ring (panelRing s p)).quiet = true → setPanelsForm b = false →
      Answers (.loomSetPanels p) s fun t =>
        Done t (panelRing s p) (s.ring (panelRing s p)).issue ⟨2, 0x12, 0, 0, 0, 0, 0, 0, false, false⟩ ∧
          t.panel p = s.panel p ∧ Calm s t ∧ OtherRings s t [panelRing s p] ∧ OtherPanels s t [p])

/-- The end of a drain, of a command, of a fault drain and of a fault (R34, R51, R58, R59): the stream is empty, the command
leaves it, the panel is FAULTED with no stream, and RESUME makes a FAULTED panel IDLE. -/
def Sys2Proof.Claims.PanelEnds : Prop :=
  ∀ (s : State) (p : Nat), p < 64 →
    ((s.panel p).state = .draining → (s.panel p).faulting = none → (s.panel p).cmds = [] →
      Answers (.drainComplete p) s fun t =>
        (t.panel p).state = .idle ∧ (t.panel p).kind = none ∧ (t.panel p).fence = none ∧ Calm s t ∧ OtherPanels s t [p]) ∧
    (∀ c rest, (s.panel p).cmds = c :: rest → c.tilesDone = c.tiles → (s.panel p).faulting = none →
      writesReady s (histWrites s c ++ colWrites s c) = true → Answers (.loomCommandDone p) s fun t =>
        (∀ x ∈ (t.panel p).cmds, x.base ≠ c.base) ∧ (rest = [] → (s.panel p).state = .running → (t.panel p).state = .idle) ∧
          Aside s t) ∧
    ((s.panel p).faulting.isSome = true → Answers (.faultDrainDone p) s fun t =>
      (t.panel p).state = .faulted ∧ (t.panel p).cmds = [] ∧ Aside s t) ∧
    (∀ rq, pfMayWrite s rq (pnlPage p) = true → (s.panel p).state = .faulted → Answers (.pnlResume rq p) s fun t =>
      (t.panel p).state = .idle ∧ (t.panel p).cmds = [] ∧ Calm s t ∧ OtherPanels s t [p] ∧ ∀ k, t.ring k = s.ring k)

/-- A core fires (R28, R29, R32, R33): a bubble passes without a product; in a stationary mode each sum takes its two products
in order and leaves downward; in output-stationary mode the products enter the pass sums. -/
def Obligations.CoreFires : Prop :=
  ∀ (s : State) (n r col : Nat) (f : Firing), n < 8 → r < 512 → col < 256 → firing s n r col = some f →
    (f.step = none → Answers (.coreFire n r col 0) s fun t =>
      (t.core n r col).fired = (s.core n r col).fired + 1 ∧ Calm s t ∧ ∀ k, t.ring k = s.ring k) ∧
    (∀ k l j0 ws, f.step = some k → locate (s.panel f.p) k = some l → l.cmd.mode ≠ 2 →
      (if l.t = 0 then (s.core n r col).shadow else (s.core n r col).active) = some (j0, ws) → j0 = k - l.t →
      Answers (.coreFire n r col 0) s fun t =>
        (t.core n r col).down = some ⟨some k, sumsAfter f.upper.vals f.weft.vals ws⟩ ∧
          (t.core n r col).active = some (j0, ws) ∧ (t.core n r col).fired = (s.core n r col).fired + 1 ∧ Calm s t) ∧
    (∀ k l, f.step = some k → locate (s.panel f.p) k = some l → l.cmd.mode = 2 → l.t ≠ 0 → l.t + 1 ≠ l.len →
      Answers (.coreFire n r col 0) s fun t =>
        (t.core n r col).pass = passAfter (s.core n r col).pass f.weft.vals f.upper.vals l.cmd.fp4 ∧
          (t.core n r col).total = (s.core n r col).total ∧ (t.core n r col).fired = (s.core n r col).fired + 1 ∧ Calm s t)

/-- Warp loads and the fell (R38, R40, R41, R117): a load token leaves its half of the warp buffer and fills the shadow register of
its row; a sum enters the accumulator half; the lanes take the oldest half's next row, whose writes are the only bytes that
change. -/
def Obligations.WarpAndFell : Prop :=
  (∀ (s : State) (n pair col : Nat) (l : Place) (ws : List (Nat × Nat)), n < 8 → pair < 256 → col < 256 → colLive s n col = true →
    (s.panel (panelAt s n col)).faulting = none → pathRuns s n col 0 (2 * pair) = true →
    warpDue s (panelAt s n col) n (2 * pair) col = true → warpDue s (panelAt s n col) n (2 * pair + 1) col = true →
    locate (s.panel (panelAt s n col)) (s.core n (2 * pair) col).nextLoad = some l →
    takeWarp s (panelAt s n col) (s.core n (2 * pair) col).nextLoad = some ws →
    Answers (.warpLoad n pair col 0) s fun t =>
      (t.core n (2 * pair) col).shadow = some ((s.core n (2 * pair) col).nextLoad,
          warpValues s l (panelWidth s (panelAt s n col)) (2 * pair) (liveIndex s (panelAt s n col) col)) ∧
        (t.core n (2 * pair + 1) col).shadow.isSome = true ∧
        t.panel (panelAt s n col) = { s.panel (panelAt s n col) with warps := ws } ∧ OtherPanels s t [panelAt s n col] ∧
        Calm s t ∧ ∀ k, t.ring k = s.ring k) ∧
  (∀ (s : State) (n col k : Nat) (vals : List (Option FNum)) (l : Place) (P1 : Panel), n < 8 → col < 256 →
    colLive s n col = true → (s.core n 511 col).down = some ⟨some k, vals⟩ →
    (s.panel (panelAt s n col)).faulting = none → locate (s.panel (panelAt s n col)) k = some l →
    enterHalf (s.panel (panelAt s n col)) l
      (tokenSums l (panelWidth s (panelAt s n col)) (liveIndex s (panelAt s n col) col) vals)
      (l.lastPass && decide (liveIndex s (panelAt s n col) col + 1 = panelWidth s (panelAt s n col))) = some P1 →
    Answers (.fellSumEntry n col 0) s fun t =>
      (t.core n 511 col).down = none ∧ (t.panel (panelAt s n col)).halves = P1.halves ∧ Calm s t) ∧
  (∀ (s : State) (p : Nat) (h : AccHalf) (c : Gemm), p < 64 → oldestHalf (s.panel p) = some (h, c) →
    (s.panel p).faulting = none → rowArrived h c = true → writesReady s (rowResult s h c).ws = true →
    Answers (.fellRowTake p 0) s fun t =>
      (rowIsLast h c = true → (t.panel p).halves = (s.panel p).halves.drop 1) ∧
        (rowIsLast h c = false → ((t.panel p).halves.map AccHalf.taken).head? = some (h.taken + 1)) ∧
        SameStageBut s t ((rowResult s h c).ws.map fun w => (w.1, w.2.length)) ∧ (∀ a, t.hbm.read a = s.hbm.read a) ∧
        Aside s t)

/-- The gauge, the banks of stage memory, wedges and drain intervals (R44, R60, R115, R116): a tick advances the gauge, and where no
access waits and none comes, no conflict is counted; where five accesses come to one bank, one waits and is counted. -/
def Sys2Proof.Claims.GaugeAndWedge : Prop :=
  (∀ (s : State) (n starved : Nat) (own others : List (Nat × Nat)), n < 8 → Answers (.gaugeTick n starved own others) s fun t =>
    (t.loom n).ticks = (s.loom n).ticks + 1 ∧ (t.loom n).tickNo = ((s.loom n).tickNo + 1) % 64 ∧
      ((s.loom n).waits = [] → own = [] → others = [] →
        (t.loom n).waits = [] ∧ t.reg 0 (loomPage n + 0x198) = s.reg 0 (loomPage n + 0x198)) ∧
      (∀ o, (s.loom n).waits = [] → own = List.replicate 5 (0, o) → others = [] →
        (t.loom n).waits = [⟨bankOf o, 0, true⟩] ∧ Counted s t 0 (loomPage n + 0x198) 1) ∧
      Calm s t ∧ ∀ k, t.ring k = s.ring k) ∧
  (∀ (s : State) (p : Nat), p < 64 → wedgeLimit s (p / 8) ≤ (s.panel p).stuckUs → panelWorks s p = true →
    (s.panel p).state ≠ .wedged → (s.panel p).state ≠ .held → Answers (.wedgeDetect p) s fun t =>
      (t.panel p).state = .wedged ∧ (t.panel p).cmds = [] ∧ drainRuns t = true ∧ Aside s t) ∧
  (∀ (s : State) (n : Nat), n < 8 → (s.loom n).drainUs ≠ 0 → (s.loom n).drainUs ≤ s.hubUs + 1 →
    bit (s.reg 0 (loomPage n + 0x114)) 31 = false → Answers (.drainInterval n) s fun t =>
      (t.loom n).drainUs = 0 ∧ Aside s t ∧
        ∀ p, p < 64 → (s.panel p).state ≠ .off → (s.panel p).state ≠ .wedged → (t.panel p).state = .held)

/-- The ends of a panel's streams, the gauge and wedges. -/
def Obligations.PanelsGaugeAndWedge : Prop :=
  Sys2Proof.Claims.PanelEnds ∧ Sys2Proof.Claims.GaugeAndWedge

/-! ## Ring entries of the sync store -/

/-- SIGNAL at the head of a ring (R124, R165, R168, R169): its status where a check fails; at this device's store the counter
advances modulo 2^32 and every wait that its new value satisfies completes OK with that value; on a worker a pack-scope SIGNAL
goes to the manager. -/
def Obligations.SignalEntry : Prop :=
  ∀ (s : State) (r : Nat) (b : List Byte), r < 65536 → nextActing s r 2 = some b →
    let o := entrySync b
    let q := (s.ring r).issue
    let fmt := waitFormat b && decide (field b 10 2 = 0) && decide (field b 8 2 ≠ 0)
    let v := add32 (s.obj o).value (field b 8 2)
    (syncEntryCheck s r b fmt 1 ≠ 0 → Answers (.signal r) s fun t =>
      Done t r q (completionOf b (syncEntryCheck s r b fmt 1) 0 0 0) ∧ (∀ k, t.obj k = s.obj k) ∧ Calm s t ∧
        OtherRings s t [r]) ∧
    (syncEntryCheck s r b fmt 1 = 0 → actsRemote s b = false → Answers (.signal r) s fun t =>
      (t.obj o).value = v ∧ (t.obj o).waiters = (s.obj o).waiters.filter (fun w => !waitSatisfied v w.target) ∧
        Done t r q (completionOf b 0 v 0 0) ∧
        (∀ w ∈ (s.obj o).waiters, ∀ f, waitSatisfied v w.target = true → openFlight (s.ring w.ring) w.seq = some f →
          Done t w.ring w.seq (completionFor (s.ring w.ring) f.bytes 0 v 0 0)) ∧
        OtherObjs s t [o] ∧ OtherRings s t (r :: (s.obj o).waiters.map Waiter.ring) ∧ Calm s t) ∧
    (syncEntryCheck s r b fmt 1 = 0 → actsRemote s b = true → Answers (.signal r) s fun t =>
      Waits t r q (.remote o) ∧ (t.pack.unacked.map PackMsg.args).getLast? = some [1, o, field b 8 2, r, q] ∧
        (∀ k, t.obj k = s.obj k) ∧ OtherRings s t [r] ∧ Calm s t)

/-- WAIT at the head of a ring (R124, R165, R169, R176): it completes with its status, or OK with the value at once, or it is held
on the object; on a worker it waits for a mirror, or the mirror that its object has decides it: STATE_CONFLICT where the manager
has confirmed a barrier, OK with the mirrored value where that satisfies it. -/
def Obligations.WaitEntry : Prop :=
  ∀ (s : State) (r : Nat) (b : List Byte), r < 65536 → nextActing s r 1 = some b →
    let o := entrySync b
    let q := (s.ring r).issue
    let check := syncEntryCheck s r b (waitFormat b) 1
    (check ≠ 0 → Answers (.wait r) s fun t =>
      Done t r q (completionOf b check 0 0 0) ∧ (∀ k, t.obj k = s.obj k) ∧ Calm s t ∧ OtherRings s t [r]) ∧
    (check = 0 → actsRemote s b = false → waitSatisfied (s.obj o).value (field b 8 4) = true → Answers (.wait r) s fun t =>
      Done t r q (completionOf b 0 (s.obj o).value 0 0) ∧ (∀ k, t.obj k = s.obj k) ∧ Calm s t ∧ OtherRings s t [r]) ∧
    (check = 0 → actsRemote s b = false → waitSatisfied (s.obj o).value (field b 8 4) = false → Answers (.wait r) s fun t =>
      Waits t r q (.counter o (field b 8 4) false) ∧
        (t.obj o).waiters = (s.obj o).waiters ++ [⟨r, q, field b 8 4, 0, 0⟩] ∧ (t.obj o).value = (s.obj o).value ∧
        OtherObjs s t [o] ∧ Calm s t ∧ OtherRings s t [r]) ∧
    (check = 0 → actsRemote s b = true → (s.mirrors.all fun m => m.obj != o) = true → Answers (.wait r) s fun t =>
      Waits t r q (.counter o (field b 8 4) true) ∧ t.mirrorWait = s.mirrorWait ++ [⟨o, ⟨r, q, field b 8 4, 0, 0⟩, false⟩] ∧
        (∀ k, t.obj k = s.obj k) ∧ Calm s t ∧ OtherRings s t [r]) ∧
    (check = 0 → actsRemote s b = true → mirrorKind s o = 2 → Answers (.wait r) s fun t =>
      Done t r q (completionOf b 1 0 0 0) ∧ t.mirrors = s.mirrors ∧ (∀ k, t.obj k = s.obj k) ∧ Calm s t ∧
        OtherRings s t [r]) ∧
    (check = 0 → actsRemote s b = true → mirrorKind s o ≠ 2 → mirrorBlocks s o false ⟨r, q, field b 8 4, 0, 0⟩ = false →
      Answers (.wait r) s fun t =>
        Done t r q (completionOf b 0 (mirrorValue s o) 0 0) ∧ t.mirrors = s.mirrors ∧ (∀ k, t.obj k = s.obj k) ∧ Calm s t ∧
          OtherRings s t [r])

/-- ARRIVE at the head of a ring (R165, R171, R172, R173): a counted arrival moves the barrier as R172 says and completes with
GEN and ARRIVED after it, unless it waits; the last arriver's WAIT ends at once; a saturated or misused barrier refuses. -/
def Obligations.ArriveEntry : Prop :=
  ∀ (s : State) (r : Nat) (b : List Byte), r < 65536 → nextActing s r 3 = some b →
    syncEntryCheck s r b (arriveFormat b) 2 = 0 → (s.obj (entrySync b)).gen < 256 →
    let o := entrySync b
    let q := (s.ring r).issue
    let x := s.obj o
    let y := arrivedObj x (field b 8 1)
    let k := arrivalKind x (field b 8 1)
    (actsRemote s b = false → (k = .current ∨ k = .early) → (arriveWaits b = false ∨ rollsOver x (field b 8 1) = true) →
      (∀ w ∈ x.waiters, w.ring ≠ r) → Answers (.arrive r) s fun t =>
        Done t r q (completionOf b 0 y.gen y.arrived 0) ∧ (t.obj o).gen = y.gen ∧ (t.obj o).arrived = y.arrived ∧
          (t.obj o).early = y.early ∧ OtherObjs s t [o] ∧ Calm s t) ∧
    (actsRemote s b = false → (k = .current ∨ k = .early) → arriveWaits b = true → rollsOver x (field b 8 1) = false →
      Answers (.arrive r) s fun t =>
        Waits t r q (.barrier o (field b 8 1) false) ∧ (t.obj o).arrived = y.arrived ∧ (t.obj o).early = y.early ∧
          (t.obj o).gen = x.gen ∧ OtherObjs s t [o] ∧ OtherRings s t [r] ∧ Calm s t) ∧
    (actsRemote s b = false → (k = .saturated ∨ k = .misuse) → Answers (.arrive r) s fun t =>
      Done t r q (completionOf b 1 0 0 0) ∧ (t.obj o).arrived = x.arrived ∧ (t.obj o).gen = x.gen ∧
        ((t.obj o).saturated = true ∨ (t.obj o).misuse = true) ∧ OtherObjs s t [o] ∧ OtherRings s t [r] ∧ Calm s t) ∧
    (actsRemote s b = true → Answers (.arrive r) s fun t =>
      Waits t r q (.remote o) ∧ (∀ j, t.obj j = s.obj j) ∧ OtherRings s t [r] ∧ Calm s t)

/-! ## Other entries -/

/-- REQ_OPEN and REQ_CLOSE at the head of a ring (R240, R241, R258): a request opens with its identifier and the stamps of its
entry; an entry with a non-zero reserved field, a second open request and a close of another request are refused, and so is an
entry of a ring whose admission is pending or refused (R197); a close waits while the ledger is full, and otherwise takes the
next receipt number. -/
def Sys2Proof.Claims.RequestEntries : Prop :=
  (∀ (s : State) (r : Nat) (b : List Byte), r < 65536 → nextActing s r 4 = some b →
    (reqFormat b = false → Answers (.reqOpen r) s fun t =>
      Done t r (s.ring r).issue (completionOf b 2 0 0 0) ∧ (t.ring r).req = (s.ring r).req ∧ Calm s t ∧ OtherRings s t [r]) ∧
    (reqFormat b = true → (s.ring r).req ≠ none → Answers (.reqOpen r) s fun t =>
      Done t r (s.ring r).issue (completionOf b 1 0 0 0) ∧ (t.ring r).req = (s.ring r).req ∧
        Counted s t 0 (ldgPage + 0x68) 1 ∧ Calm s t ∧ OtherRings s t [r]) ∧
    (reqFormat b = true → (s.ring r).req = none → orRefused s r 0 ≠ 0 → Answers (.reqOpen r) s fun t =>
      Done t r (s.ring r).issue (completionOf b 9 0 0 0) ∧ (t.ring r).req = none ∧ Calm s t ∧ OtherRings s t [r]) ∧
    (reqFormat b = true → (s.ring r).req = none → orRefused s r 0 = 0 → Answers (.reqOpen r) s fun t =>
      Done t r (s.ring r).issue (completionOf b 0 0 0 0) ∧
        (t.ring r).req = some ⟨field b 8 8, (s.ring r).issue, field b 16 8, s.ledger.nextReq + 1⟩ ∧
        t.account (s.ledger.nextReq + 1) = { accountZero with
          ring := r, part := (s.ring r).part, id := field b 8 8, openSeq := (s.ring r).issue, openWall := field b 16 8 } ∧
        Calm s t ∧ OtherRings s t [r] ∧ SameObjs s t)) ∧
  (∀ (s : State) (r : Nat) (b : List Byte), r < 65536 → nextActing s r 5 = some b →
    (reqFormat b = false → Answers (.reqClose r) s fun t =>
      Done t r (s.ring r).issue (completionOf b 2 0 0 0) ∧ (t.ring r).req = (s.ring r).req ∧ Calm s t ∧ OtherRings s t [r]) ∧
    (reqFormat b = true → orRefused s r 0 ≠ 0 → Answers (.reqClose r) s fun t =>
      Done t r (s.ring r).issue (completionOf b 9 0 0 0) ∧ (t.ring r).req = (s.ring r).req ∧ Calm s t ∧ OtherRings s t [r]) ∧
    (reqFormat b = true → orRefused s r 0 = 0 → ledgerFull s = true → Answers (.reqClose r) s fun t =>
      Waits t r (s.ring r).issue .ledger ∧ (t.ring r).req = (s.ring r).req ∧ Calm s t ∧ OtherRings s t [r]) ∧
    (reqFormat b = true → orRefused s r 0 = 0 → ledgerFull s = false → (∀ o, (s.ring r).req = some o → o.id ≠ field b 8 8) →
      Answers (.reqClose r) s fun t =>
        Done t r (s.ring r).issue (completionOf b 1 0 0 0) ∧ (t.ring r).req = (s.ring r).req ∧
          Counted s t 0 (ldgPage + 0x68) 1 ∧ Calm s t ∧ OtherRings s t [r]) ∧
    (∀ o, reqFormat b = true → orRefused s r 0 = 0 → ledgerFull s = false → (s.ring r).req = some o → o.id = field b 8 8 →
      Answers (.reqClose r) s fun t =>
        Done t r (s.ring r).issue (completionOf b 0 (s.ldg 0x158) 0 0) ∧ (t.ring r).req = none ∧
          Counted s t 0 (ldgPage + 0x158) 1 ∧ (t.account o.no).closeSeq = (s.ring r).issue ∧
          (t.account o.no).closeWall = field b 16 8 ∧ (t.account o.no).receipt = s.ldg 0x158 ∧
          (t.account o.no).closedIn = some (openWindow s) ∧ (t.account o.no).energy = (s.account o.no).energy ∧ Calm s t ∧
          OtherRings s t [r] ∧ SameObjs s t))

/-- PWR_PHASE and PWR_RESTORE at the head of a ring (R226, R227): the phase is saved and set, or set back to the saved one; an
entry with a non-zero reserved field completes BAD_DESCRIPTOR and leaves both phases, and so does ADMISSION_REFUSED on a ring
whose admission is pending or refused (R197). -/
def Sys2Proof.Claims.PhaseEntries : Prop :=
  (∀ (s : State) (r : Nat) (b : List Byte), r < 65536 → nextActing s r 6 = some b →
    (phaseFormat b = true → orRefused s r 0 ≠ 0 → Answers (.pwrPhase r) s fun t =>
      (t.ring r).phase = (s.ring r).phase ∧ (t.ring r).savedPhase = (s.ring r).savedPhase ∧
        Done t r (s.ring r).issue (completionOf b 9 0 0 0) ∧ Calm s t ∧ OtherRings s t [r]) ∧
    (phaseFormat b = true → orRefused s r 0 = 0 → Answers (.pwrPhase r) s fun t =>
      (t.ring r).phase = field b 6 1 % 8 ∧ (t.ring r).savedPhase = (s.ring r).phase ∧
        Done t r (s.ring r).issue (completionOf b 0 (field b 6 1 % 8) (s.ring r).phase 0) ∧ Calm s t ∧ OtherRings s t [r]) ∧
    (phaseFormat b = false → Answers (.pwrPhase r) s fun t =>
      (t.ring r).phase = (s.ring r).phase ∧ (t.ring r).savedPhase = (s.ring r).savedPhase ∧
        Done t r (s.ring r).issue (completionOf b 2 0 0 0) ∧ Calm s t ∧ OtherRings s t [r])) ∧
  (∀ (s : State) (r : Nat) (b : List Byte), r < 65536 → nextActing s r 7 = some b →
    (phaseFormat b = true → field b 6 1 = 0 → orRefused s r 0 ≠ 0 → Answers (.pwrRestore r) s fun t =>
      (t.ring r).phase = (s.ring r).phase ∧ (t.ring r).savedPhase = (s.ring r).savedPhase ∧
        Done t r (s.ring r).issue (completionOf b 9 0 0 0) ∧ Calm s t ∧ OtherRings s t [r]) ∧
    (phaseFormat b = true → field b 6 1 = 0 → orRefused s r 0 = 0 → Answers (.pwrRestore r) s fun t =>
      (t.ring r).phase = (s.ring r).savedPhase ∧ (t.ring r).savedPhase = (s.ring r).savedPhase ∧
        Done t r (s.ring r).issue (completionOf b 0 (s.ring r).savedPhase (s.ring r).savedPhase 0) ∧ Calm s t ∧
        OtherRings s t [r]) ∧
    ((phaseFormat b = false ∨ field b 6 1 ≠ 0) → Answers (.pwrRestore r) s fun t =>
      (t.ring r).phase = (s.ring r).phase ∧ (t.ring r).savedPhase = (s.ring r).savedPhase ∧
        Done t r (s.ring r).issue (completionOf b 2 0 0 0) ∧ Calm s t ∧ OtherRings s t [r]))

/-- FLUSH at the head of a ring (R134, R140, R315): the FIFO's partial word is padded; the entry waits until every unit that
entered before it has been written out, and completes with PUT. -/
def Sys2Proof.Claims.FlushEntry : Prop :=
  ∀ (s : State) (r : Nat) (b : List Byte), r < 65536 → nextActing s r 8 = some b →
    let n := field b 6 1
    let f := field b 7 1
    (flushFormat b = false → Answers (.flush r) s fun t =>
      Done t r (s.ring r).issue (completionOf b 2 0 0 0) ∧ (∀ k, t.rtv k = s.rtv k) ∧ Calm s t ∧ OtherRings s t [r]) ∧
    (flushFormat b = true → orRefused s r 0 ≠ 0 → Answers (.flush r) s fun t =>
      Done t r (s.ring r).issue (completionOf b 9 0 0 0) ∧ (∀ k, t.rtv k = s.rtv k) ∧ Calm s t ∧ OtherRings s t [r]) ∧
    (flushFormat b = true → orRefused s r 0 = 0 → (∀ p ∈ s.rings, p.1 = r → ∀ x ∈ p.2.fly, x.wait = .running) →
      (s.trickle n f).unitsOut < (s.trickle n f).unitsIn → Answers (.flush r) s fun t =>
        Waits t r (s.ring r).issue (.flush n f (s.trickle n f).unitsIn) ∧ (t.trickle n f).part = [] ∧
          (t.trickle n f).words = (s.trickle n f).pad.words ∧ OtherRtvs s t [n] ∧ Calm s t ∧ SameObjs s t) ∧
    (flushFormat b = true → orRefused s r 0 = 0 → (∀ p ∈ s.rings, p.1 = r → ∀ x ∈ p.2.fly, x.wait = .running) →
      (s.trickle n f).unitsIn ≤ (s.trickle n f).unitsOut → Answers (.flush r) s fun t =>
        Done t r (s.ring r).issue (completionOf b 0 (trkPut s n f) 0 0) ∧ (t.trickle n f).part = [] ∧
          (t.trickle n f).words = (s.trickle n f).pad.words ∧ OtherRtvs s t [n] ∧ Calm s t ∧ SameObjs s t)

/-- RESERVED_OPCODE and SLOT_READ_FAILURE (R46, R123, R409): the entry completes BAD_DESCRIPTOR, or ECC_UNCORRECTABLE with zero
fields, which stops its ring once it is posted. -/
def Sys2Proof.Claims.EntriesThatNoBlockRuns : Prop :=
  (∀ (s : State) (r : Nat) (b : List Byte), r < 65536 → nextEntry s r = some b → opServed (s.ring r) (entryOp b) = false →
    (s.ring r).quiet = true → Answers (.reservedOpcode r) s fun t =>
      Done t r (s.ring r).issue (completionOf b 2 0 0 0) ∧ (t.ring r).issue = add32 (s.ring r).issue 1 ∧ Calm s t ∧
        OtherRings s t [r] ∧ SameObjs s t) ∧
  (∀ (s : State) (r : Nat), r < 65536 → ringMayStart (s.ring r) = true → ringServed s r (s.ring r) = true →
    slotReached s r (s.ring r) = true → (s.ring r).quiet = true →
    ((s.ring r).slotInside (s.ring r).issue = false → Answers (.slotReadFailure r) s fun t =>
      Done t r (s.ring r).issue (completionOf (List.replicate 64 0) 2 0 0 0) ∧ Calm s t ∧ OtherRings s t [r]) ∧
    ((s.ring r).slotInside (s.ring r).issue = true → slotEcc s (s.ring r) (s.ring r).issue = true →
      Answers (.slotReadFailure r) s fun t =>
        Done t r (s.ring r).issue { completionOf (List.replicate 64 0) 7 0 0 0 with stops := true } ∧ Calm s t ∧
          OtherRings s t [r]))

/-- Request and power-phase entries, and the entries that no block runs. -/
def Obligations.LedgerPhaseAndFailedEntries : Prop :=
  Sys2Proof.Claims.RequestEntries ∧ Sys2Proof.Claims.PhaseEntries ∧ Sys2Proof.Claims.EntriesThatNoBlockRuns

/-! ## Retrievers -/

/-- RTV_COPY and RTV_FILL at the head of a Retriever ring (R125 to R127): the first check that fails gives the status, and
otherwise a descriptor starts with the addresses of its entry. -/
def Obligations.DescriptorsStart : Prop :=
  ∀ (s : State) (r : Nat) (b : List Byte) (i : Instr), r < 65536 →
    ((i = .rtvCopy r ∧ nextDesc s r 0x20 = some b) ∨ (i = .rtvFill r ∧ nextDesc s r 0x21 = some b)) →
    let n := (s.ring r).serverId
    let q := (s.ring r).issue
    (descCheck s r b ≠ 0 → seqFree s r → Answers i s fun t =>
      Done t r q (completionOf b (descCheck s r b) 0 0 0) ∧ (∀ k, t.rtv k = s.rtv k) ∧ Calm s t ∧ OtherRings s t [r]) ∧
    (descCheck s r b = 0 → Answers i s fun t =>
      Waits t r q .running ∧ (t.ring r).issue = add32 q 1 ∧
        (∃ d, (t.rtv n).descs = (s.rtv n).descs ++ [d] ∧ d.id = (s.rtv n).nextDesc ∧ d.owner = .entry r q ∧ d.bytes = b ∧
          d.src = descSrc b ∧ d.dst = descDst b ∧ d.waiting = (descToRing b || descFromRing b) ∧ d.reqs = [] ∧
          d.status = 0 ∧ d.cut = none) ∧
        OtherRtvs s t [n] ∧ OtherRings s t [r] ∧ SameObjs s t ∧ Calm s t)

/-- RTV_KICK at the head of a Retriever ring (R132, R134): its checks in order, then the channel is armed from its staging
words. On a ring whose admission is pending or refused it completes ADMISSION_REFUSED (R197). -/
def Sys2Proof.Claims.KickEntry : Prop :=
  ∀ (s : State) (r : Nat) (b : List Byte), r < 65536 → nextActing s r 0x22 = some b →
    let n := (s.ring r).serverId
    let c := field b 6 1 % 64
    let C := s.chan n c
    (kickCheck s r b ≠ 0 → Answers (.rtvKick r) s fun t =>
      Done t r (s.ring r).issue (completionOf b (kickCheck s r b) 0 0 0) ∧ (∀ k, t.rtv k = s.rtv k) ∧ Calm s t ∧
        OtherRings s t [r]) ∧
    (kickCheck s r b = 0 → orRefused s r 0 ≠ 0 → Answers (.rtvKick r) s fun t =>
      Done t r (s.ring r).issue (completionOf b 9 0 0 0) ∧ (∀ k, t.rtv k = s.rtv k) ∧ Calm s t ∧ OtherRings s t [r]) ∧
    (kickCheck s r b = 0 → orRefused s r 0 = 0 → C.active ≠ none → Answers (.rtvKick r) s fun t =>
      Done t r (s.ring r).issue (completionOf b 0 2 (flag C.shadow.isSome) 0) ∧
        t.chan n c = { C with shadow := some (stagingBytes s n c) } ∧ Calm s t ∧ OtherRings s t [r]) ∧
    (kickCheck s r b = 0 → orRefused s r 0 = 0 → C.active = none → chanCheck s n c (stagingBytes s n c) = 0 →
      Answers (.rtvKick r) s fun t =>
      Done t r (s.ring r).issue (completionOf b 0 1 (flag C.shadow.isSome) 0) ∧
        (t.chan n c).active = some (stagingBytes s n c) ∧
        (∃ d, (t.rtv n).descs = (s.rtv n).descs ++ [d] ∧ d.owner = .channel c ∧ d.bytes = stagingBytes s n c) ∧ Calm s t ∧
        OtherRings s t [r])

/-- FLUSH and KICK entries. -/
def Obligations.FlushAndKickEntries : Prop :=
  Sys2Proof.Claims.FlushEntry ∧ Sys2Proof.Claims.KickEntry

/-- DATA_RING_CLAIM and REQUEST_ISSUE (R127 to R129): a waiting writer takes the slot at CLAIM while the ring has a credit, a
waiting reader the filled slot that is its turn's; a request takes a tag and goes out with the next piece of the
descriptor's rows, and one that finds no tag waits at its place and is counted once. -/
def Obligations.RequestsIssue : Prop :=
  (∀ (s : State) (n d : Nat) (D : Desc), n < 10 → descOf s n d = some D → D.waiting = true → D.cut = none →
    let R := s.ring (descRing D.bytes)
    (descToRing D.bytes = true → creditsOf s R ≠ 0 →
      (∀ p ∈ earlierOn s true (descRing D.bytes) D.seed, p.2.waiting = false) → Answers (.dataRingClaim n d) s fun t =>
        descOf t n d = some { D with waiting := false, slot := R.issue, dst := R.slotAddr R.issue, stillUs := 0 } ∧
          (t.ring (descRing D.bytes)).issue = add32 R.issue 1 ∧ OtherRtvs s t [n] ∧ SameObjs s t ∧ Calm s t) ∧
    (∀ slot, descToRing D.bytes = false →
      slot = add32 (freedOf s R) (earlierOn s false (descRing D.bytes) D.seed).length → sub32 (filledOf s R) slot ≠ 0 →
      sub32 (filledOf s R) slot < 2 ^ 31 → Answers (.dataRingClaim n d) s fun t =>
        descOf t n d = some { D with waiting := false, slot := slot, src := R.slotAddr slot, stillUs := 0 } ∧
          OtherRtvs s t [n] ∧ SameObjs s t ∧ Calm s t)) ∧
  (∀ (s : State) (n d : Nat) (D : Desc), n < 10 → descOf s n d = some D → mayIssue s n D = true →
    (tagFree s n D = true → (∀ q ∈ D.reqs, q.id ≠ (s.rtv n).nextReq) → Answers (.requestIssue n d) s fun t =>
      (∃ E q, descOf t n d = some E ∧ E.reqs = D.reqs ++ [q] ∧ q.id = (s.rtv n).nextReq ∧ q.src = nextSrc D ∧
        q.dst = nextDst D ∧ q.len = nextLen D ∧ q.input = (issueInput s D (nextLen D)).1) ∧
        (t.rtv n).nextReq = (s.rtv n).nextReq + 1 ∧ Counted s t 0 (rtvPage n + 0x48) 1 ∧ SameObjs s t ∧ Calm s t) ∧
    (tagFree s n D = false → D.tagWait = 0 → Answers (.requestIssue n d) s fun t =>
      descOf t n d = some { D with tagWait := (s.rtv n).nextWait } ∧ Counted s t 0 (rtvPage n + 0x50) 1 ∧ SameRings s t ∧
        SameObjs s t ∧ Calm s t))

/-- REQUEST_LAND of a request whose destination is HBM and whose bytes have all come without a fault (R127): they stand at its
destination, where the mapping is still that of its issue (R150), and no other byte of memory changes. -/
def Obligations.RequestLands : Prop :=
  ∀ (s : State) (n id : Nat) (data : List Byte) (d : Desc) (q : Request), n < 10 →
    (s.rtv n).descs.find? (fun d => d.reqs.any fun q => q.id == id) = some d → d.reqs.find? (fun q => q.id == id) = some q →
    requestDown s n d q = false → requestReady s n d q data = true → q.fail = 0 → d.cut = none → q.lost = [] →
    q.len ≤ 2048 → q.len % 32 = 0 → q.dst % 32 = 0 →
    (∀ i, i < q.len → inWindow s (q.dst + i) = if (q.dst + i) / 2 ^ 30 = q.dst / 2 ^ 30 then q.dstWin.1 else q.dstWin.2) →
    dstSpaceOf s d.bytes = 1 → (descFill d.bytes = true ∨ srcSpaceOf s d.bytes ≠ 1) →
    s.stackSet.badSectors = [] → (sourceBytes s d q data).length = q.len → Answers (.requestLand n id data) s fun t =>
      (∀ i, i < q.len → t.hbm.read (q.dst + i) = (sourceBytes s d q data).getD i 0) ∧ SameHbmBut s t [(q.dst, q.len)] ∧
        (∀ a, t.stage.read a = s.stage.read a) ∧ Aside s t

/-- RTV_CH_ARM and RTV_CH_CANCEL (R132, R133, R135, R380): a channel that is idle starts its staging words as its active
descriptor, one that runs keeps them as its shadow; CANCEL, under KEY, discards the shadow and cuts the active one. -/
def Obligations.ChannelWrites : Prop :=
  ∀ (s : State) (rq n acct c : Nat), n < 10 → c = s.sel rq (rtvPage n + 0x104) → c < 64 →
    pfMayWrite s rq (rtvPage n) = true →
    let s1 := s.setFld c (rtvPage n + 0x108) 15 0 (acct % 2 ^ 16)
    ((s.chan n c).active ≠ none → Answers (.rtvChArm rq n acct) s fun t =>
      (t.chan n c).shadow = some (stagingBytes s n c) ∧ (t.chan n c).active = (s.chan n c).active ∧
        t.fld c (rtvPage n + 0x108) 15 0 = acct % 2 ^ 16 ∧ SameRings s t ∧ SameObjs s t ∧ Calm s t) ∧
    ((s.chan n c).active = none → chanCheck s1 n c (stagingBytes s n c) = 0 → Answers (.rtvChArm rq n acct) s fun t =>
      (t.chan n c).active = some (stagingBytes s n c) ∧ t.fld c (rtvPage n + 0x108) 15 0 = acct % 2 ^ 16 ∧
        (∃ d, (t.rtv n).descs = (s.rtv n).descs ++ [d] ∧ d.owner = .channel c ∧ d.bytes = stagingBytes s n c) ∧
        SameRings s t ∧ SameObjs s t ∧ Calm s t) ∧
    (armed s rq (rtvPage n) = true → Answers (.rtvChCancel rq n acct) s fun t =>
      (t.chan n c).shadow = none ∧ (∀ d ∈ (t.rtv n).descs, d.owner = .channel c → d.cut ≠ none) ∧
        t.sel rq (rtvPage n + 0x28) = 0 ∧ Calm s t)

/-! ## Trickle FIFOs -/

/-- TRICKLE_WRITE (R137, R139): bytes outside every window land where they are written; bytes of one line of a window enter its
FIFO if it takes them, and otherwise the writer is held and nothing lands. -/
def Sys2Proof.Claims.TrickleWrites : Prop :=
  ∀ (s : State) (loom off : Nat) (data : List Byte), loom < 8 → inSpace 0 (loom * 2 ^ 26 + off) data.length = true →
    let a := loom * 2 ^ 26 + off
    ((∀ p ∈ piecesOf a data, trickleAt s p.1 = none) → Answers (.trickleWrite loom off data) s fun t =>
      (∀ i, i < data.length → t.stage.read (a + i) = data.getD i 0) ∧ SameStageBut s t [(a, data.length)] ∧
        (∀ x, t.hbm.read x = s.hbm.read x) ∧ Aside s t ∧ SameRings s t ∧ SameObjs s t) ∧
    (∀ k, data ≠ [] → a % 64 + data.length ≤ 64 → trickleAt s a = some k → stageReady s a data = true →
      Answers (.trickleWrite loom off data) s fun t =>
        t.trickle (k / 8) (k % 8) = (s.trickle (k / 8) (k % 8)).take data s.freeCtr ∧ Calm s t ∧ SameRings s t ∧
          SameObjs s t) ∧
    (stageReady s a data = false → Answers (.trickleWrite loom off data) s fun t => Calm s t ∧ SameRings s t ∧ SameObjs s t)

/-- TRICKLE_WORD_WRITE and TRICKLE_TIMEOUT (R138 to R141): the oldest word leaves for the destination while it is not full, PUT
passes it, a long write goes on into the place that it leaves, and no byte but the word's and its mask's changes; a quiet FIFO
pads its partial word. -/
def Sys2Proof.Claims.TrickleWords : Prop :=
  (∀ (s : State) (n f : Nat) (w : List Byte) (mask : Nat) (rest : List (List Byte × Nat)), n < 10 → f < 8 →
    (s.trickle n f).words = (w, mask) :: rest → sub32 (trkPut s n f) (trkGet s n f) ≠ 2 ^ trkLog2 s n f →
    Answers (.trickleWordWrite n f) s fun t =>
      (t.trickle n f).words = ({ s.trickle n f with words := rest }).refill.words ∧
        (t.trickle n f).part = ({ s.trickle n f with words := rest }).refill.part ∧
        ((s.trickle n f).rest = [] → (t.trickle n f).words = rest) ∧
        trkPut t n f = add32 (trkPut s n f) 1 ∧ Counted s t 0 (rtvPage n + 0x68) 1 ∧
        SameHbmBut s t [(trkReg s n f 0x190 + 64 * (trkPut s n f % 2 ^ trkLog2 s n f), w.length),
          (trkReg s n f 0x198 + 8 * (trkPut s n f % 2 ^ trkLog2 s n f), 8)] ∧
        (trkHost s n f = true → 8 ≤ n → t.out = s.out ++
          [.hostWrite 0 (trkReg s n f 0x190 + 64 * (trkPut s n f % 2 ^ trkLog2 s n f)) w,
            .hostWrite 0 (trkReg s n f 0x198 + 8 * (trkPut s n f % 2 ^ trkLog2 s n f)) (leBytes 8 mask)]) ∧
        (∀ x, t.stage.read x = s.stage.read x) ∧ Aside s t) ∧
  (∀ (s : State) (n f : Nat), n < 10 → f < 8 → (s.trickle n f).part ≠ [] → trkFlushUs s n f ≤ (s.trickle n f).quietUs →
    Answers (.trickleTimeout n f) s fun t =>
      (t.trickle n f).part = [] ∧ (t.trickle n f).words = (s.trickle n f).pad.words ∧
        Counted s t 0 (rtvPage n + 0x70) 1 ∧ Calm s t ∧ SameRings s t ∧ SameObjs s t)

/-- TRICKLE_FLUSH, TRICKLE_DISABLE and TRICKLE_GET_WRITE (R140, R141): the partial word is padded and FLUSH_US stored; a FIFO
disabled with words left goes on until it is empty; GET never passes PUT. -/
def Sys2Proof.Claims.TrickleRegisterWrites : Prop :=
  ∀ (s : State) (rq n f v : Nat), n < 10 → f = s.sel rq (rtvPage n + 0x180) → f < 8 → pfMayWrite s rq (rtvPage n) = true →
    (Answers (.trickleFlush rq n v) s fun t =>
      (t.trickle n f).part = [] ∧ (t.trickle n f).words = (s.trickle n f).pad.words ∧
        t.fld f (rtvPage n + 0x1A8) 13 0 = v % 2 ^ 14 ∧ Calm s t ∧ SameRings s t) ∧
    (trkEn s n f = true → (s.trickle n f).pad.words ≠ [] → Answers (.trickleDisable rq n v) s fun t =>
      trkEn t n f = true ∧ (t.trickle n f).disabling.isSome = true ∧ (t.trickle n f).part = [] ∧
        (t.trickle n f).words = (s.trickle n f).pad.words ∧ Calm s t ∧ SameRings s t) ∧
    (trkEn s n f = true → (s.trickle n f).pad.words = [] → (s.trickle n f).rest = [] → Answers (.trickleDisable rq n v) s fun t =>
      trkEn t n f = false ∧ Calm s t ∧ SameRings s t) ∧
    (sub32 (trkPut s n f) v < 2 ^ 31 → Answers (.trickleGetWrite rq n v) s fun t =>
      trkGet t n f = v % 2 ^ 32 ∧ OtherRegs s t [(f, rtvPage n + 0x1A4)] ∧ Calm s t ∧ SameRings s t) ∧
    (2 ^ 31 ≤ sub32 (trkPut s n f) v → Answers (.trickleGetWrite rq n v) s fun t =>
      trkGet t n f = trkGet s n f ∧ ErrSet t (rtvPage n) 31 ∧ Calm s t ∧ SameRings s t)

/-- Trickle FIFOs: writes into a window, words, and their registers. -/
def Obligations.TrickleFifos : Prop :=
  Sys2Proof.Claims.TrickleWrites ∧ Sys2Proof.Claims.TrickleWords ∧ Sys2Proof.Claims.TrickleRegisterWrites

/-! ## The ring window, completions and cancels -/

/-- RING_CONFIG_WRITE, RING_TAIL_WRITE, RING_START, RING_STOP and RING_CANCEL through the window of a requester whose writes
reach a ring (R121, R122, R135, R174). -/
def Obligations.RingWindowWrites : Prop :=
  ∀ (s : State) (rq die r : Nat), die < 4 → mayWrite s rq (ringPageOf rq die) = true → ringShown s rq die = true →
    r = selectedRing s rq die →
    let R := s.ring r
    (∀ v, Answers (.ringConfigWrite rq die 0x2C v) s fun t =>
      t.ring r = { R with wdogMs := v % 2 ^ 16 } ∧ OtherRings s t [r] ∧ SameObjs s t ∧ Calm s t) ∧
    (∀ v, R.mode = .off → R.holds = [] → ringCfgRange r v = true → bits v 29 29 = 0 → bits v 31 30 ≠ 0 →
      wedged s = false → Answers (.ringConfigWrite rq die 0 v) s fun t =>
        (t.ring r).mode = .on ∧ (t.ring r).kind = bits v 31 30 ∧ (t.ring r).head = 0 ∧ (t.ring r).tail = 0 ∧
          (t.ring r).issue = 0 ∧ (t.ring r).phase = 1 ∧ (t.ring r).fly = [] ∧ (isVf rq = true → (t.ring r).part = rq) ∧
          (isVf rq = false → (t.ring r).part = bits v 3 0) ∧ OtherRings s t [r] ∧ SameObjs s t) ∧
    (∀ v, R.mode = .on → R.kind ≠ 2 → Answers (.ringConfigWrite rq die 8 v) s fun t =>
      SameRings s t ∧ SameObjs s t ∧ Calm s t) ∧
    (∀ v, R.kind ≠ 2 → sub32 v R.tail < 2 ^ 31 → sub32 v R.head ≤ R.slots → Answers (.ringTailWrite rq die v) s fun t =>
      (t.ring r).tail = v % 2 ^ 32 ∧ (t.ring r).head = R.head ∧ (t.ring r).issue = R.issue ∧ OtherRings s t [r] ∧
        SameObjs s t ∧ Calm s t) ∧
    (∀ v, (R.kind = 2 ∨ 2 ^ 31 ≤ sub32 v R.tail ∨ R.slots < sub32 v R.head) → Answers (.ringTailWrite rq die v) s fun t =>
      SameRings s t ∧ ErrSet t (ringPage (dieOfRing r)) 31 ∧ SameObjs s t ∧ Calm s t) ∧
    (∀ ovr, ovr % 8 = R.classOvr → R.classOvr < 6 → R.mode = .stopped → Answers (.ringStart rq die ovr) s fun t =>
      t.ring r = { R with mode := .on } ∧ OtherRings s t [r] ∧ SameObjs s t ∧ Calm s t) ∧
    (∀ ovr, ovr % 8 = R.classOvr → R.classOvr < 6 → R.kind = 1 → R.mode = .on → Answers (.ringStop rq die ovr) s fun t =>
      (t.ring r).mode = .stopped ∧ (t.ring r).head = R.head ∧
        (∀ f, openFlight R f.seq = some f → f.wait.withdrawn = true →
          ∃ a b, Done t r f.seq (completionFor R f.bytes 6 a b 0)) ∧ OtherRings s t [r] ∧ Calm s t) ∧
    (∀ ovr, ovr % 8 = R.classOvr → R.classOvr < 6 → R.kind = 1 → (R.mode = .on ∨ R.mode = .stopped) →
      armed s rq (ringPage die) = true → Answers (.ringCancel rq die ovr) s fun t =>
        (t.ring r).mode = .cancelling ∧ (t.ring r).cancelTail = R.tail ∧ (∀ p ∈ ringDescs t r, p.2.cut ≠ none) ∧
          t.sel rq (keyPage rq (ringPage die) + 0x28) = 0 ∧ OtherRings s t [r] ∧ Calm s t) ∧
    (∀ ovr, ovr % 8 = R.classOvr → R.classOvr < 6 → armed s rq (ringPage die) = false →
      Answers (.ringCancel rq die ovr) s fun t =>
        SameRings s t ∧ ErrSet t (keyPage rq (ringPage die)) 30 ∧ SameObjs s t ∧ Calm s t)

/-- COMPLETION_POST and CANCEL_COMPLETE (R135, R179, R313 to R316): the oldest completion is posted once its slot is free, its
64 bytes before the eight that publish it, and a ring whose completion stops it stops; a cancelled ring at rest is STOPPED. -/
def Obligations.CompletionsPost : Prop :=
  (∀ (s : State) (r : Nat) (full : Bool) (f : Flight) (rest : List Flight) (c : Completion), r < 65536 →
    (s.ring r).fly = f :: rest → f.done = some c →
    let R := s.ring r
    let c' := { c with status := (postedStatus s f c).1 }
    (postReady s R = true → Answers (.completionPost r full) s fun t =>
      (t.ring r).head = add32 R.head 1 ∧ (t.ring r).fly = rest ∧ (t.ring r).tail = R.tail ∧
        (t.ring r).mode = (if c.stops = true ∧ R.mode = .on then .stopped else R.mode) ∧
        SameHbmBut s t [(resultAddr R R.head, 64)] ∧ (∀ a, t.stage.read a = s.stage.read a) ∧ Aside s t ∧
        OtherRings s t [r] ∧ SameObjs s t) ∧
    (postReady s R = true → R.rsEn = true → R.rsSpace = 0 → (s.fn R.part).draining = false →
      Answers (.completionPost r full) s fun t =>
        ∃ x y, t.out = s.out ++ x ++ [.hostWrite R.part (resultAddr R R.head + 8) (completionHigh c'),
          .hostWrite R.part (resultAddr R R.head) (completionLow R.head c')] ++ y) ∧
    (postReady s R = false → Answers (.completionPost r full) s fun t => t = s)) ∧
  (∀ (s : State) (r : Nat), r < 65536 → (s.ring r).mode = .cancelling → (s.ring r).quiet = true → ringDescs s r = [] →
    (s.ring r).issue < 2 ^ 32 → (s.ring r).cancelTail < 2 ^ 32 → sub32 (s.ring r).cancelTail (s.ring r).issue ≤ 4096 →
    Answers (.cancelComplete r) s fun t =>
      (t.ring r).mode = .stopped ∧ (t.ring r).quiet = true ∧ (t.ring r).issue = (s.ring r).cancelTail ∧
        (t.ring r).tails = [] ∧ Calm s t ∧ OtherRings s t [r] ∧ SameObjs s t)

/-! ## Sync objects -/

/-- SYNC_OBJ_OP_SIGNAL and SYNC_OBJ_OP_ARRIVE (R165, R168, R172, R183): the checks of the store refuse with ERR_STAT.STATE;
otherwise the counter advances or the arrival is counted. -/
def Sys2Proof.Claims.ObjectOperations : Prop :=
  ∀ (s : State) (rq o : Nat), o = selectedObj s rq → mayWrite s rq (syncPageOf rq) = true → objShown s rq = true →
    let x := s.obj o
    let part := if rq < 16 then some rq else none
    (∀ n, n % 2 ^ 16 ≠ 0 → storeCheck s false o 1 part = 0 → Answers (.syncObjOpSignal rq n) s fun t =>
      (t.obj o).value = add32 x.value (n % 2 ^ 16) ∧
        (t.obj o).waiters = x.waiters.filter (fun w => !waitSatisfied (add32 x.value (n % 2 ^ 16)) w.target) ∧
        (∀ w ∈ x.waiters, ∀ f, waitSatisfied (add32 x.value (n % 2 ^ 16)) w.target = true →
          openFlight (s.ring w.ring) w.seq = some f →
          Done t w.ring w.seq (completionFor (s.ring w.ring) f.bytes 0 (add32 x.value (n % 2 ^ 16)) 0 0)) ∧
        OtherObjs s t [o] ∧ OtherRings s t (x.waiters.map Waiter.ring) ∧ Calm s t) ∧
    (∀ n, (n % 2 ^ 16 = 0 ∨ storeCheck s false o 1 part ≠ 0) → Answers (.syncObjOpSignal rq n) s fun t =>
      SameObjs s t ∧ SameRings s t ∧ ErrSet t (keyPage rq syncPage) 31 ∧ Calm s t) ∧
    (∀ g, storeCheck s false o 2 part = 0 → x.gen < 256 →
      (arrivalKind x (g % 256) = .current ∨ arrivalKind x (g % 256) = .early) → Answers (.syncObjOpArrive rq g) s fun t =>
        (t.obj o).gen = (arrivedObj x (g % 256)).gen ∧ (t.obj o).arrived = (arrivedObj x (g % 256)).arrived ∧
          (t.obj o).early = (arrivedObj x (g % 256)).early ∧ OtherObjs s t [o] ∧ Calm s t) ∧
    (∀ g, storeCheck s false o 2 part ≠ 0 → Answers (.syncObjOpArrive rq g) s fun t =>
      SameObjs s t ∧ SameRings s t ∧ ErrSet t (keyPage rq syncPage) 31 ∧ Calm s t)

/-- SYNC_OBJ_WRITE, SYNC_BREAK and SYNC_BROKEN_CLEAR (R178, R180, R183): VALUE, GEN and CFG are stored while the object is not
waited on and not broken; BREAK, under KEY, breaks the object and releases every entry held on it. -/
def Sys2Proof.Claims.ObjectWrites : Prop :=
  ∀ (s : State) (rq o : Nat), o = selectedObj s rq → mayWrite s rq (syncPageOf rq) = true → objShown s rq = true →
    let x := s.obj o
    (∀ v, x.waiting = 0 → x.broken = false → x.kind ≠ 2 → Answers (.syncObjWrite rq 4 v) s fun t =>
      t.obj o = { x with value := v % 2 ^ 32 } ∧ OtherObjs s t [o] ∧ SameRings s t ∧ Calm s t) ∧
    (∀ v, x.waiting = 0 → x.broken = false → x.kind ≠ 1 → Answers (.syncObjWrite rq 0xC v) s fun t =>
      t.obj o = { x with gen := v % 256 } ∧ OtherObjs s t [o] ∧ SameRings s t ∧ Calm s t) ∧
    (∀ v, x.waiting = 0 → x.broken = false → bits v 31 30 ≠ 3 → bits v 31 30 ≠ x.kind →
      (bits v 31 30 = 2 → bits v 15 0 ≠ 0) → Answers (.syncObjWrite rq 0 v) s fun t =>
        t.obj o = { SyncObj.zero with
          kind := bits v 31 30, pack := bit v 29, part := if isVf rq then rq else bits v 27 24, subs := x.subs,
          count := if bits v 31 30 = 2 then bits v 15 0 else 0 } ∧
          OtherObjs s t [o] ∧ SameRings s t ∧ Calm s t) ∧
    (∀ off v, (off = 0 ∨ off = 4 ∨ off = 0xC) → (x.waiting ≠ 0 ∨ x.broken = true) →
      Answers (.syncObjWrite rq off v) s fun t =>
        SameObjs s t ∧ SameRings s t ∧ ErrSet t (keyPage rq syncPage) 31 ∧ Calm s t) ∧
    (armed s rq syncPage = true → x.broken = false → Answers (.syncBreak rq) s fun t =>
      (t.obj o).broken = true ∧ (t.obj o).cause = 2 ∧ (t.obj o).breakerMember = ownMember s ∧ (t.obj o).breakerRing = 0 ∧
        (t.obj o).waiting = 0 ∧ (t.obj o).value = x.value ∧ (t.obj o).gen = x.gen ∧
        (∀ w ∈ x.waiters, ∀ f, openFlight (s.ring w.ring) w.seq = some f →
          ∃ c, c.status = 5 ∧ c.stops = true ∧ Done t w.ring w.seq c) ∧
        t.sel rq (keyPage rq syncPage + 0x28) = 0 ∧ OtherObjs s t [o] ∧ Aside s t) ∧
    (armed s rq syncPage = false → Answers (.syncBreak rq) s fun t =>
      SameObjs s t ∧ SameRings s t ∧ ErrSet t (keyPage rq syncPage) 30 ∧ Calm s t) ∧
    (x.broken = true → Answers (.syncBrokenClear rq) s fun t =>
      t.obj o = { x with broken := false, arrived := 0, early := 0, cause := 0, breakerMember := 0, breakerRing := 0 } ∧
        OtherObjs s t [o] ∧ SameRings s t ∧ Calm s t)

/-- The sync window: operations and writes. -/
def Obligations.ObjectOperationsAndWrites : Prop :=
  Sys2Proof.Claims.ObjectOperations ∧ Sys2Proof.Claims.ObjectWrites

/-- MIRROR_SUBSCRIBE (R176), in every state: with no wait of the ring left it changes nothing; the first wait joins a mirror of its
object that does not decide any waiter, or takes one of the 1,024 mirrors and subscribes, or is counted once. -/
def Sys2Proof.Claims.MirrorSubscribes : Prop :=
  ∀ (s : State) (r : Nat), r < 65536 →
    ((s.mirrorWait.find? fun p => p.waiter.ring == r) = none → Answers (.mirrorSubscribe r) s fun t => t = s) ∧
    (∀ p, (s.mirrorWait.find? fun p => p.waiter.ring == r) = some p →
      (∀ m, (s.mirrors.find? fun m => m.obj == p.obj) = some m →
        (∀ w ∈ m.waiters ++ [p.waiter], mirrorDecides m (waitsOnBarrier s w) false w = none) →
        Answers (.mirrorSubscribe r) s fun t =>
          (t.mirrors.find? fun m => m.obj == p.obj) = some { m with waiters := m.waiters ++ [p.waiter] } ∧
            t.mirrorWait = s.mirrorWait.filter (fun x => !(x == p)) ∧ t.pack = s.pack ∧ SameObjs s t ∧ SameRings s t ∧
            Calm s t) ∧
      ((s.mirrors.any fun m => m.obj == p.obj) = false → s.mirrors.length < 1024 → Answers (.mirrorSubscribe r) s fun t =>
        t.mirrors = s.mirrors ++ [⟨p.obj, if waitsOnBarrier s p.waiter then 2 else 1, false, 0, 0, [p.waiter]⟩] ∧
          t.mirrorWait = s.mirrorWait.filter (fun x => !(x == p)) ∧
          SentLast t .subscribe (packManager s) [p.obj, 1, if waitsOnBarrier s p.waiter then 2 else 1] ∧ SameObjs s t ∧
          SameRings s t ∧ Calm s t) ∧
      ((s.mirrors.any fun m => m.obj == p.obj) = false → 1024 ≤ s.mirrors.length → Answers (.mirrorSubscribe r) s fun t =>
        t.mirrors = s.mirrors ∧ (p.counted = false → Counted s t 0 (syncPage + 0x78) 1) ∧ (p.counted = true → t = s) ∧
          t.pack = s.pack ∧ SameObjs s t ∧ SameRings s t ∧ Calm s t))

/-- MIRROR_PUSH (R176, R280): a push that has been applied is answered again, counted and not applied; one that has not been is
acknowledged and stands in the mirror of its object while a wait goes on, releases the one wait that it satisfies, or breaks it,
and a mirror without a wait is freed. That PACK_SYNC_OP pushes is the model's choice of message. -/
def Sys2Proof.Claims.MirrorPushes : Prop :=
  ∀ (s : State) (msg : SyncMsg) (value gen : Nat) (broken : Bool), msg.src < 1024 → msg.obj < 65536 →
    let o := msg.obj
    (msg.src * 2 ^ 32 + msg.mseq % 2 ^ 32 ∈ s.pack.seen → Answers (.mirrorPush msg value gen broken) s fun t =>
      SentLast t .mseqAck msg.src [msg.mseq, 0, 0, 0] ∧ Counted s t 0 (packPage + 0x78) 1 ∧ t.mirrors = s.mirrors ∧
        SameObjs s t ∧ SameRings s t ∧ Calm s t) ∧
    (msg.src * 2 ^ 32 + msg.mseq % 2 ^ 32 ∉ s.pack.seen → (s.mirrors.find? fun m => m.obj == o) = none →
      Answers (.mirrorPush msg value gen broken) s fun t =>
        SentLast t .mseqAck msg.src [msg.mseq, 0, 0, 0] ∧ t.mirrors = s.mirrors ∧ SameObjs s t ∧ SameRings s t ∧ Calm s t) ∧
    (∀ m, msg.src * 2 ^ 32 + msg.mseq % 2 ^ 32 ∉ s.pack.seen → (s.mirrors.find? fun m => m.obj == o) = some m →
      let m1 : Mirror := { m with known := true, value := value % 2 ^ 32, gen := gen % 256 }
      (m.waiters ≠ [] → (∀ w ∈ m.waiters, mirrorDecides m1 (waitsOnBarrier s w) broken w = none) →
        Answers (.mirrorPush msg value gen broken) s fun t =>
          (t.mirrors.find? fun m => m.obj == o) = some m1 ∧ SentLast t .mseqAck msg.src [msg.mseq, 0, 0, 0] ∧
            msg.src * 2 ^ 32 + msg.mseq % 2 ^ 32 ∈ t.pack.seen ∧ SameObjs s t ∧ SameRings s t ∧ Calm s t) ∧
      (∀ w f, m.waiters = [w] → openFlight (s.ring w.ring) w.seq = some f →
        (waitsOnBarrier s w = false → broken = false → waitSatisfied (value % 2 ^ 32) w.target = true →
          Answers (.mirrorPush msg value gen broken) s fun t =>
            Done t w.ring w.seq (completionFor (s.ring w.ring) f.bytes 0 (value % 2 ^ 32) w.res1 0) ∧
              (∀ x ∈ t.mirrors, x.obj ≠ o) ∧ SentLast t .subscribe (packManager s) [o, 0] ∧ SameObjs s t ∧
              OtherRings s t [w.ring] ∧ Calm s t) ∧
        (broken = true → Answers (.mirrorPush msg value gen broken) s fun t =>
          (∃ c, c.status = 5 ∧ c.stops = true ∧ Done t w.ring w.seq c) ∧ (∀ x ∈ t.mirrors, x.obj ≠ o) ∧
            SentLast t .subscribe (packManager s) [o, 0] ∧ SameObjs s t ∧ OtherRings s t [w.ring] ∧ Calm s t)))

/-- PACK_SYNC_OP at the manager (R165, R168, R172, R176, R280): an operation of a member is applied once and answered with its
status and values: a SIGNAL, an ARRIVE, a subscription, its end; a duplicate is answered again, counted and not applied. A device
that is not the manager leaves the message alone. -/
def Sys2Proof.Claims.PackSyncOps : Prop :=
  ∀ (s : State) (src mseq o arg ring : Nat), src < 1024 → o < 65536 →
    let x := s.obj o
    let isNew := src * 2 ^ 32 + mseq % 2 ^ 32 ∉ s.pack.seen
    (∀ op, packRole s ≠ 3 → Answers (.packSyncOp src mseq op o arg ring) s fun t => t = s) ∧
    (packRole s = 3 → isNew → storeCheck s true o 1 none = 0 → Answers (.packSyncOp src mseq 1 o arg ring) s fun t =>
      (t.obj o).value = add32 x.value arg ∧ SentLast t .mseqAck src [mseq, 0, add32 x.value arg, 0] ∧
        src * 2 ^ 32 + mseq % 2 ^ 32 ∈ t.pack.seen ∧ OtherObjs s t [o] ∧ Calm s t) ∧
    (packRole s = 3 → isNew → storeCheck s true o 1 none ≠ 0 → Answers (.packSyncOp src mseq 1 o arg ring) s fun t =>
      SentLast t .mseqAck src [mseq, storeCheck s true o 1 none, 0, 0] ∧ SameObjs s t ∧ SameRings s t ∧ Calm s t) ∧
    (packRole s = 3 → isNew → storeCheck s true o 2 none = 0 → (arrivalKind x arg = .current ∨ arrivalKind x arg = .early) →
      Answers (.packSyncOp src mseq 2 o arg ring) s fun t =>
        (t.obj o).gen = (arrivedObj x arg).gen ∧ (t.obj o).arrived = (arrivedObj x arg).arrived ∧
          (t.obj o).early = (arrivedObj x arg).early ∧
          SentLast t .mseqAck src [mseq, 0, (arrivedObj x arg).gen, (arrivedObj x arg).arrived] ∧ OtherObjs s t [o] ∧
          Calm s t) ∧
    (packRole s = 3 → isNew → (arg = 1 ∨ arg = 2) → storeCheck s true o arg none = 0 →
      Answers (.packSyncOp src mseq 3 o arg ring) s fun t =>
        t.obj o = { x with subs := putRising src x.subs } ∧ SentLast t .push src [o, x.value, x.gen, flag x.broken] ∧
          OtherObjs s t [o] ∧ SameRings s t ∧ Calm s t) ∧
    (packRole s = 3 → isNew → (arg = 1 ∨ arg = 2) → storeCheck s true o arg none ≠ 0 →
      Answers (.packSyncOp src mseq 3 o arg ring) s fun t =>
        SentLast t .mseqAck src [mseq, storeCheck s true o arg none, 0, 0] ∧ SameObjs s t ∧ SameRings s t ∧ Calm s t) ∧
    (packRole s = 3 → isNew → Answers (.packSyncOp src mseq 4 o arg ring) s fun t =>
      t.obj o = { x with subs := x.subs.filter (· ≠ src) } ∧ SentLast t .mseqAck src [mseq, 0, 0, 0] ∧ OtherObjs s t [o] ∧
        SameRings s t ∧ Calm s t) ∧
    (packRole s = 3 → isNew → x.broken = false → Answers (.packSyncOp src mseq 5 o arg ring) s fun t =>
      (t.obj o).broken = true ∧ (t.obj o).cause = 1 ∧ (t.obj o).breakerMember = src ∧ (t.obj o).breakerRing = arg ∧
        SentLast t .mseqAck src [mseq, 0, 0, 0] ∧ OtherObjs s t [o] ∧ Aside s t) ∧
    (∀ op, packRole s = 3 → ¬ isNew → Answers (.packSyncOp src mseq op o arg ring) s fun t =>
      SentLast t .mseqAck src [mseq, 0, 0, 0] ∧ Counted s t 0 (packPage + 0x78) 1 ∧ SameObjs s t ∧ SameRings s t ∧ Calm s t)

/-- STANDBY_SYNC_FORWARD (R271, R275, R280): an object that the manager forwards is the copy of its worker or standby, with its
flags and causes, once; a duplicate is answered again; a message of another member, or to another role, is left alone. -/
def Sys2Proof.Claims.StandbyForwards : Prop :=
  ∀ (s : State) (msg : SyncMsg) (kind part count value gen arrived early : Nat) (f : ObjFlags), msg.src < 1024 →
    msg.obj < 65536 →
    let c := Instr.standbySyncForward msg kind part count value gen arrived early f
    let mine := (packRole s = 1 ∨ packRole s = 2) ∧ msg.src = packManager s
    (mine → msg.src * 2 ^ 32 + msg.mseq % 2 ^ 32 ∉ s.pack.seen → Answers c s fun t =>
      t.obj msg.obj = { s.obj msg.obj with
        kind := kind % 4, pack := f.pack, part := part % 16, count := count % 65536, value := value % 2 ^ 32, gen := gen % 256,
        arrived := arrived % 65536, early := early % 65536, broken := f.broken, saturated := f.saturated, misuse := f.misuse,
        cause := f.cause % 4, breakerMember := f.member % 1024, breakerRing := f.ring % 65536 } ∧
        packRole t = 2 ∧ SentLast t .mseqAck msg.src [msg.mseq, 0, 0, 0] ∧ OtherObjs s t [msg.obj] ∧ SameRings s t ∧
        Calm s t) ∧
    (mine → msg.src * 2 ^ 32 + msg.mseq % 2 ^ 32 ∈ s.pack.seen → Answers c s fun t =>
      SentLast t .mseqAck msg.src [msg.mseq, 0, 0, 0] ∧ Counted s t 0 (packPage + 0x78) 1 ∧ packRole t = packRole s ∧
        SameObjs s t ∧ SameRings s t ∧ Calm s t) ∧
    (¬ mine → Answers c s fun t => t = s)

/-- Mirrors and pack-scope operations at the manager. -/
def Obligations.MirrorsAndPackSyncOps : Prop :=
  Sys2Proof.Claims.MirrorSubscribes ∧ Sys2Proof.Claims.MirrorPushes ∧ Sys2Proof.Claims.PackSyncOps ∧
    Sys2Proof.Claims.StandbyForwards

/-- QUEUE_WATCHDOG (R177 to R179, R258): a descriptor of the ring that is overdue with requests in flight is cut, and completes
WATCHDOG once they have landed; with none, the ring's oldest entry is released where it waits on an object of this device's store,
which breaks, or on the ledger; before the ring's time nothing happens. -/
def Obligations.QueueWatchdogFires : Prop :=
  (∀ (s : State) (r n : Nat) (d : Desc), r < 65536 →
    ((ringDescs s r).find? fun p => descOverdue s r p.2) = some (n, d) → d.waiting = false →
    let t := putDesc s n { d with cut := some 4 }
    (allDescs t).find? (readyDesc t) = none → exec (.queueWatchdog r) s = .next t) ∧
  (∀ (s : State) (r : Nat), r < 65536 → ((ringDescs s r).find? fun p => descOverdue s r p.2) = none →
    (s.ring r).wdogUs < watchdogUs (s.ring r) → exec (.queueWatchdog r) s = .next s) ∧
  (∀ (s : State) (r : Nat) (f : Flight), r < 65536 → ((ringDescs s r).find? fun p => descOverdue s r p.2) = none →
    watchdogUs (s.ring r) ≤ (s.ring r).wdogUs → ((s.ring r).fly.find? fun f => !f.isDone) = some f →
    (∀ o target pack, (f.wait = .counter o target pack ∨ f.wait = .barrier o target pack) →
      (pack = false ∨ packRole s = 3) → (s.obj o).broken = false → Answers (.queueWatchdog r) s fun t =>
        (t.obj o).broken = true ∧ (t.obj o).cause = 1 ∧ (t.obj o).breakerMember = ownMember s ∧
          (t.obj o).breakerRing = r ∧ (t.obj o).waiting = 0 ∧
          (∀ w ∈ (s.obj o).waiters, ∀ g, openFlight (s.ring w.ring) w.seq = some g →
            ∃ c, c.status = 5 ∧ c.stops = true ∧ Done t w.ring w.seq c) ∧ OtherObjs s t [o] ∧ Aside s t) ∧
    (f.wait = .ledger → Answers (.queueWatchdog r) s fun t =>
      Done t r f.seq (completionFor (s.ring r) f.bytes 4 0 0 0) ∧
        (completionFor (s.ring r) f.bytes 4 0 0 0).stops = true ∧ SameObjs s t ∧ OtherRings s t [r] ∧ Calm s t))

/-! ## Arbiters -/

/-- ARB_GRANT serves a request of the highest input among those that may be granted, and of that input one of the highest age
(R185, R186): requests at their limiter wait (R190), and so do the inputs below 7 in a command slot that the thermal allowance
withholds (R159). Its wait is entered in WAIT_MAX. Which slots are withheld, and the limiters' rates, are the model's own (log
entries 78, 80). -/
def Sys2Proof.Claims.ArbiterGrants : Prop :=
  ∀ (s : State) (a ns : Nat), a < arbCount → (s.arb a).frozen = false → (s.arb a).serving = none →
    (arbCandidates s a ≠ [] → Answers (.arbGrant a ns) s fun t => ∃ w ∈ arbCandidates s a,
      (t.arb a).serving = some w ∧ overLimit s a w = false ∧ (slotWithheld s a = true → w.input = 7) ∧
        (∀ q ∈ arbCandidates s a, q.input ≤ w.input) ∧
        (∀ q ∈ arbCandidates s a, q.input = w.input →
          ageOf (s.arb a) q.input q.requester ≤ ageOf (s.arb a) w.input w.requester) ∧
        ageOf (t.arb a) w.input w.requester = 0 ∧ (t.arb a).waiting = dropOne w (s.arb a).waiting ∧
        (limited a w.input = true → w.moved = 0 →
          mget (t.arb a).debt w.input 0 = mget (s.arb a).debt w.input 0 + w.bytes) ∧
        Counted s t (arbSel a w.input) (arbPage a + 0x310) 1 ∧
        t.reg (arbSel a w.input) (arbPage a + 0x308) =
          max (s.reg (arbSel a w.input) (arbPage a + 0x308)) (min (waitNs s w ns) (2 ^ 32 - 1)) % 2 ^ 64 ∧
        OtherArbs s t [a] ∧ Calm s t ∧ SameRings s t ∧ SameObjs s t) ∧
    (arbCandidates s a = [] → Answers (.arbGrant a ns) s fun t =>
      (t.arb a).serving = none ∧ (t.arb a).waiting = (s.arb a).waiting ∧ (t.arb a).ages = (s.arb a).ages ∧
        OtherArbs s t [a] ∧ Calm s t ∧ SameRings s t ∧ SameObjs s t)

/-- ARB_UNIT_DONE, ARB_FREEZE, ARB_UNFREEZE and ARB_WAIT_CLEAR (R187, R188, R203, and R14 for a write that crosses bridges): the
last unit ends a request, a higher input preempts it at a unit's end with its progress kept, a frozen arbiter saves it; FREEZE
and CLEAR act on the arbiter and the input that the requester has selected. -/
def Sys2Proof.Claims.ArbiterService : Prop :=
  (∀ (s : State) (a : Nat) (q : ArbReq), a < arbCount → (s.arb a).serving = some q →
    let q1 := { q with moved := q.moved + 1 }
    let q2 := { q1 with since := s.hubUs }
    (q.units ≤ q.moved + 1 → Answers (.arbUnitDone a) s fun t =>
      (t.arb a).serving = none ∧ (t.arb a).waiting = (s.arb a).waiting ∧ OtherArbs s t [a] ∧ Calm s t ∧ SameRings s t) ∧
    (q.moved + 1 < q.units → q.input + 1 < topInput (arbWaiting s a) → Answers (.arbUnitDone a) s fun t =>
      (t.arb a).serving = none ∧ (t.arb a).waiting = q2 :: (s.arb a).waiting ∧ (t.arb a).ages = (s.arb a).ages ∧
        Counted s t (arbSel a q.input) (arbPage a + 0x318) 1 ∧ OtherArbs s t [a] ∧ Calm s t ∧ SameRings s t) ∧
    (q.moved + 1 < q.units → topInput (arbWaiting s a) ≤ q.input + 1 → (s.arb a).frozen = true →
      Answers (.arbUnitDone a) s fun t =>
        (t.arb a).serving = none ∧ (t.arb a).waiting = q2 :: (s.arb a).waiting ∧ OtherArbs s t [a] ∧ Calm s t) ∧
    (q.moved + 1 < q.units → topInput (arbWaiting s a) ≤ q.input + 1 → (s.arb a).frozen = false →
      (a < 520 ∨ arbServable (sendFlit s (a - 520) q) a q1 = true) → Answers (.arbUnitDone a) s fun t =>
        (t.arb a).serving = some q1 ∧ (t.arb a).waiting = (s.arb a).waiting ∧ OtherArbs s t [a] ∧ Calm s t)) ∧
  (∀ (s : State) (rq page k : Nat), pfMayWrite s rq page = true → hasArbs page = true → s.sel rq (page + 0x300) < 256 →
    k = arbOf page (s.sel rq (page + 0x300)) →
    let crossed := if requesterDie rq = pageDie page then [] else span 512 8
    (Answers (.arbFreeze rq page) s fun t =>
      (t.arb k).frozen = true ∧ (t.arb k).serving = (s.arb k).serving ∧
        (k ∉ crossed → t.arb k = { s.arb k with frozen := true }) ∧ OtherArbs s t (k :: crossed) ∧ Calm s t ∧
        SameRings s t) ∧
    (Answers (.arbUnfreeze rq page) s fun t =>
      (t.arb k).frozen = false ∧ (t.arb k).serving = (s.arb k).serving ∧
        (k ∉ crossed → t.arb k = { s.arb k with frozen := false }) ∧ OtherArbs s t (k :: crossed) ∧ Calm s t ∧
        SameRings s t) ∧
    (Answers (.arbWaitClear rq page) s fun t =>
      t.reg (s.sel rq (page + 0x300)) (page + 0x308) = 0 ∧
        OtherRegs s t [(s.sel rq (page + 0x300), page + 0x308), (instOf page, hubPage + 0x190)] ∧
        OtherArbs s t crossed ∧ Calm s t ∧ SameRings s t))

/-- Arbiters grant and serve. -/
def Obligations.ArbitersGrantAndServe : Prop :=
  Sys2Proof.Claims.ArbiterGrants ∧ Sys2Proof.Claims.ArbiterService

/-! ## Admission -/

/-- ADMISSION_REQUEST, ADMISSION_DECIDE and ADMISSION_RELEASE (R192, R194, R197, R199): a ring that may be admitted waits in
order for the unit, which admits it with the grant of R194 or refuses it; under HOLD it refuses. -/
def Obligations.Admission : Prop :=
  (∀ (s : State) (rq die r : Nat), die < 4 → mayWrite s rq (ringPageOf rq die) = true → ringShown s rq die = true →
    r = selectedRing s rq die →
    let R := s.ring r
    let may := R.kind = 1 ∧ R.server = 2 ∧ R.outMode = 1 ∧ (R.admInput = 5 ∨ R.admInput = 6) ∧ R.admState ≠ 1 ∧ R.admState ≠ 2
    (may → Answers (.admissionRequest rq die) s fun t =>
      t.ring r = { R with admState := 1 } ∧ t.admQueue = s.admQueue ++ [r] ∧ OtherRings s t [r] ∧ SameObjs s t ∧ Calm s t) ∧
    (¬ may → R.admInput < 16 → Answers (.admissionRequest rq die) s fun t =>
      t.ring r = { R with admStatus := 1 } ∧ t.admQueue = s.admQueue ∧ OtherRings s t [r] ∧ SameObjs s t ∧ Calm s t) ∧
    (R.admInput < 16 → Answers (.admissionRelease rq die) s fun t =>
      t.ring r = { R with admState := 0, admGrant := 0 } ∧ t.admQueue = s.admQueue.filter (· ≠ r) ∧ OtherRings s t [r] ∧
        SameObjs s t ∧ Calm s t)) ∧
  (∀ (s : State) (r : Nat) (rest : List Nat), s.admQueue = r :: rest →
    let R := s.ring r
    (∀ g, admHold s = false → admitRing s r = some g → Answers .admissionDecide s fun t =>
      t.ring r = { R with admState := 2, admStatus := 0, admGrant := g, bucket := R.admLargest } ∧ t.admQueue = rest ∧
        OtherRings s t [r] ∧ SameObjs s t ∧ Calm s t) ∧
    ((admHold s = true ∨ admitRing s r = none) → Answers .admissionDecide s fun t =>
      t.ring r = { R with admState := 3, admStatus := 9 } ∧ t.admQueue = rest ∧ Counted s t 0 (hubPage + 0x210) 1 ∧
        OtherRings s t [r] ∧ SameObjs s t ∧ Calm s t))

/-! ## Power -/

/-- ESTIMATE_WINDOW, GOVERNOR_LOOP and PROFILE_850 (R44, R221, R223, R224, R229, R231): once 4 µs of the hub timer have passed,
the window's counts are turned into P_ctl and cleared with the gauges; a loop, one for each window, moves every Loom die by the
rule of R229 and the hub after the largest, no code by more than one; the 850 W profile is written by the next loop. One code
move a loop, over R229's last line, is the model's reading of R224 (log entry 44). -/
def Obligations.Governor : Prop :=
  (∀ (s : State) (others : List (Nat × Nat × Nat)), periodStart s estimateTimer + 4 ≤ s.hubUs →
    Answers (.estimateWindow others) s fun t =>
      t.ledger.est4 = [] ∧ t.power.counts = [] ∧ periodStart t estimateTimer = periodStart s estimateTimer + 4 ∧
        (others = [] → t.power.pctl = wholeUw (controlK s * ((span 0 5).map (quadPower s)).sum)) ∧
        (∀ n, n < 8 → (t.loom n).ticks = 0 ∧ t.reg 0 (loomPage n + 0x108) = min ((s.loom n).ticks / 4) 0xFFF) ∧
        Calm s t ∧ SameRings s t ∧ SameObjs s t) ∧
  (∀ (s : State) (others : List (Nat × Nat × Nat)), s.hubUs < periodStart s estimateTimer + 4 →
    exec (.estimateWindow others) s = .next s) ∧
  (∀ s : State, periodStart s governorTimer < periodStart s estimateTimer → Answers .governorLoop s fun t =>
    (s.power.profile = false → ∀ q, q < 4 →
      (t.quad q).vcode = (governQuad s q (controlPower s) (1000000 * effectiveCap s)).1 ∧
        (t.quad q).pace = (governQuad s q (controlPower s) (1000000 * effectiveCap s)).2.1) ∧
      (∀ q, q < 4 → (t.quad q).temp = (s.quad q).temp ∧ (t.quad q).fault = (s.quad q).fault) ∧
      (∀ q, q < 5 → (s.quad q).vcode - 1 ≤ (t.quad q).vcode ∧ (t.quad q).vcode ≤ (s.quad q).vcode + 1) ∧
      (let goal := max (maxOf ((span 0 4).map fun q => (t.quad q).vcode)) (admVmin s);
       (t.quad 4).vcode = if (s.quad 4).vcode < goal then (s.quad 4).vcode + 1
         else if goal < (s.quad 4).vcode then (s.quad 4).vcode - 1 else (s.quad 4).vcode) ∧
      (s.power.profile = true → t.power.profile = false ∧ t.reg 0 (pwrPage + 0x100) = 850 ∧
        ∀ ph, 1 ≤ ph → ph < 8 → phaseV t ph = 8 ∧ phaseP t ph = 40) ∧
      Calm s t ∧ SameRings s t ∧ SameObjs s t) ∧
  (∀ (s : State) (rq cap : Nat), pfMayWrite s rq pwrPage = true → Answers (.profile850 rq cap) s fun t =>
    t.power.profile = true ∧ t.reg 0 (pwrPage + 0x100) = cap % 2 ^ 11 ∧ OtherRegs s t [(0, pwrPage + 0x100)] ∧ Calm s t ∧
      SameRings s t)

/-- JUNCTION_SENSOR_READ, THERMAL_HOLD_END and the regulators' commands (R232, R233, R330, R397): T(q) is the hottest reading, with
its limit and emergency, every 40 µs; a reading above 105 °C trips the package, whose hold ends when no sensor has read 85 °C for
1 s; a regulator that shuts down stays off, holds ALERT# and takes its bridge down. A row that comes before its time changes nothing,
which is the model's choice (log entry 1). -/
def Obligations.TemperaturesAndRegulators : Prop :=
  (∀ (s : State) (q : Nat) (xs : List Nat), q < 5 → s.start.asserted = false →
    s.hubUs < periodStart s (junctionTimer q) + 40 → exec (.junctionSensorRead q xs) s = .next s) ∧
  (∀ (s : State) (q : Nat) (xs : List Nat), q < 5 → s.start.asserted = true →
    exec (.junctionSensorRead q xs) s =
      .next (if xs.any (fun x => decide (340 ≤ x)) then { s with start := { s.start with coolUs := 0 } } else s)) ∧
  (∀ (s : State) (q : Nat) (xs : List Nat), q < 5 → s.start.asserted = false → xs ≠ [] →
    periodStart s (junctionTimer q) + 40 ≤ s.hubUs →
    let x := min 0x3FF (maxOf xs)
    let lim := 4 * thermalLimit s
    (x ≤ 420 → Answers (.junctionSensorRead q xs) s fun t =>
      (t.quad q).temp = x ∧ (lim ≤ x → (t.quad q).thermal = true) ∧ (x + 12 ≤ lim → (t.quad q).thermal = false) ∧
        (x < lim → lim < x + 12 → (t.quad q).thermal = (s.quad q).thermal) ∧
        (412 ≤ x → (t.quad q).emergency = true ∧ (q < 4 → (t.quad q).pace = 1)) ∧
        (x ≤ 400 → (t.quad q).emergency = false) ∧ (t.quad q).vcode = (s.quad q).vcode ∧
        (∀ k, k ≠ q → t.quad k = s.quad k) ∧ t.regs = s.regs ∧ SameRings s t ∧ Calm s t) ∧
    (420 < x → s.start.trip = false → Answers (.junctionSensorRead q xs) s fun t =>
      t.start.asserted = true ∧ t.start.trip = true ∧ t.flash = s.flash ∧ t.pending = s.pending)) ∧
  (∀ s : State, exec .thermalHoldEnd s =
    .next (if 1000000 ≤ s.start.coolUs then { s with start := { s.start with trip := false } } else s)) ∧
  (∀ (s : State) (q : Nat), q < 5 →
    (Answers (.regulatorFault q) s fun t =>
      t.quad q = { s.quad q with fault := true } ∧ limitCode (t.quad q) = 4 ∧ alertPin t = true ∧
        (∀ k, k ≠ q → t.quad k = s.quad k) ∧ t.regs = s.regs ∧ Calm s t ∧ SameRings s t) ∧
    (Answers (.regulatorFaultClear q) s fun t =>
      t.quad q = { s.quad q with fault := false } ∧ (∀ k, k ≠ q → t.quad k = s.quad k) ∧ t.regs = s.regs ∧ Calm s t ∧
        SameRings s t) ∧
    ((s.quad q).shut = false → Answers (.regulatorShutdown q) s fun t =>
      (t.quad q).shut = true ∧ alertPin t = true ∧ t.start.alertHeld = true ∧
        (q < 4 → t.fld 0 (bridgeReg q) 31 31 = 0 ∧ q ∈ t.dies.bridgeDown) ∧ (∀ k, k ≠ q → t.quad k = s.quad k)))

/-- CLUSTER_GATE, CLUSTER_START_REQUEST and RAMP_WAVE (R235, R236): an idle cluster is gated after GATE_US, a token's cluster asks
once, and a wave grants as many clusters of its quadrant as its slope allows, in order of request. -/
def Sys2Proof.Claims.Clusters : Prop :=
  (∀ (s : State) (c : Nat), c < 4096 →
    (gateUs s ≠ 0 → (s.cluster c).gated = false → (s.cluster c).asked = 0 → gateUs s ≤ clusterIdle s c →
      Answers (.clusterGate c) s fun t =>
        t.cluster c = { s.cluster c with gated := true, running := false } ∧ (∀ k, k ≠ c → t.cluster k = s.cluster k) ∧
          t.regs = s.regs ∧ Calm s t ∧ SameRings s t) ∧
    ((s.cluster c).running = false → (s.cluster c).asked = 0 → clusterRetired s c = false →
      Answers (.clusterStartRequest c) s fun t =>
        t.cluster c = { s.cluster c with asked := 1 } ∧ t.power.ramp = s.power.ramp ++ [(c / 1024, c)] ∧
          (∀ k, k ≠ c → t.cluster k = s.cluster k) ∧ t.regs = s.regs ∧ Calm s t ∧ SameRings s t)) ∧
  (∀ (s : State) (q : Nat), q < 4 →
    let mine := (s.power.ramp.filter fun p => p.1 == q).map (·.2)
    mine.Nodup → Answers (.rampWave q) s fun t =>
      (∀ c ∈ mine.take (waveSize s q), (t.cluster c).running = true ∧ (t.cluster c).gated = false ∧
        (t.cluster c).asked = 0) ∧
      (∀ c ∈ mine.drop (waveSize s q), t.cluster c = { s.cluster c with asked := (s.cluster c).asked + 1 }) ∧
      (t.power.ramp.filter fun p => p.1 == q).map (·.2) = mine.drop (waveSize s q) ∧
      (t.power.ramp.filter fun p => !(p.1 == q)) = s.power.ramp.filter (fun p => !(p.1 == q)) ∧ Calm s t ∧ SameRings s t)

/-- HBM_SELF_REFRESH_ENTER, ISLAND_CLOCK_STOP and ISLAND_WAKE (R210, R217 to R220, R237): a die that is idle at phase 0's targets
enters self-refresh; an island stops only where it may, and wakes once. -/
def Sys2Proof.Claims.StoppedClocks : Prop :=
  (∀ (s : State) (die : Nat), die < 4 → selfRefreshMs s ≠ 0 → 1000 * selfRefreshMs s ≤ mget s.stackSet.idleUs die 0 →
    dieRingsIdle s die = true → targetV s die = phaseV s 0 → targetP s die = phaseP s 0 → Answers (.hbmSelfRefreshEnter die) s fun t =>
      (∀ i, (i ∈ t.power.stopped ↔ i ∈ s.power.stopped ∨ (4 * die ≤ i ∧ i < 4 * die + 4)) ∧
        (i ∈ t.stackSet.selfRefresh ↔ i ∈ s.stackSet.selfRefresh ∨ (4 * die ≤ i ∧ i < 4 * die + 4))) ∧
        t.regs = s.regs ∧ Calm s t ∧ SameRings s t) ∧
  (∀ (s : State) (i : Nat), i < 85 →
    (mayStopClock s i = true → Answers (.islandClockStop i) s fun t =>
      (∀ k, k ∈ t.power.stopped ↔ k ∈ s.power.stopped ∨ k = i) ∧ t.regs = s.regs ∧ Calm s t ∧ SameRings s t) ∧
    (mayStopClock s i = false → exec (.islandClockStop i) s = .next s) ∧
    (i ∈ s.power.stopped → Answers (.islandWake i) s fun t =>
      i ∉ t.power.stopped ∧ i ∉ t.stackSet.selfRefresh ∧
        (∀ k, k ≠ i → (k ∈ t.power.stopped ↔ k ∈ s.power.stopped)) ∧
        (i < 21 → Counted s t i (hubPage + 0x190) 1 ∧ OtherRegs s t [(i, hubPage + 0x190)]) ∧
        (21 ≤ i → t.regs = s.regs) ∧ Calm s t ∧ SameRings s t) ∧
    (i ∉ s.power.stopped → exec (.islandWake i) s = .next s)) ∧
  (∀ (s : State) (i : Nat), mayStopClock s i = true ↔
    (i < 16 ∧ i ∈ s.stackSet.selfRefresh) ∨ (16 ≤ i ∧ i < 21) ∨ (21 ≤ i ∧ portState s (i - 21) ≠ 2))

/-- Cluster gating and stopped clocks. -/
def Obligations.ClustersAndStoppedClocks : Prop :=
  Sys2Proof.Claims.Clusters ∧ Sys2Proof.Claims.StoppedClocks

/-! ## The ledger -/

/-- MONITOR_SAMPLE and LEDGER_WINDOW_CLOSE (R223, R242, R245 to R247): a sample set adds the power of every domain that delivered
it; the window's close charges its estimates, counts itself, and moves DIVERGENT by the runs of 64 windows. A row that comes before
its time changes nothing, which is the model's choice (log entry 1). -/
def Obligations.LedgerWindows : Prop :=
  (∀ (s : State) (uw : List Nat) (missing faults : Nat) (amps : List Nat) (droop : Nat) (full : Bool),
    (s.start.asserted = true ∨ s.hubUs < periodStart s sampleTimer + 10) →
    exec (.monitorSample uw missing faults amps droop full) s = .next s) ∧
  (∀ (s : State) (pout : List (Option Nat)), (startEnded s = false ∨ s.hubUs < periodStart s ledgerTimer + 1000) →
    exec (.ledgerWindowClose pout) s = .next s) ∧
  (∀ (s : State) (uw : List Nat) (missing faults : Nat) (amps : List Nat) (droop : Nat) (full : Bool),
    s.start.asserted = false → periodStart s sampleTimer + 10 ≤ s.hubUs → Answers (.monitorSample uw missing faults amps droop full) s fun t =>
      t.power.pmeas = uw.sum ∧
        (∀ d, d < 3 → bit missing d = false → mget t.ledger.meas d 0 = mget s.ledger.meas d 0 + uw.getD d 0 ∧
          mget t.ledger.samples d 0 = mget s.ledger.samples d 0 + 1) ∧
        (∀ d, d < 3 → bit missing d = true → mget t.ledger.meas d 0 = mget s.ledger.meas d 0 ∧
          mget t.ledger.samples d 0 = mget s.ledger.samples d 0) ∧
        (∀ q, q < 5 → (t.quad q).amps = amps.getD q 0 ∧ (t.quad q).current = decide (currentLimit q ≤ amps.getD q 0) ∧
          (t.quad q).droop = bit droop q) ∧
        Counted s t 0 (ldgPage + 0x160) 1 ∧
        Counted s t 0 (hubPage + 0x188) (flag (full && decide (4 ≤ crossHeld s 3))) ∧ Calm s t ∧ SameRings s t) ∧
  (∀ (s : State) (pout : List (Option Nat)), startEnded s = true → periodStart s ledgerTimer + 1000 ≤ s.hubUs →
    let est := (domWin s 0).est + (domWin s 1).est + (domWin s 2).est
    let meas := (domWin s 0).meas + (domWin s 1).meas + (domWin s 2).meas
    let k : Rat := if est = 0 then 1 else (meas : Rat) / (est : Rat)
    Answers (.ledgerWindowClose pout) s fun t =>
      Counted s t 0 (ldgPage + 0x50) 1 ∧ Counted s t 0 (ldgPage + 0x78) meas ∧ t.reg 0 (ldgPage + 0x148) = openWindow s ∧
        t.ledger.kPkg = k ∧ t.ledger.est = [] ∧ t.ledger.samples = [] ∧
        (1 / 10 < offOne k → t.ledger.runDiv = s.ledger.runDiv + 1 ∧ t.ledger.runNotDiv = 0 ∧
          (63 ≤ s.ledger.runDiv → ldgDivergent t = true)) ∧
        (offOne k ≤ 1 / 10 → t.ledger.runDiv = 0 ∧ t.ledger.runNotDiv = s.ledger.runNotDiv + 1 ∧
          (63 ≤ s.ledger.runNotDiv → ldgDivergent t = false)) ∧ Calm s t)

/-- CLOSE_NOW, BLOCK_SIGNED, LEDGER_RECORD_WRITE and LDG_OUT_GET_WRITE (R254 to R258, R262). That CLOSE_NOW closes no block before
the start block is the model's choice (log entry 89). -/
def Obligations.LedgerBlocks : Prop :=
  (∀ (s : State) (rq v : Nat), pfMayWrite s rq ldgPage = true →
    (startEnded s = true → closedFull s = false → Answers (.closeNow rq v) s fun t =>
      (∃ b, t.ledger.closed = s.ledger.closed ++ [b] ∧ b.close = 3 ∧ b.receipts = s.ledger.openBlk.receipts ∧
        b.firstReceipt = s.ledger.openBlk.firstReceipt ∧ b.meas = s.ledger.openBlk.meas) ∧
        t.ledger.openBlk.receipts = [] ∧ t.ledger.openBlk.close = 0 ∧ bit (t.ldg 0x100) 30 = bit v 30 ∧ Calm s t ∧
        SameRings s t) ∧
    (startEnded s = false → Answers (.closeNow rq v) s fun t =>
      t.ledger = s.ledger ∧ bit (t.ldg 0x100) 30 = bit v 30 ∧ Calm s t ∧ SameRings s t) ∧
    (startEnded s = true → closedFull s = true → s.ledger.openBlk.close = 0 → Answers (.closeNow rq v) s fun t =>
      t.ledger.closed = s.ledger.closed ∧ t.ledger.openBlk = { s.ledger.openBlk with close := 3 } ∧ Calm s t ∧
        SameRings s t) ∧
    (sub32 (s.ldg 0x118) v < 2 ^ 31 → Answers (.ldgOutGetWrite rq v) s fun t =>
      t.ldg 0x11C = v % 2 ^ 32 ∧ OtherRegs s t [(0, ldgPage + 0x11C)] ∧ Calm s t ∧ SameRings s t) ∧
    (2 ^ 31 ≤ sub32 (s.ldg 0x118) v → Answers (.ldgOutGetWrite rq v) s fun t =>
      t.ldg 0x11C = s.ldg 0x11C ∧ ErrSet t ldgPage 31 ∧ Calm s t ∧ SameRings s t)) ∧
  (∀ (s : State) (b : Block), s.start.state = 1 → (s.ledger.closed.find? fun b => b.signed.isNone) = some b →
    let h := blockHeader s b
    let g := signature (ledgerSeed s) "IKIMALIS-BLK" h
    Answers .blockSigned s fun t =>
      t.flash.blockNo = b.no + 1 ∧ t.flash.lastBlock = Machine.hash (h ++ g) ∧
        t.flash.receiptNext = b.firstReceipt + b.receipts.length ∧ t.ledger.closed = signFirst h g s.ledger.closed ∧
        t.ledger.records = s.ledger.records ++ blockRecord h g :: receiptRecords b (b.receipts.map leafHash) 0 b.receipts ∧
        Counted s t 0 (ldgPage + 0x48) 1 ∧ SameMemory s t ∧ SameRings s t ∧ t.pending = s.pending) ∧
  (∀ (s : State) (rec : List Byte) (rest : List (List Byte)), s.ledger.records = rec :: rest →
    let size := 2 ^ (s.fld 0 (ldgPage + 0x108) 4 0)
    let a := s.ldg 0x118 % size
    let free := sub32 (s.ldg 0x118) (s.ldg 0x11C) + unitsOf rec ≤ size
    (bit (s.ldg 0x108) 31 = true → (s.fn 0).d3hot = false → (s.fn 0).draining = false → free →
      Answers .ledgerRecordWrite s fun t =>
        t.ldg 0x118 = add32 (s.ldg 0x118) (unitsOf rec) ∧ t.ledger.records = rest ∧
          (rec.length ≤ (size - a) * 1024 → ∃ y, t.out = s.out ++ [.hostWrite 0 (s.ldg 0x110 + a * 1024) rec] ++ y) ∧
          ((∀ x r, rest = x :: r → x.length = 5120) → ∃ l, t.ledger.closed = s.ledger.closed.drop 1 ++ l) ∧
          (∀ x r, rest = x :: r → x.length ≠ 5120 → t.ledger.closed = s.ledger.closed) ∧ Calm s t) ∧
    ((bit (s.ldg 0x108) 31 = false ∨ ¬ free) → Answers .ledgerRecordWrite s fun t => t = s))

/-! ## Stacked memory -/

/-- HBM_ACCESS, PATROL_READ, HBM_REFRESH and SCRUB_LATE (R148, R155 to R157, R160, R162, R218): what a burst, a patrol read, a
refresh and the end of a patrol period count, the sector that an uncorrectable one fails, the slot that a refresh takes at input
7, and the stack that an access wakes. That the patrol reads in ascending order is the model's choice (log entry 30), as is that
a row before its time changes nothing (log entry 1). -/
def Sys2Proof.Claims.StackAccesses : Prop :=
  (∀ (s : State) (addr write retries kind corrected agent who : Nat), addr < 2 ^ 41 →
    let st := stackOf s addr
    let page := stackPage st
    let x := addr / 32
    let k := burstKind s x (decide (write ≠ 0)) kind
    (st ∈ s.power.stopped → Answers (.hbmAccess addr write retries kind corrected agent who) s fun t =>
      st ∉ t.power.stopped ∧ st ∉ t.stackSet.selfRefresh ∧ Counted s t st (hubPage + 0x190) 1 ∧ SameRings s t ∧ Calm s t) ∧
    (st ∉ s.power.stopped → k = 0 → agent = 0 → Answers (.hbmAccess addr write retries kind corrected agent who) s fun t =>
      Counted s t 0 (page + 0x60) (min retries 2) ∧ Counted s t 0 (page + 0x50) (flag (decide (corrected ≠ 0))) ∧
        Counted s t 0 (page + 0x70) (flag (usePage s (32 * x) (inWindow s addr)).2) ∧
        (inWindow s addr = true → Counted s t 0 (page + 0x48) 1) ∧
        (inWindow s addr = false → Counted s t 0 (page + 0x40) 32) ∧ mget t.stackSet.idleUs (addr / 2 ^ 39) 0 = 0 ∧
        t.stackSet.badSectors = s.stackSet.badSectors ∧
        OtherRegs s t [(0, page + 0x40), (0, page + 0x48), (0, page + 0x50), (0, page + 0x60), (0, page + 0x70)] ∧
        SameRings s t ∧ SameObjs s t ∧ Calm s t) ∧
    (st ∉ s.power.stopped → k = 0 → agent ≠ 0 → Answers (.hbmAccess addr write retries kind corrected agent who) s fun t =>
      Counted s t 0 (page + 0x60) (min retries 2) ∧ Counted s t 0 (page + 0x50) (flag (decide (corrected ≠ 0))) ∧
        t.stackSet = s.stackSet ∧ OtherRegs s t [(0, page + 0x50), (0, page + 0x60)] ∧ SameRings s t ∧ SameObjs s t ∧
        Calm s t) ∧
    (st ∉ s.power.stopped → k = 1 → Answers (.hbmAccess addr write retries kind corrected agent who) s fun t =>
      x ∈ t.stackSet.badSectors ∧ Counted s t 0 (page + 0x60) (min retries 2) ∧
        (agent = 0 → ErrSet t page 14 ∧ Counted s t 0 (page + 0x58) 1) ∧
        (agent ≠ 0 → OtherRegs s t [(0, page + 0x50), (0, page + 0x60)]) ∧ SameRings s t ∧ SameObjs s t ∧ Calm s t) ∧
    (st ∉ s.power.stopped → 2 ≤ k → 2 ≤ agent → Answers (.hbmAccess addr write retries kind corrected agent who) s fun t =>
      lostKey x (decide (write ≠ 0)) k ∈ t.stackSet.lost ∧ (k ≤ 3 → Counted s t 0 (page + 0x60) 2) ∧
        t.stackSet.badSectors = s.stackSet.badSectors ∧ OtherRegs s t [(0, page + 0x50), (0, page + 0x60)] ∧ SameRings s t ∧
        SameObjs s t ∧ Calm s t)) ∧
  (∀ (s : State) (x kind : Nat),
    (burstKind s x false kind = 1 ↔ x ∈ s.stackSet.badSectors ∨ kind % 4 = 1) ∧ burstKind s x false 2 ≠ 3 ∧
      burstKind s x true 2 = 3 ∧ (x ∉ s.stackSet.badSectors → burstKind s x false 2 = 2)) ∧
  (∀ (s : State) (addr result : Nat), addr < 2 ^ 41 →
    let st := stackOf s addr
    let a := hbmArb s addr
    ((scrubHours s st = 0 ∨ st ∈ s.power.stopped ∨ pseudoIdle s addr = false ∨ patrolNext s addr = false) →
      exec (.patrolRead addr result) s = .next s) ∧
    (scrubHours s st ≠ 0 → st ∉ s.power.stopped → pseudoIdle s addr = true → patrolNext s addr = true →
      (result ≠ 2 → addr / 32 ∉ s.stackSet.badSectors → Answers (.patrolRead addr result) s fun t =>
        mget t.stackSet.patrolled a 0 = mget s.stackSet.patrolled a 0 + 1 ∧
          Counted s t 0 (stackPage st + 0x50) (flag (decide (result = 1))) ∧ t.stackSet.badSectors = s.stackSet.badSectors ∧
          OtherRegs s t [(0, stackPage st + 0x50)] ∧ SameRings s t ∧ Calm s t) ∧
      ((result = 2 ∨ addr / 32 ∈ s.stackSet.badSectors) → Answers (.patrolRead addr result) s fun t =>
        mget t.stackSet.patrolled a 0 = mget s.stackSet.patrolled a 0 + 1 ∧ addr / 32 ∈ t.stackSet.badSectors ∧
          ErrSet t (stackPage st) 14 ∧ Counted s t 0 (stackPage st + 0x58) 1 ∧ SameRings s t ∧ Calm s t))) ∧
  (∀ (s : State) (st ch bank : Nat), st < 16 → ch < 32 → st ∉ s.power.stopped → st ∉ s.stackSet.selfRefresh →
    let a := 32 * st + ch
    let due := mget s.stackSet.refreshAt (a * 2 ^ 32 + bank % 2 ^ 32) 0
    (s.hubUs * 1000 + 999 < due → exec (.hbmRefresh st (ch, bank)) s = .next s) ∧
    (due ≤ s.hubUs * 1000 + 999 →
      (((s.arb a).serving = none ∨ ∃ q, (s.arb a).serving = some q ∧ 7 ≤ q.input) → Answers (.hbmRefresh st (ch, bank)) s fun t =>
        Counted s t 0 (stackPage st + 0x78) 1 ∧ Counted s t (arbSel a 7) (stackPage st + 0x310) 1 ∧
          (t.arb a).serving = (s.arb a).serving ∧ (t.arb a).waiting = (s.arb a).waiting ∧
          OtherRegs s t [(0, stackPage st + 0x78), (arbSel a 7, stackPage st + 0x310)] ∧ OtherArbs s t [a] ∧ SameRings s t ∧
          Calm s t) ∧
      (∀ q, (s.arb a).serving = some q → q.input < 7 → Answers (.hbmRefresh st (ch, bank)) s fun t =>
        Counted s t 0 (stackPage st + 0x78) 1 ∧ Counted s t (arbSel a 7) (stackPage st + 0x310) 1 ∧
          Counted s t (arbSel a q.input) (stackPage st + 0x318) 1 ∧ (t.arb a).serving = none ∧
          (t.arb a).waiting = { q with since := s.hubUs } :: (s.arb a).waiting ∧ OtherArbs s t [a] ∧ SameRings s t ∧
          Calm s t))) ∧
  (∀ (s : State) (st : Nat), st < 16 → scrubHours s st ≠ 0 →
    let ends := mget s.stackSet.scrubUs st 0 + scrubHours s st * 3600000000
    (s.hubUs < ends → exec (.scrubLate st) s = .next s) ∧
    (ends ≤ s.hubUs → patrolDone s st = false → Answers (.scrubLate st) s fun t =>
      ErrSet t (stackPage st) 13 ∧ t.stackSet.patrolled = s.stackSet.patrolled ∧ mget t.stackSet.scrubUs st 0 = s.hubUs ∧
        SameRings s t ∧ Calm s t) ∧
    (ends ≤ s.hubUs → patrolDone s st = true → Answers (.scrubLate st) s fun t =>
      (∀ ch, ch < 32 → mget t.stackSet.patrolled (32 * st + ch) 0 = 0) ∧ mget t.stackSet.scrubUs st 0 = s.hubUs ∧
        t.regs = s.regs ∧ SameRings s t ∧ Calm s t))

/-- HBM_TEMP_READ, HBM_TEMP_PEAK_CLEAR and HBM_WIN_CFG_WRITE (R150, R158, R159, R162, R163, R218). That a reading before its 1 ms has
passed changes nothing is the model's choice (log entry 1). -/
def Sys2Proof.Claims.StackRegisters : Prop :=
  (∀ (s : State) (st : Nat) (x : Option Nat), st < 16 → s.start.asserted = false →
    s.hubUs < periodStart s (tempTimer st) + 1000 → exec (.hbmTempRead st x) s = .next s) ∧
  (∀ (s : State) (st x : Nat), st < 16 → s.start.asserted = false → periodStart s (tempTimer st) + 1000 ≤ s.hubUs → x ≤ 105 →
    Answers (.hbmTempRead st (some x)) s fun t =>
    t.fld 0 (stackPage st + 0x100) 15 8 = x ∧
      t.fld 0 (stackPage st + 0x100) 2 0 = nextStep (s.fld 0 (stackPage st + 0x100) 2 0) x ∧
      t.fld 0 (stackPage st + 0x100) 28 28 = 0 ∧
      t.fld 0 (stackPage st + 0x104) 7 0 = max x (s.fld 0 (stackPage st + 0x104) 7 0) ∧
      OtherRegs s t [(0, stackPage st + 0x100), (0, stackPage st + 0x104)] ∧ SameRings s t ∧ Calm s t) ∧
  (∀ (s : State) (st : Nat), st < 16 → s.start.asserted = false → periodStart s (tempTimer st) + 1000 ≤ s.hubUs →
    Answers (.hbmTempRead st none) s fun t =>
    mget t.stackSet.tempFails st 0 = mget s.stackSet.tempFails st 0 + 1 ∧
      (2 ≤ mget s.stackSet.tempFails st 0 → stackStep t st = 4) ∧
      (mget s.stackSet.tempFails st 0 < 2 → t.regs = s.regs) ∧
      OtherRegs s t [(0, stackPage st + 0x100)] ∧ SameRings s t ∧ Calm s t) ∧
  (∀ (s : State) (rq st : Nat), st < 16 → pfMayWrite s rq (stackPage st) = true → Answers (.hbmTempPeakClear rq st) s fun t =>
    t.fld 0 (stackPage st + 0x104) 7 0 = s.fld 0 (stackPage st + 0x100) 15 8 ∧
      OtherRegs s t [(0, stackPage st + 0x104), (st, hubPage + 0x190)] ∧ st ∉ t.power.stopped ∧ SameRings s t ∧ Calm s t) ∧
  (∀ (s : State) (rq die w v : Nat), die < 4 → w = s.sel rq (dmapPage die + 0x100) → w < 8 →
    pfMayWrite s rq (dmapPage die) = true →
    bit v 31 = true →
    ((bits v 18 9 = 0 ∨ 512 < bits v 8 0 + bits v 18 9 ∨ windowMeets s die w v = true) →
      Answers (.hbmWinCfgWrite rq die v) s fun t =>
        t.reg w (dmapPage die + 0x104) = s.reg w (dmapPage die + 0x104) ∧ ErrSet t (dmapPage die) 31 ∧ SameRings s t ∧
          Calm s t) ∧
    (bits v 18 9 ≠ 0 → bits v 8 0 + bits v 18 9 ≤ 512 → windowMeets s die w v = false →
      bit (s.reg w (dmapPage die + 0x104)) 31 = false → Answers (.hbmWinCfgWrite rq die v) s fun t =>
        t.reg w (dmapPage die + 0x104) = 2 ^ 31 + bits v 18 9 * 2 ^ 9 + bits v 8 0 ∧
          SameHbmBut s t [(die * 2 ^ 39 + bits v 8 0 * 2 ^ 30, bits v 18 9 * 2 ^ 30)] ∧
          (∀ a, t.stage.read a = s.stage.read a) ∧ OtherRegs s t [(w, dmapPage die + 0x104)] ∧ SameRings s t ∧ Aside s t))

/-- HBM accesses, errors, refresh and the stacks' registers. -/
def Obligations.StacksAndTheirRegisters : Prop :=
  Sys2Proof.Claims.StackAccesses ∧ Sys2Proof.Claims.StackRegisters

/-! ## Bridges and control cores -/

/-- BRIDGE_BEAT (R17, R25): a good beat ends a run of replays, a bad one replays up to three times, and the next one fails its lane
group, in the bridge's status and in ERR_STAT; with fewer than eight working groups the bridge is taken down. -/
def Sys2Proof.Claims.BridgeBeats : Prop :=
  ∀ (s : State) (die dir group : Nat), die < 4 → dir < 2 → group < 16 → die ∉ s.dies.bridgeDown →
    bit (mget s.dies.groupsFailed (2 * die + dir) 0) group = false →
    let k := 32 * die + 16 * dir + group
    let mask := mget s.dies.groupsFailed (2 * die + dir) 0 ||| 2 ^ group
    (Answers (.bridgeBeat die dir group false) s fun t =>
      mget t.dies.replays k 0 = 0 ∧ t.regs = s.regs ∧ SameRings s t ∧ Calm s t) ∧
    (mget s.dies.replays k 0 < 3 → Answers (.bridgeBeat die dir group true) s fun t =>
      mget t.dies.replays k 0 = mget s.dies.replays k 0 + 1 ∧ Counted s t 0 (hubPage + 0x40) 1 ∧
        OtherRegs s t [(0, hubPage + 0x40)] ∧ SameRings s t ∧ Calm s t) ∧
    (3 ≤ mget s.dies.replays k 0 → Answers (.bridgeBeat die dir group true) s fun t =>
      mget t.dies.groupsFailed (2 * die + dir) 0 = mask ∧ bit (t.reg 0 (bridgeReg die)) group = true ∧ ErrSet t hubPage 13 ∧
        Counted s t 0 (hubPage + 0x48) 1 ∧ (8 < ((span 0 16).filter fun g => bit mask g).length → die ∈ t.dies.bridgeDown))

/-- HEARTBEAT_CHECK, CORE_WATCHDOG_EXPIRY and SCHEDULE_DIGEST_CHECK (R20, R21, R25, R26): a core's first missed check is noted and its
second fails it, as its watchdog does HUB_CORE_WDOG.MS after its last restart: its running rings stop, and its KEY and selectors are
reset. A checked table names its ring's core; another is counted and reported, and its ring starts nothing. When a core restarts its
watchdog is the command's operand, and that a row before its time changes nothing is the model's choice too (log entries 1, 40,
88). -/
def Sys2Proof.Claims.ControlCores : Prop :=
  (∀ (s : State) (alive : Nat), s.hubUs < periodStart s heartbeatTimer + 1000 → exec (.heartbeatCheck alive) s = .next s) ∧
  (∀ (s : State) (alive : Nat), s.start.state = 1 → periodStart s heartbeatTimer + 1000 ≤ s.hubUs →
    (∀ c, c < 32 → c ∉ s.dies.coreHeld → bit alive c = true ∨ mget s.dies.coreMissed c 0 = 0) →
    Answers (.heartbeatCheck alive) s fun t =>
      (∀ c, c < 32 → c ∉ s.dies.coreHeld → mget t.dies.coreMissed c 0 = if bit alive c = true then 0 else 1) ∧
        OtherRegs s t ((span 16 4).map fun i => (i, hubPage + 0x190)) ∧ SameRings s t ∧ Calm s t) ∧
  (∀ (s : State) (c kick : Nat), c < 32 →
    (s.start.state ≠ 1 ∨ c ∈ s.dies.coreHeld ∨ kick < coreStartUs s c ∨ s.hubUs < kick + coreWdogUs s kick) →
    exec (.coreWatchdogExpiry (c, kick)) s = .next s) ∧
  (∀ (s : State) (c kick : Nat), c < 32 → s.start.state = 1 → c ∉ s.dies.coreHeld → coreStartUs s c ≤ kick →
    kick + coreWdogUs s kick ≤ s.hubUs → Answers (.coreWatchdogExpiry (c, kick)) s fun t =>
    mget t.dies.coreFailUs c 0 = s.hubUs + 1 ∧ mget t.dies.coreMissed c 0 = 0 ∧ s.hubUs ≤ coreStartUs t c ∧
      (∀ a, a < 2 ^ 32 → t.sel (17 + c) a = resetValue 0 a % 2 ^ 64) ∧
      (∀ r, (c, r) ∈ s.dies.coreRings → (s.ring r).kind = 1 → (s.ring r).mode = .on → (t.ring r).mode = .stopped) ∧
      (∀ r, (c, r) ∉ s.dies.coreRings → t.ring r = s.ring r) ∧
      (∀ o, o < 32 → o / 8 = c / 8 → o ≠ c → mget s.dies.coreFailUs o 0 ≠ 0 →
        s.hubUs + 1 < mget s.dies.coreFailUs o 0 + 1000000 → c ∈ t.dies.coreHeld) ∧
      (hostHears s = true → t.out.getLast? = some (.msix 0 0)) ∧ Calm s t) ∧
  (∀ (s : State) (core ring : Nat) (table digest : List Byte), core < 32 → ring < 65536 →
    (Machine.hash table = digest → Answers (.scheduleDigestCheck core ring table digest) s fun t =>
      t.dies.coreRings = s.dies.coreRings.filter (fun p => !(p.2 == ring)) ++ [(core, ring)] ∧ ring ∉ t.dies.badTables ∧
        t.regs = s.regs ∧ SameRings s t ∧ Calm s t) ∧
    (Machine.hash table ≠ digest → Answers (.scheduleDigestCheck core ring table digest) s fun t =>
      t.dies = { s.dies with badTables := putRising ring s.dies.badTables } ∧ Counted s t 0 (hubPage + 0x58) 1 ∧
        (hostHears s = true → t.out.getLast? = some (.msix 0 0)) ∧ SameRings s t ∧ Calm s t))

/-- Bridge beats and lanes, and control cores. -/
def Obligations.BridgesAndControlCores : Prop :=
  Sys2Proof.Claims.BridgeBeats ∧ Sys2Proof.Claims.ControlCores

/-! ## Pack-link ports -/

/-- PORT_UP, PORT_TRAIN_RETRY, IDLE_FLIT_TIMER and PORT_DOWN_MSG (R264, R265, R270, R279): a port comes up from sequence 0 with every
credit and sends an IDLE flit; training is tried again every 10 ms; the manager acknowledges the news of a port that went down, drops
its link and sends every member the routes without it. -/
def Sys2Proof.Claims.PortsComeUp : Prop :=
  (∀ (s : State) (p member peer : Nat), p < 64 →
    (portEn s p = true → portState s p ≠ 2 → 9 ≤ s.start.step + 9 * s.start.state → s.start.state ≠ 2 →
      Answers (.portUp p member peer) s fun t =>
        portIsUp t p = true ∧ t.port p = Port.zero ∧ t.fld 0 (portPage p + 0x104) 25 16 = member % 2 ^ 10 ∧
          t.fld 0 (portPage p + 0x104) 13 8 = peer % 2 ^ 6 ∧
          t.out = s.out ++ [.flit p ⟨0, 0, 0, 0, 0, 0, leBytes 2 (ownMember s) ++ leBytes 1 p⟩] ∧ OtherPorts s t [p] ∧
          OtherRegs s t [(0, portPage p + 0x104)] ∧ Calm s t ∧ SameRings s t) ∧
    (s.hubUs < periodStart s (trainTimer p) → exec (.portTrainRetry p) s = .next s) ∧
    (portEn s p = true → portState s p ≠ 2 → periodStart s (trainTimer p) ≤ s.hubUs → Answers (.portTrainRetry p) s fun t =>
      periodStart t (trainTimer p) = s.hubUs + 10000 ∧
      portState t p = 1 ∧ OtherRegs s t [(0, portPage p + 0x104)] ∧ OtherPorts s t [] ∧ Calm s t ∧ SameRings s t) ∧
    (portIsUp s p = true → (s.arb (520 + p)).serving = none → Answers (.idleFlitTimer p) s fun t =>
      (∃ f, t.out = s.out ++ [.flit p f] ∧ f.type = 0 ∧ f.seq = (s.port p).txSeq ∧ f.ack = (s.port p).rxSeq ∧
        f.payload = leBytes 2 (ownMember s) ++ leBytes 1 p) ∧
        (t.port p).txSeq = (s.port p).txSeq ∧ (t.port p).replay = (s.port p).replay ∧ t.regs = s.regs ∧
        OtherPorts s t [p] ∧ Calm s t ∧ SameRings s t)) ∧
  (∀ (s : State) (src epoch mseq port : Nat), src < 1024 → port < 64 → packRole s = 3 → newMessage s src epoch mseq →
    Answers (.portDownMsg src epoch mseq port) s fun t =>
      (∃ k ∈ t.pack.out, k.kind = .mseqAck ∧ k.dst = src ∧ k.args = [mseq, 0, 0, 0]) ∧
        src * 2 ^ 32 + mseq % 2 ^ 32 ∈ t.pack.seen ∧
        t.pack.links = s.pack.links.filter (fun l => !decide ((l.1 = src ∧ l.2.1 = port) ∨ (l.2.2.1 = src ∧ l.2.2.2 = port))) ∧
        (t.pack.links = [] → t.regs = s.regs) ∧
        (t.pack.links ≠ [] → ∀ m ∈ s.pack.members, ∃ k ∈ t.pack.out, k.kind = .routeTable ∧ k.dst = m.1 ∧
          k.args = tableArgs (tableOf t.pack.links (ownMember s) (packMembers s) m.1)) ∧
        packEpoch t = packEpoch s ∧ Calm s t ∧ SameRings s t ∧ SameObjs s t)

/-- FLIT_RECEIVE and NAK on a port that is up (R265 to R267, R287): a flit whose CRC is not that of its bytes, or with another number,
is answered by one NAK; a DATA flit of the expected number is delivered; the decoder's codewords are counted; a NAK resends the flits
from its ACK onward, and the eighth resend of one flit in a row takes the port down. -/
def Obligations.Flits : Prop :=
  (∀ (s : State) (p type vc seq ack cvc credits cor unc crc : Nat) (payload : List Byte), p < 64 → portIsUp s p = true →
    let coded (t : State) : Prop := Counted s t 0 (portPage p + 0x60) cor ∧ Counted s t 0 (portPage p + 0x68) unc
    let good := flitCrc ⟨type % 8, vc % 4, seq % 1024, ack % 1024, cvc % 4, credits % 32, payload⟩
    (crc ≠ good → (s.port p).nakSent = false → Answers (.flitReceive p type vc seq ack cvc credits cor unc payload crc) s fun t =>
      Counted s t 0 (portPage p + 0x50) 1 ∧ (t.port p).nakSent = true ∧ (t.port p).rxSeq = (s.port p).rxSeq ∧
        (∃ f, t.out = s.out ++ [.flit p f] ∧ f.type = 2 ∧ f.ack = (s.port p).rxSeq) ∧ coded t ∧ OtherPorts s t [p] ∧ Calm s t ∧
        SameRings s t) ∧
    (crc ≠ good → (s.port p).nakSent = true → Answers (.flitReceive p type vc seq ack cvc credits cor unc payload crc) s fun t =>
      Counted s t 0 (portPage p + 0x50) 1 ∧ t.port p = s.port p ∧ t.out = s.out ∧ coded t ∧ OtherPorts s t [p] ∧ Calm s t ∧
        SameRings s t) ∧
    (type % 8 = 1 → seq % 1024 = (s.port p).rxSeq → s.pack.stopNo = none →
      Answers (.flitReceive p type vc seq ack cvc credits cor unc payload good) s fun t =>
        (t.port p).rxSeq = ((s.port p).rxSeq + 1) % 1024 ∧ (t.port p).nakSent = false ∧
          Counted s t 0 (portPage p + 0x48) 1 ∧
          mget (t.port p).freed (vc % 4) 0 = mget (s.port p).freed (vc % 4) 0 + 1 ∧ (t.port p).quietUs = 0 ∧
          portCredit (t.port p) (cvc % 4) = min 128 (portCredit (s.port p) (cvc % 4) + credits % 32) ∧
          t.out = s.out ∧ coded t ∧ OtherPorts s t [p] ∧ Calm s t ∧ SameRings s t) ∧
    (type % 8 = 1 → seq % 1024 ≠ (s.port p).rxSeq →
      Answers (.flitReceive p type vc seq ack cvc credits cor unc payload good) s fun t =>
        (t.port p).rxSeq = (s.port p).rxSeq ∧ (t.port p).nakSent = true ∧ (t.port p).quietUs = 0 ∧
          (t.port p).credits = (s.port p).credits ∧ (t.port p).partly = (s.port p).partly ∧
          (∀ idx a, a ≠ portPage p + 0x60 → a ≠ portPage p + 0x68 → t.reg idx a = s.reg idx a) ∧
          coded t ∧ OtherPorts s t [p] ∧ Calm s t ∧ SameRings s t) ∧
    (type % 8 = 0 → seq % 1024 = (s.port p).rxSeq →
      Answers (.flitReceive p type vc seq ack cvc credits cor unc payload good) s fun t =>
        t.fld 0 (portPage p + 0x104) 25 16 = field payload 0 2 % 2 ^ 10 ∧ (t.port p).rxSeq = (s.port p).rxSeq ∧
          (t.port p).nakSent = (s.port p).nakSent ∧ t.out = s.out ∧ coded t ∧ OtherPorts s t [p] ∧ Calm s t ∧ SameRings s t)) ∧
  (∀ f : PortFlit, (flitBytes f).length = 252 ∧ field (flitBytes f) 0 4 / 2 ^ 29 = f.type % 8 ∧
    field (flitBytes f) 0 4 / 2 ^ 27 % 4 = f.vc % 4 ∧ field (flitBytes f) 0 4 / 2 ^ 17 % 1024 = f.seq % 1024 ∧
    field (flitBytes f) 0 4 / 2 ^ 7 % 1024 = f.ack % 1024 ∧ field (flitBytes f) 0 4 / 2 ^ 5 % 4 = f.cvc % 4 ∧
    field (flitBytes f) 0 4 % 2 ^ 5 = f.credits % 32) ∧
  (∀ (s : State) (p ack : Nat), p < 64 → portIsUp s p = true →
    let P := ackFlits (ackFlits (s.port p) (ack % 1024)) (ack % 1024)
    (P.replay = [] → Answers (.nak p ack) s fun t =>
      (t.port p).replay = [] ∧ Counted s t 0 (portPage p + 0x58) 1 ∧ t.out = s.out ∧ OtherPorts s t [p] ∧ Calm s t ∧
        SameRings s t) ∧
    ((∀ f ∈ P.replay, f.2 < 7) → Answers (.nak p ack) s fun t =>
      t.out = s.out ++ P.replay.map (fun g => .flit p { g.1 with ack := P.rxSeq }) ∧
        (t.port p).replay = P.replay.map (fun f => (f.1, f.2 + 1)) ∧ (t.port p).quietUs = 0 ∧
        Counted s t 0 (portPage p + 0x58) 1 ∧ OtherPorts s t [p] ∧ Calm s t ∧ SameRings s t) ∧
    ((∃ f ∈ P.replay, 7 ≤ f.2) → Answers (.nak p ack) s fun t =>
      portState t p = 3 ∧ t.port p = Port.zero ∧ Counted s t 0 (portPage p + 0x70) 1))

/-- LIVENESS_TIMEOUT, FEC_LOCK_LOST, REPLAY_FULL_TIMEOUT and PLK_PORT_DOWN_WRITE take a port that is up down (R266, R269, R270,
R287): its link state is discarded, its arbiter serves nothing, and PORT_DOWN is counted. -/
def Sys2Proof.Claims.PortsGoDown : Prop :=
  ∀ (s : State) (p : Nat), p < 64 → portIsUp s p = true →
    (∀ i : Instr, ((i = .livenessTimeout p ∧ 1 ≤ (s.port p).quietUs) ∨ i = .fecLockLost p ∨
        (i = .replayFullTimeout p ∧ 10 ≤ (s.port p).fullUs)) → s.pack.stopNo = none → Answers i s fun t =>
      portState t p = 3 ∧ t.port p = Port.zero ∧ (t.arb (520 + p)).serving = none ∧ Counted s t 0 (portPage p + 0x70) 1 ∧
        OtherPorts s t [p]) ∧
    (∀ rq, pfMayWrite s rq (portPage p) = true → armed s rq (portPage p) = true → Answers (.plkPortDownWrite rq p) s fun t =>
      portState t p = 3 ∧ t.port p = Port.zero ∧ Counted s t 0 (portPage p + 0x70) 1 ∧ portEn t p = portEn s p ∧
        t.sel rq (portPage p + 0x28) = 0 ∧ OtherPorts s t [p]) ∧
    (∀ rq, pfMayWrite s rq (portPage p) = true → armed s rq (portPage p) = false → Answers (.plkPortDownWrite rq p) s fun t =>
      portState t p = 2 ∧ ErrSet t (portPage p) 30 ∧ OtherPorts s t [] ∧ Calm s t ∧ SameRings s t)

/-- Ports that come up and go down. -/
def Obligations.PortsUpAndDown : Prop :=
  Sys2Proof.Claims.PortsComeUp ∧ Sys2Proof.Claims.PortsGoDown

/-! ## Members of a pack -/

/-- HEARTBEAT_TIMER and HEARTBEAT (R268, R271, R272, R277, R280): once per 2 µs the manager sends to every member, every other
device to its manager; a heartbeat is noted and acknowledged, a stale one only counted, a duplicate acknowledged again; the
member that the manager's names is its standby. That the heartbeat carries that name, that a row before its time changes nothing
and that an isolated device takes none are the model's choices (log entries 1, 92, 93). -/
def Sys2Proof.Claims.Heartbeats : Prop :=
  (∀ s : State,
    ((packRole s = 0 ∨ s.hubUs < periodStart s packTimer) → exec .heartbeatTimer s = .next s) ∧
    (packRole s = 3 → periodStart s packTimer ≤ s.hubUs → Answers .heartbeatTimer s fun t =>
      t.pack.out.map (fun m => (m.kind, m.dst, m.args)) =
        s.pack.out.map (fun m => (m.kind, m.dst, m.args)) ++
          s.pack.members.map (fun m => (PackKind.heartbeat, m.1, [namedStandby s])) ∧
        periodStart t packTimer = s.hubUs + 2 ∧ t.regs = s.regs ∧ Calm s t ∧ SameRings s t) ∧
    ((packRole s = 1 ∨ packRole s = 2) → periodStart s packTimer ≤ s.hubUs → Answers .heartbeatTimer s fun t =>
      SentLast t .heartbeat (packManager s) [] ∧ periodStart t packTimer = s.hubUs + 2 ∧ t.regs = s.regs ∧ Calm s t ∧
        SameRings s t)) ∧
  (∀ (s : State) (src sb epoch mseq : Nat), src < 1024 →
    (packRole s = 0 → exec (.heartbeat (src, sb) epoch mseq) s = .next s) ∧
    (packRole s ≠ 0 → newMessage s src epoch mseq → Answers (.heartbeat (src, sb) epoch mseq) s fun t =>
      heardAt t src = s.hubUs ∧ SentLast t .mseqAck src [mseq, 0, 0, 0] ∧
        (fromManager s src = true → packEpoch t = epoch % 2 ^ 32 ∧ packRole t = (if sb = ownMember s then 2 else 1) ∧
          namedStandby t = (if sb < 1024 then sb else 1024) ∧ packManager t = packManager s ∧ ownMember t = ownMember s) ∧
        (fromManager s src = false → packRole t = packRole s ∧ OtherRegs s t [(0, packPage + 0x104)]) ∧
        OtherRegs s t [(0, packPage + 0x104), (0, packPage + 0x108), (0, packPage + 0x100)] ∧ Calm s t ∧ SameRings s t ∧
        SameObjs s t) ∧
    (packRole s ≠ 0 → epoch % 2 ^ 32 < packEpoch s → Answers (.heartbeat (src, sb) epoch mseq) s fun t =>
      Counted s t 0 (packPage + 0x68) 1 ∧ t.pack = s.pack ∧ OtherRegs s t [(0, packPage + 0x68)] ∧ Calm s t ∧
        SameRings s t) ∧
    (packRole s ≠ 0 → packEpoch s ≤ epoch % 2 ^ 32 → src * 2 ^ 32 + mseq % 2 ^ 32 ∈ s.pack.seen →
      Answers (.heartbeat (src, sb) epoch mseq) s fun t =>
      Counted s t 0 (packPage + 0x78) 1 ∧ heardAt t src = heardAt s src ∧ SentLast t .mseqAck src [mseq, 0, 0, 0] ∧
        Calm s t ∧ SameRings s t))

/-- MEMBER_LOST and LOST (R176, R273, R274, R295): the manager records the member that left, tells every other one and counts it; a
member that loses its manager completes its pack entries PEER_LOST, and the standby claims the next epoch. -/
def Sys2Proof.Claims.Losses : Prop :=
  (∀ (s : State) (x : Nat), x < 1024 → memberSilent s x = false → exec (.memberLost x) s = .next s) ∧
  (∀ (s : State) (x : Nat) (m : Member), x < 1024 → memberSilent s x = true → packRole s = 3 →
    (s.pack.members.find? fun p => p.1 == x) = some (x, m) → Answers (.memberLost x) s fun t =>
      t.pack.former = s.pack.former ++ [(m.serial, x, m.since, packEpoch s)] ∧ Counted s t 0 (packPage + 0x50) 1 ∧
        Counted s t 0 (hubPage + 0x270) 1 ∧
        (∀ p ∈ s.pack.members, p.1 ≠ x → ∃ k ∈ t.pack.out, k.kind = .lost ∧ k.dst = p.1 ∧ k.args = [x])) ∧
  (∀ s : State, packManager s < 1024 → memberSilent s (packManager s) = true → (packRole s = 1 ∨ packRole s = 2) →
    s.pack.mgrLost = false → Answers (.memberLost (packManager s)) s fun t =>
      t.pack.mgrLost = true ∧ t.mirrors = [] ∧ t.mirrorWait = [] ∧ Counted s t 0 (packPage + 0x50) 1 ∧
        (∀ r f, openFlight (s.ring r) f.seq = some f → entryScope f.bytes = true → 1 ≤ entryOp f.bytes →
          entryOp f.bytes ≤ 3 → ∃ a b, Done t r f.seq (completionFor (s.ring r) f.bytes 0xA a b 0)) ∧
        (packRole s = 2 → t.pack.claim = some (add32 (packEpoch s) 1) ∧ t.pack.accepts = [ownMember s]) ∧
        (packRole s = 1 → t.pack.claim = s.pack.claim) ∧ Calm s t) ∧
  (∀ (s : State) (src epoch mseq x : Nat), src < 1024 → x < 1024 → fromManager s src = true → newMessage s src epoch mseq →
    Answers (.lost src epoch mseq x) s fun t =>
      src * 2 ^ 32 + mseq % 2 ^ 32 ∈ t.pack.seen ∧ packEpoch t = epoch % 2 ^ 32 ∧
        t.pack.roster = s.pack.roster.filter (· ≠ x) ∧ t.pack.lostX = some x ∧
        (hostHears s = true → (∀ p ∈ allDescs s, p.2.reqs = []) → t.out.getLast? = some (.msix 0 0)))

/-- Heartbeats and the losses that their absence shows. -/
def Obligations.HeartbeatsAndLosses : Prop :=
  Sys2Proof.Claims.Heartbeats ∧ Sys2Proof.Claims.Losses

/-- TAKEOVER, TAKEOVER_ACCEPT, TAKEOVER_REFUSE, TAKEOVER_TIMEOUT and MANAGER_STEP_DOWN (R274, R275): only a worker that has itself
lost its manager accepts; more than half of the old members make the standby manager, which breaks every pack object; 1 ms
without a majority, and a manager that hears no more than half, are isolated. -/
def Sys2Proof.Claims.Takeovers : Prop :=
  (∀ (s : State) (src epoch mseq : Nat), src < 1024 → newMessage s src epoch mseq →
    (packRole s = 1 → s.pack.mgrLost = true → Answers (.takeover src epoch mseq) s fun t =>
      packManager t = src ∧ t.pack.mgrLost = false ∧ packEpoch t = epoch % 2 ^ 32 ∧ packRole t = 1 ∧
        SentLast t .takeoverAccept src [] ∧ Calm s t ∧ SameRings s t ∧ SameObjs s t) ∧
    (packRole s ≠ 0 → ¬ (packRole s = 1 ∧ s.pack.mgrLost = true) → Answers (.takeover src epoch mseq) s fun t =>
      packManager t = packManager s ∧ packRole t = packRole s ∧ SentLast t .takeoverRefuse src [] ∧ Calm s t ∧
        SameRings s t ∧ SameObjs s t) ∧
    (∀ e, packRole s = 2 → s.pack.claim = some e → e < 2 ^ 32 →
      (otherMembers s).length + 1 < 2 * (putRising src s.pack.accepts).length →
      Answers (.takeoverAccept src epoch mseq) s fun t =>
        packRole t = 3 ∧ packManager t = ownMember s ∧ packEpoch t = (if s.pack.lostX = none then e else add32 e 1) ∧
          t.pack.claim = none ∧ t.pack.mgrLost = false ∧
          (∀ o, (s.obj o).pack = true → (t.obj o).broken = true ∧ (t.obj o).cause = 2 ∧
            (t.obj o).breakerMember = ownMember s)) ∧
    (∀ e, packRole s = 2 → s.pack.claim = some e →
      2 * (putRising src s.pack.accepts).length ≤ (otherMembers s).length + 1 →
      Answers (.takeoverAccept src epoch mseq) s fun t =>
        packRole t = 2 ∧ t.pack.accepts = putRising src s.pack.accepts ∧ t.pack.claim = some e ∧ Calm s t ∧ SameRings s t) ∧
    (packRole s ≠ 0 → Answers (.takeoverRefuse src epoch mseq) s fun t =>
      SentLast t .mseqAck src [mseq, 0, 0, 0] ∧ t.pack.claim = s.pack.claim ∧ t.pack.accepts = s.pack.accepts ∧ Calm s t ∧
        SameRings s t)) ∧
  (∀ (s : State) (src epoch mseq : Nat), src < 1024 → packRole s = 0 →
    exec (.takeover src epoch mseq) s = .next s ∧ exec (.takeoverAccept src epoch mseq) s = .next s ∧
      exec (.takeoverRefuse src epoch mseq) s = .next s) ∧
  (∀ s : State, (s.pack.mgrLost = false ∨ s.hubUs - s.pack.claimUs < 1000) → exec .takeoverTimeout s = .next s) ∧
  (∀ s : State, (packRole s ≠ 3 ∨ s.pack.members.length + 1 <
      2 * (1 + (s.pack.members.filter fun p => !memberSilent s p.1).length)) → exec .managerStepDown s = .next s) ∧
  (∀ s : State, s.pack.mgrLost = true → 1000 ≤ s.hubUs - s.pack.claimUs → Answers .takeoverTimeout s fun t =>
    packRole t = 0 ∧ t.pack.mgrLost = false ∧ t.pack.claim = none ∧ OtherRegs s t [(0, packPage + 0x100)] ∧ Calm s t ∧
      SameRings s t ∧ SameObjs s t) ∧
  (∀ s : State, packRole s = 3 →
    2 * (1 + (s.pack.members.filter fun p => !memberSilent s p.1).length) ≤ s.pack.members.length + 1 →
    Answers .managerStepDown s fun t =>
      packRole t = 0 ∧ t.pack.members = [] ∧ OtherRegs s t [(0, packPage + 0x100)] ∧ Calm s t ∧ SameRings s t ∧
        SameObjs s t)

/-- JOIN_RETRY, JOIN and JOIN_REPLY (R271, R276, R277): an isolated device asks to join from its pack-join step on, every 10 ms; the
manager accepts it under a number with the next epoch, has it restore where it returns from an older epoch, or answers with a code;
the device takes its number, its role and the epoch from the reply. -/
def Sys2Proof.Claims.Joins : Prop :=
  (∀ s : State, (packRole s ≠ 0 ∨ (s.start.state ≠ 1 ∧ s.start.step ≠ 10) ∨ s.start.asserted = true ∨
    s.hubUs < periodStart s joinTimer) → exec .joinRetry s = .next s) ∧
  (∀ s : State, packRole s = 0 → (s.start.state = 1 ∨ s.start.step = 10) → s.start.asserted = false →
    periodStart s joinTimer ≤ s.hubUs → Answers .joinRetry s fun t =>
    SentLast t .join (Config.packManager % 1024) (joinArgs s) ∧ periodStart t joinTimer = s.hubUs + 10000 ∧ Counted s t 0 (secPage + 0x48) 1 ∧
      t.fld 0 (packPage + 0x128) 23 0 = (s.fld 0 (packPage + 0x128) 23 0 + 1) % 2 ^ 24 ∧ Calm s t ∧ SameRings s t) ∧
  (∀ (s : State) (src mseq serial devEpoch feed rack : Nat) (evidence version : Bool) (config : List Byte), src < 1024 →
    packRole s = 3 →
    let code := joinCode s serial devEpoch evidence version config
    let m := joinNumber s serial
    (code = 0 → Answers (.join src mseq serial devEpoch feed rack evidence version config) s fun t =>
      (∃ x, (m, x) ∈ t.pack.members ∧ x.serial = serial ∧ x.feed = feed % 16 ∧ (x.spare = true ↔ devEpoch = 0)) ∧
        (∃ args, SentLast t .joinReply m (0 :: m :: args)) ∧ packEpoch t = add32 (packEpoch s) 1 ∧
        Counted s t 0 (packPage + 0x40) 1 ∧ Calm s t ∧ SameRings s t ∧ SameObjs s t) ∧
    (code = 6 → Answers (.join src mseq serial devEpoch feed rack evidence version config) s fun t =>
      (∃ x, (m, x) ∈ t.pack.members ∧ x.serial = serial) ∧ (∃ k ∈ t.pack.out, k.kind = .joinReply ∧ k.dst = m) ∧
        t.pack.stopNo.isSome = true ∧ t.swatch.ordered = some (s.flash.swtLast, 0) ∧ Counted s t 0 (packPage + 0x40) 1) ∧
    (code ≠ 0 → code ≠ 6 → Answers (.join src mseq serial devEpoch feed rack evidence version config) s fun t =>
      SentLast t .joinReply src [code] ∧ t.pack.members = s.pack.members ∧ packEpoch t = packEpoch s ∧
        Counted s t 0 (packPage + 0x48) 1 ∧ Calm s t ∧ SameRings s t ∧ SameObjs s t)) ∧
  (∀ (s : State) (src epoch mseq code member standby partner : Nat) (coFed : Nat × RouteTable), src < 1024 → member < 1024 → packRole s = 0 →
    ((code = 0 ∨ code = 6) → Answers (.joinReply src epoch mseq code member standby partner coFed) s fun t =>
      ownMember t = member ∧ packRole t = (if standby = member then 2 else 1) ∧ packManager t = src ∧
        packEpoch t = epoch % 2 ^ 32 ∧ t.fld 0 (packPage + 0x128) 31 24 = code ∧ heardAt t src = s.hubUs ∧ Calm s t ∧
        SameRings s t) ∧
    (code ≠ 0 → code ≠ 6 → code < 256 → Answers (.joinReply src epoch mseq code member standby partner coFed) s fun t =>
      packRole t = 0 ∧ t.fld 0 (packPage + 0x128) 31 24 = code ∧ packEpoch t = packEpoch s ∧ Calm s t ∧ SameRings s t))

/-- Takeover by the standby, and joins. -/
def Obligations.TakeoversAndJoins : Prop :=
  Sys2Proof.Claims.Takeovers ∧ Sys2Proof.Claims.Joins

/-- ROUTE_TABLE and MSEQ_ACK (R165, R171, R279, R280): the manager's table replaces every route, and the manager sends every member the
routes that the links give; an acknowledged message is kept no longer, and an acknowledged SIGNAL or ARRIVE completes its entry with
the manager's result. That the manager is told the links by this row is the model's choice (log entry 11). -/
def Sys2Proof.Claims.RoutesAndAcks : Prop :=
  (∀ (s : State) (src epoch mseq : Nat) (routes : List (Nat × Nat × Nat)) (m : PackMap) (feeds : List (Nat × Nat)),
    src < 1024 → fromManager s src = true → newMessage s src epoch mseq →
    (∀ r ∈ routes, r.1 < 1024 ∧ r.2.1 < 64) → (routes.map (·.1)).Nodup →
    Answers (.routeTable src epoch mseq routes m feeds) s fun t =>
      (∀ r ∈ routes, routePort t r.1 = some r.2.1) ∧ (∀ d, d < 1024 → d ∉ routes.map (·.1) → routePort t d = none) ∧
        t.pack.feeds = feeds ∧ (∀ p, p < 64 → (t.fld 0 (portPage p + 0x104) 28 28 = 1 ↔ p ∈ m.upward)) ∧
        (∀ x, x ∈ t.pack.roster ↔ ∃ y ∈ m.members, y % 1024 = x) ∧
        packEpoch t = epoch % 2 ^ 32 ∧ Calm s t ∧ SameRings s t ∧ SameObjs s t) ∧
  (∀ (s : State) (epoch mseq : Nat) (routes : List (Nat × Nat × Nat)) (m : PackMap) (feeds : List (Nat × Nat)),
    packRole s = 3 → Answers (.routeTable (ownMember s) epoch mseq routes m feeds) s fun t =>
      t.pack.links = m.links ∧
        (m.links ≠ [] → ∀ x ∈ s.pack.members, ∃ k ∈ t.pack.out, k.kind = .routeTable ∧ k.dst = x.1 ∧
          k.args = tableArgs (tableOf m.links (ownMember s) (packMembers s) x.1)) ∧
        (m.links = [] → t.regs = s.regs) ∧ Calm s t ∧ SameRings s t ∧ SameObjs s t) ∧
  (∀ (s : State) (dst mseq status res0 res1 : Nat) (m : PackMsg), dst < 1024 →
    (s.pack.unacked.find? fun m => decide (m.dst = dst ∧ m.mseq = mseq)) = some m →
    (m.kind = .heartbeat → Answers (.mseqAck dst mseq status res0 res1) s fun t =>
      t.pack.unacked = s.pack.unacked.filter (fun k => !decide (k.dst = dst ∧ k.mseq = mseq)) ∧ t.regs = s.regs ∧ Calm s t ∧
        SameRings s t ∧ SameObjs s t) ∧
    (∀ o n r q f, m.kind = .signal → m.args = [1, o, n, r, q] → openFlight (s.ring r) q = some f →
      Answers (.mseqAck dst mseq status res0 res1) s fun t =>
        Done t r q (completionFor (s.ring r) f.bytes status (if status = 0 then res0 else 0) 0 0) ∧
          t.pack.unacked = s.pack.unacked.filter (fun k => !decide (k.dst = dst ∧ k.mseq = mseq)) ∧ Calm s t ∧
          OtherRings s t [r] ∧ SameObjs s t) ∧
    (∀ o g r q f, m.kind = .arrive → m.args = [2, o, g, r, q] → openFlight (s.ring r) q = some f →
      (status ≠ 0 → Answers (.mseqAck dst mseq status res0 res1) s fun t =>
        Done t r q (completionFor (s.ring r) f.bytes status 0 0 0) ∧ Calm s t ∧ OtherRings s t [r] ∧ SameObjs s t) ∧
      (status = 0 → arriveWaits f.bytes = false → Answers (.mseqAck dst mseq status res0 res1) s fun t =>
        Done t r q (completionFor (s.ring r) f.bytes 0 res0 res1 0) ∧ Calm s t ∧ OtherRings s t [r] ∧ SameObjs s t)))

/-- LOSS_SCALE_DECISION (R93, R94): the manager takes the counter as c0 for its pack's first step and sends s; after it, it lowers s on
an overflow and raises it after enough clean steps, within its bounds, and tells the pack; a member takes the received s and mirrors
the decision. Whether a write of HUB_LOSS_SCALE fell into a step is free, and the decision of such a step is undefined and not recorded
(log entry 94); that a member derives CLEAN from its own is the model's choice (log entry 95). -/
def Sys2Proof.Claims.LossScale : Prop :=
  (∀ (s : State) (src epoch mseq sh c1 : Nat) (ovf : Bool), src < 1024 → packRole s = 3 → src = ownMember s →
    let c := (s.obj (s.fld 0 (hubPage + 0x138) 15 0)).value
    (s.pack.lossC = none → Answers (.lossScaleDecision src epoch mseq sh c1 ovf) s fun t =>
      t.pack.lossC = some c ∧ t.regs = s.regs ∧
        (∀ m ∈ otherMembers s, ∃ k ∈ t.pack.out, k.kind = .lossScale ∧ k.dst = m ∧
          k.args = [s.fld 0 (hubPage + 0x130) 7 0, c, 0]) ∧ Calm s t ∧ SameRings s t ∧ SameObjs s t) ∧
    (∀ c0, s.pack.lossC = some c0 → (s.pack.lossTouched = false ∨ Config.freeNat s.freeCtr 0 % 2 ≠ 1) →
      Answers (.lossScaleDecision src epoch mseq sh c1 ovf) s fun t =>
        t.reg 0 (hubPage + 0x130) =
            (lossStep s (decide (c ≠ c0))).2 % 2 ^ 16 * 2 ^ 16 + (lossStep s (decide (c ≠ c0))).1 % 256 ∧
          t.pack.lossC = some (c % 2 ^ 32) ∧ t.pack.lossTouched = false ∧
          Counted s t 0 (hubPage + 0x140) (flag (decide (c ≠ c0))) ∧
          (∀ m ∈ otherMembers s, ∃ k ∈ t.pack.out, k.kind = .lossScale ∧ k.dst = m ∧
            k.args = [(lossStep s (decide (c ≠ c0))).1, c, flag (decide (c ≠ c0))]) ∧ Calm s t ∧ SameRings s t ∧
          SameObjs s t) ∧
    (s.pack.lossC.isSome = true → s.pack.lossTouched = true → Config.freeNat s.freeCtr 0 % 2 = 1 →
      Answers (.lossScaleDecision src epoch mseq sh c1 ovf) s fun t =>
        t.reg 0 (hubPage + 0x140) = s.reg 0 (hubPage + 0x140) ∧ t.pack.lossC = some (c % 2 ^ 32) ∧
          t.pack.lossTouched = false ∧ OtherRegs s t [(0, hubPage + 0x130)] ∧ Calm s t ∧ SameRings s t ∧ SameObjs s t)) ∧
  (∀ (s : State) (src epoch mseq sh c1 : Nat) (ovf : Bool), src < 1024 → fromManager s src = true →
    newMessage s src epoch mseq → Answers (.lossScaleDecision src epoch mseq sh c1 ovf) s fun t =>
      t.fld 0 (hubPage + 0x130) 7 0 = sh % 256 ∧ t.pack.lossC = some (c1 % 2 ^ 32) ∧
        (s.pack.lossC = none → t.fld 0 (hubPage + 0x130) 31 16 = s.fld 0 (hubPage + 0x130) 31 16 ∧
          t.reg 0 (hubPage + 0x140) = s.reg 0 (hubPage + 0x140)) ∧
        (s.pack.lossC.isSome = true → t.fld 0 (hubPage + 0x130) 31 16 = (lossStep s ovf).2 % 2 ^ 16 ∧
          Counted s t 0 (hubPage + 0x140) (flag ovf)) ∧
        OtherRegs s t [(0, packPage + 0x104), (0, hubPage + 0x130), (0, hubPage + 0x140)] ∧ Calm s t ∧ SameRings s t ∧
        SameObjs s t) ∧
  (∀ s : State,
    let sh := signed8 (bits (s.reg 0 (hubPage + 0x130)) 7 0)
    let cfg := s.reg 0 (hubPage + 0x134)
    (signed8 (lossStep s true).1 = max (sh - 1) (signed8 (bits cfg 23 16)) ∧ (lossStep s true).2 = 0) ∧
      (bits (s.reg 0 (hubPage + 0x130)) 31 16 + 1 = max 1 (bits cfg 15 0) →
        signed8 (lossStep s false).1 = min (sh + 1) (signed8 (bits cfg 31 24)) ∧ (lossStep s false).2 = 0))

/-- Routes, acknowledgements and the loss scale. -/
def Obligations.RoutesAcksAndLossScale : Prop :=
  Sys2Proof.Claims.RoutesAndAcks ∧ Sys2Proof.Claims.LossScale

/-- PEER_REQUEST and PEER_RESPONSE (R131, R155, R156, R268): a write of another member stands in this device's HBM and is
answered, a read is answered with the bytes, one that meets a failed sector with status 7; a response gives its request the
bytes, or ends one of its parts. The statuses of a refusal, 2 outside HBM and 3 behind a bridge taken down, are the model's
choice (log entries 61, 85). -/
def Obligations.PeerMemory : Prop :=
  (∀ (s : State) (src id cls addr len : Nat) (data : List Byte), src < 1024 → len ≤ 2048 →
    (addr + len ≤ 2 ^ 41 → hbmMeets s 4 addr len = true → data.length = len →
      (hbmStoreFails s addr len = false → Answers (.peerRequest src id (1, cls) addr len data) s fun t =>
        (∀ i, i < len → t.hbm.read (addr + i) = data.getD i 0) ∧ SameHbmBut s t [(addr, len)] ∧
          (∀ a, t.stage.read a = s.stage.read a) ∧ SentLast t .peerResponse src [id, 0] ∧ Aside s t ∧ SameRings s t) ∧
      (hbmStoreFails s addr len = true → Answers (.peerRequest src id (1, cls) addr len data) s fun t =>
        SameHbmBut s t [(addr, len)] ∧ (∀ a, t.stage.read a = s.stage.read a) ∧ SentLast t .peerResponse src [id, 7] ∧
          Aside s t ∧ SameRings s t)) ∧
    (addr + len ≤ 2 ^ 41 → hbmMeets s 4 addr len = true → Answers (.peerRequest src id (0, cls) addr len data) s fun t =>
      SentLast t .peerResponse src ([id, if hbmReadFails s addr len then 7 else 0] ++ (s.bytesAt 1 addr len).map BitVec.toNat) ∧
        Calm s t ∧ SameRings s t) ∧
    (∀ w, (2 ^ 41 < addr + len ∨ (w = 1 ∧ data.length ≠ len)) → Answers (.peerRequest src id (w, cls) addr len data) s fun t =>
      SentLast t .peerResponse src [id, 2] ∧ t.regs = s.regs ∧ Calm s t ∧ SameRings s t) ∧
    (∀ w, addr + len ≤ 2 ^ 41 → (w = 1 → data.length = len) → hbmMeets s 4 addr len = false →
      Answers (.peerRequest src id (w, cls) addr len data) s fun t =>
        SentLast t .peerResponse src [id, 3] ∧ t.regs = s.regs ∧ Calm s t ∧ SameRings s t)) ∧
  (∀ (s : State) (src n k part status : Nat) (data : List Byte), src < 1024 → n < 256 → k < 2 ^ 32 →
    Answers (.peerResponse src (1 + part * 2 ^ 40 + n * 2 ^ 32 + k) status data) s fun t =>
      (∀ d ∈ (s.rtv n).descs, descPeer d.bytes = src → ∀ q ∈ d.reqs, q.id = k →
        ∃ e ∈ (t.rtv n).descs, e.id = d.id ∧ e.bytes = d.bytes ∧ ∃ x ∈ e.reqs, x.id = k ∧
          (q.sent = false → q.data = none → x.data = some data ∧ (q.fail = 0 → x.fail = status)) ∧
          (∀ b, q.sent = true → (q.parts.find? fun p => p.1 == part) = some (part, b) →
            x.parts = q.parts.filter (fun p => !(p.1 == part)) ∧ (q.fail = 0 → x.fail = status) ∧
              x.wrote = q.wrote + if status = 0 then b else 0)) ∧
      OtherRtvs s t [n] ∧ t.regs = s.regs ∧ Calm s t ∧ SameRings s t)

/-! ## Stops -/

/-- PLK_STOP_REQ, STOP and STOP_MARKER start the wave (R283 to R286): every ring that is not OFF is held, and the stop's number
stands; a marker marks its port; the same stop again has no further effect. -/
def Obligations.StopsBegin : Prop :=
  (∀ (s : State) (rq : Nat), pfMayWrite s rq packPage = true → armed s rq packPage = true → packRole s = 3 →
    s.pack.stopNo = none →
    Answers (.plkStopReq rq) s fun t =>
      t.pack.stopNo = some ((stopNumber s + 1) % 2 ^ 16) ∧ stopState t = 1 ∧ stopNumber t = (stopNumber s + 1) % 2 ^ 16 ∧
        (∀ r, (s.ring r).mode ≠ .off → .packStop ∈ (t.ring r).holds) ∧ (∀ r, (s.ring r).mode = .off → t.ring r = s.ring r) ∧
        (∀ p ∈ s.pack.members, ∃ k ∈ t.pack.out, k.kind = .stop ∧ k.dst = p.1 ∧ k.args = [(stopNumber s + 1) % 2 ^ 16]) ∧
        t.sel rq (packPage + 0x28) = 0 ∧ SameObjs s t ∧ Calm s t) ∧
  (∀ (s : State) (src epoch mseq n : Nat), src < 1024 → n < 65536 → fromManager s src = true → newMessage s src epoch mseq →
    (s.pack.stopNo = none → Answers (.stop src epoch mseq n) s fun t =>
      t.pack.stopNo = some n ∧ stopState t = 1 ∧ stopNumber t = n ∧ packEpoch t = epoch % 2 ^ 32 ∧
        (∀ r, (s.ring r).mode ≠ .off → .packStop ∈ (t.ring r).holds) ∧ (∀ r, (s.ring r).mode = .off → t.ring r = s.ring r) ∧
        SameObjs s t ∧ Calm s t) ∧
    (s.pack.stopNo ≠ none → Answers (.stop src epoch mseq n) s fun t =>
      t.pack.stopNo = s.pack.stopNo ∧ SameRings s t ∧ SameObjs s t ∧ Calm s t)) ∧
  (∀ (s : State) (p n epoch src : Nat), p < 64 → n < 65536 → portIsUp s p = true →
    (s.pack.stopNo = none → n ≠ stopNumber s → Answers (.stopMarker p n epoch src) s fun t =>
      t.pack.stopNo = some n ∧ portMarked t p n = true ∧ (∀ r, (s.ring r).mode ≠ .off → .packStop ∈ (t.ring r).holds) ∧
        Counted s t 0 (portPage p + 0x48) 1 ∧ Calm s t) ∧
    (s.pack.stopNo = some n → Answers (.stopMarker p n epoch src) s fun t =>
      t.pack.stopNo = some n ∧ portMarked t p n = true ∧ SameRings s t ∧ Counted s t 0 (portPage p + 0x48) 1 ∧ Calm s t) ∧
    (∀ m, s.pack.stopNo = some m → m ≠ n → Answers (.stopMarker p n epoch src) s fun t =>
      t.pack.stopNo = some m ∧ (t.port p).held.length = (s.port p).held.length + 1 ∧ SameRings s t ∧
        Counted s t 0 (portPage p + 0x48) 1 ∧ Calm s t))

/-- QUIESCENT, CUT, STOP_LIMIT_EXPIRY, PLK_STOP_RESUME and RESUME (R284, R285, R298): a quiescent worker whose ports are all marked
reports its cut; the manager's stop completes when every member has; a stop that runs out fails, and RESUME frees the rings. -/
def Obligations.StopsEnd : Prop :=
  (∀ (s : State) (n : Nat), s.pack.stopNo = some n → quiescent s = true →
    (∀ p, p < 64 → portIsUp s p = true → portMarked s p n = true) → (∀ f ∈ s.pack.feeds, f.1 < 64) →
    (∀ p, p < 64 → (s.port p).replay.length < 256) → s.pack.cutSent = false → packRole s = 1 →
    Answers .quiescent s fun t =>
      t.pack.cutSent = true ∧ stopState t = 2 ∧ SentLast t .cut (packManager s) [n] ∧
        (∀ p, p < 64 → portIsUp s p = true → portSent s p n = false → portSent t p n = true) ∧ SameRings s t ∧ Calm s t) ∧
  (∀ (s : State) (src epoch mseq n : Nat), src < 1024 → packRole s = 3 → s.pack.stopNo = some n →
    newMessage s src epoch mseq → Answers (.cut src epoch mseq n) s fun t =>
      src ∈ t.pack.cuts ∧
        ((ownMember s :: s.pack.members.map Prod.fst).all (fun m => decide (m ∈ putRising src s.pack.cuts)) = true →
          stopState s = 1 → stopState t = 2 ∧ Counted s t 0 (packPage + 0x60) 1) ∧ SameRings s t ∧ SameObjs s t ∧ Calm s t) ∧
  (∀ (s : State) (n : Nat), s.pack.stopNo = some n → (∀ p, p < 64 → (s.port p).held = []) →
    (packRole s = 3 → stopState s = 1 → stopLimitUs s ≤ s.pack.stopUs → s.swatch.capS = none →
      Answers .stopLimitExpiry s fun t =>
        t.pack.stopNo = none ∧ stopState t = 3 ∧ (∀ r, .packStop ∉ (t.ring r).holds ∧ .restore ∉ (t.ring r).holds)) ∧
    (∀ rq, pfMayWrite s rq packPage = true → packRole s = 3 → Answers (.plkStopResume rq) s fun t =>
      t.pack.stopNo = none ∧ stopState t = (if stopState s = 3 then 3 else 0) ∧
        (∀ r, .packStop ∉ (t.ring r).holds ∧ .restore ∉ (t.ring r).holds) ∧
        (∀ p ∈ s.pack.members, ∃ k ∈ t.pack.out, k.kind = .resume ∧ k.dst = p.1 ∧ k.args = [n, 0])) ∧
    (∀ src epoch mseq last, src < 1024 → n < 65536 → fromManager s src = true → newMessage s src epoch mseq →
      Answers (.resume src epoch mseq n last) s fun t =>
        t.pack.stopNo = none ∧ (∀ r, .packStop ∉ (t.ring r).holds ∧ .restore ∉ (t.ring r).holds) ∧
          t.flash.swtLast = (if last = 0 then s.flash.swtLast else last) ∧ t.swatch.job = none))

/-! ## Swatches -/

/-- SWATCH_CAPTURE, SWATCH_INTERVAL_TIMER, SWATCH, SWATCH_COPY_DONE, SWATCH_DONE and SWATCH_CAP_LIMIT (R290 to R295): the
manager stops the pack and orders swatch S + 1; a member records itself into its slot, writes its signed manifest last and
reports; the last report makes S the last swatch, and a failure or the limit ends the capture with HUB_SWT_LAST as it stood. -/
def Obligations.SwatchCaptures : Prop :=
  (∀ (s : State) (i : Instr) (rq : Nat), packRole s = 3 → swtState s = 0 → s.swatch.capS = none → s.pack.stopNo = none →
    s.start.state = 1 →
    ((i = .swatchCapture rq ∧ pfMayWrite s rq hubPage = true ∧ armed s rq hubPage = true) ∨
      (i = .swatchIntervalTimer ∧ swtAuto s = true ∧ s.reg 0 (hubPage + 0x254) * 1000000 ≤ s.hubUs - s.swatch.lastUs)) →
    Answers i s fun t =>
      t.swatch.capS = some (s.flash.swtLast + 1) ∧ swtState t = 1 ∧ t.pack.stopNo = some ((stopNumber s + 1) % 2 ^ 16) ∧
        t.swatch.capStop = (stopNumber s + 1) % 2 ^ 16 ∧ t.flash = s.flash ∧ SameMemory s t) ∧
  (∀ (s : State) (src epoch mseq n sw bytes : Nat), src < 1024 → fromManager s src = true → newMessage s src epoch mseq →
    s.pack.stopNo = some n → s.pack.cutSent = true → s.swatch.job = none →
    (∀ ts x, localSlots s (swatchSize s bytes) = some ts → slotFor ts = some x →
      Answers (.swatch src epoch mseq n sw bytes) s fun t =>
        (∃ j, t.swatch.job = some j ∧ j.no = sw ∧ j.stopNo = n ∧ j.slot = x.base ∧ j.image.no = sw ∧
          j.image.member = ownMember s ∧ j.image.regions = (declaredRegions s).map (regionImage s)) ∧
          swtState t = 1 ∧ SameHbmBut s t [(x.base, x.size)] ∧ (∀ a, t.stage.read a = s.stage.read a) ∧ SameRings s t ∧
          SameObjs s t) ∧
    (localSlots s (swatchSize s bytes) = none → Answers (.swatch src epoch mseq n sw bytes) s fun t =>
      SentLast t .swatchDone (packManager s) [sw, 1] ∧ t.swatch.job = none ∧ Calm s t ∧ SameRings s t ∧ SameObjs s t)) ∧
  (∀ (s : State) (j : Capture), s.swatch.job = some j → (packRole s = 1 ∨ packRole s = 2) →
    (hostCopyWaits s = true → Answers (.swatchCopyDone 0) s fun t => t = s) ∧
    (hostCopyWaits s = false → Answers (.swatchCopyDone 0) s fun t =>
      (∀ x ∈ s.swatch.slots, x.base = j.slot → { x with image := some j.image } ∈ t.swatch.slots) ∧ t.swatch.job = none ∧
        SentLast t .swatchDone (packManager s) [j.no, 0] ∧ Counted s t 0 (secPage + 0x48) 1 ∧
        SameHbmBut s t [(j.slot, j.manifest.length)] ∧
        (hbmStoreFails s j.slot j.manifest.length = false → ∀ i, i < j.manifest.length →
          t.hbm.read (j.slot + i) = j.manifest.getD i 0) ∧
        (∀ a, t.stage.read a = s.stage.read a) ∧ Aside s t ∧ SameRings s t) ∧
    (∀ result, result ≠ 0 → Answers (.swatchCopyDone result) s fun t =>
      t.swatch.slots = s.swatch.slots ∧ t.swatch.job = none ∧ SentLast t .swatchDone (packManager s) [j.no, result] ∧
        Calm s t ∧ SameRings s t)) ∧
  (∀ (s : State) (src epoch mseq sw : Nat), src < 1024 → packRole s = 3 → newMessage s src epoch mseq →
    s.swatch.capS = some sw →
    let all := (ownMember s :: s.pack.members.map Prod.fst).all fun k => decide (k ∈ putRising src s.swatch.dones)
    (all = false → Answers (.swatchDone src epoch mseq sw 0) s fun t =>
      src ∈ t.swatch.dones ∧ t.swatch.capS = some sw ∧ t.flash = s.flash ∧ Calm s t ∧ SameRings s t) ∧
    (all = true → s.swatch.owed = false → Answers (.swatchDone src epoch mseq sw 0) s fun t =>
      t.flash.swtLast = sw ∧ t.swatch.capS = none ∧ Counted s t 0 (hubPage + 0x2B0) 1) ∧
    (∀ result, result ≠ 0 → Answers (.swatchDone src epoch mseq sw result) s fun t =>
      t.swatch.capS = none ∧ t.flash.swtLast = s.flash.swtLast ∧ Counted s t 0 (hubPage + 0x2B8) 1)) ∧
  (∀ (s : State) (sw u : Nat), s.swatch.capS = some sw → s.swatch.capStep2Us = some u →
    max 1 (s.fld 0 (hubPage + 0x250) 15 0) * 1000000 ≤ s.hubUs - u → Answers .swatchCapLimit s fun t =>
      t.swatch.capS = none ∧ t.flash.swtLast = s.flash.swtLast ∧ Counted s t 0 (hubPage + 0x2B8) 1)

/-- RESTORE, RESTORED, RESTORE_HOST, FILL and SWT_RATE_RESET (R295, R297 to R301): a worker with the ordered copy takes its rings and
objects from it, HELD until the pack resumes, and one without a copy reports that; a spare takes its number with the copy; the
manager falls back to the durable checkpoint. -/
def Obligations.SwatchRestores : Prop :=
  (∀ (s : State) (src epoch mseq sw : Nat) (img : SwatchImage), src < 1024 → fromManager s src = true →
    newMessage s src epoch mseq → localCopy s sw = some img → img.member = ownMember s → img.fw = s.sec.fw →
    (img.rings.map (·.1)).Nodup → Answers (.restore src epoch mseq sw 0 0 0 none) s fun t =>
      SentLast t .restored (packManager s) [sw, 0] ∧ Counted s t 0 (hubPage + 0x2C0) 1 ∧
        (∀ p ∈ img.rings, (t.ring p.1).holds = [.restore] ∧ (t.ring p.1).head = p.2.getD 10 0 ∧
          (t.ring p.1).tail = p.2.getD 11 0 ∧ (t.ring p.1).admState = 0) ∧
        (∀ r, r ∉ img.rings.map (·.1) → (t.ring r).mode = .off) ∧
        (∀ o, (t.obj o).value = (mget (img.objects.foldl (fun m p => mset m p.1 (objectOf p.2) SyncObj.zero) []) o
          SyncObj.zero).value) ∧ t.swatch.waits = true) ∧
  (∀ (s : State) (src epoch mseq sw check : Nat), src < 1024 → fromManager s src = true → newMessage s src epoch mseq →
    localCopy s sw = none → Answers (.restore src epoch mseq sw 0 check 0 none) s fun t =>
      SentLast t .restored (packManager s) [sw, 3] ∧ swtState t = 2 ∧ (∀ r, (t.ring r).mode = .off) ∧
        t.swatch.slots = s.swatch.slots) ∧
  (∀ (s : State) (src epoch mseq x sw p : Nat) (img : SwatchImage), src < 1024 → x < 1024 → p < 1025 →
    fromManager s src = true → newMessage s src epoch mseq → img.no = sw → img.member = x → img.fw = s.sec.fw →
    ∀ (c : Nat) (other : Option SwatchImage) (i : Instr),
      ((i = .fill src epoch mseq x sw p (0, c) (some img, other) ∧ p ≠ 1024) ∨
        (i = .fill src epoch mseq x sw p (c, 0) (other, some img) ∧ p = 1024)) → Answers i s fun t =>
      ownMember t = x ∧ SentLast t .restored (packManager s) [sw, 0] ∧ Counted s t 0 (hubPage + 0x2C0) 1 ∧
        t.swatch.waits = true) ∧
  (∀ s : State, ∀ r q, (s.ring r).req = some q → (r, s.ring r) ∈ s.rings →
    ((quietFabric s).ring r).req = none ∧ ((quietFabric s).ring r).mode = .off ∧
      ((quietFabric s).account q.no).abandoned = true) ∧
  (∀ (s : State) (src epoch mseq sw source : Nat), src < 1024 → packRole s = 3 → newMessage s src epoch mseq →
    s.swatch.ordered = some (sw, source) →
    let all := (ownMember s :: s.pack.members.map Prod.fst).all fun k => decide (k ∈ putRising src s.swatch.restoredBy)
    (all = false → Answers (.restored src epoch mseq sw 0) s fun t =>
      src ∈ t.swatch.restoredBy ∧ t.swatch.ordered = some (sw, source) ∧ SameRings s t ∧ SameMemory s t) ∧
    (all = true → s.swatch.fill = none → swtResult s ≠ 7 → (∀ q, q < 64 → (s.port q).held = []) →
      Answers (.restored src epoch mseq sw 0) s fun t =>
        t.swatch.ordered = none ∧ t.pack.stopNo = none ∧
          (∀ n, s.pack.stopNo = some n → ∀ r, .restore ∉ (t.ring r).holds))) ∧
  (∀ (s : State) (rq : Nat), pfMayWrite s rq hubPage = true →
    (armed s rq hubPage = true → packRole s = 3 → s.flash.swtDurable ≠ 0 → Answers (.restoreHost rq) s fun t =>
      t.swatch.ordered = some (s.flash.swtDurable, 2) ∧ t.swatch.fill = none ∧ Counted s t 0 (hubPage + 0x2D0) 1) ∧
    (armed s rq hubPage = true → packRole s = 3 → s.flash.swtDurable = 0 → Answers (.restoreHost rq) s fun t =>
      swtState t = 4 ∧ t.swatch.ordered = none) ∧
    (Answers (.swtRateReset rq) s fun t =>
      t.reg 0 (hubPage + 0x268) = 0 ∧ t.reg 0 (hubPage + 0x270) = 0 ∧ t.swatch.runUs = 0 ∧ swtAuto t = swtAuto s ∧
        Calm s t ∧ SameRings s t ∧ SameObjs s t))

/-- SWT_DURABLE_WRITE (R296): on the manager HUB_SWT_DURABLE takes the written number and keeps it in flash, over every reset
and start; on every other device it has no effect; while it is 0 there is no durable checkpoint to fall back to. -/
def Obligations.DurableCheckpoint : Prop :=
  (∀ (s : State) (rq v : Nat), pfMayWrite s rq hubPage = true →
    (packRole s = 3 → Answers (.swtDurableWrite rq v) s fun t =>
      t = { s with flash := { s.flash with swtDurable := v % 2 ^ 64 }, arbs := t.arbs }) ∧
    (packRole s ≠ 3 → Answers (.swtDurableWrite rq v) s fun t => t = { s with arbs := t.arbs })) ∧
  (∀ (s : State) (code sub : Nat), (assertReset s code sub).flash.swtDurable = s.flash.swtDurable) ∧
  (∀ (s t : State) (boot clk feed : Nat), exec (.resetEnd boot clk feed) s = .next t → t.flash.swtDurable = s.flash.swtDurable) ∧
  (∀ (s : State) (rq : Nat), pfMayWrite s rq hubPage = true → armed s rq hubPage = true → packRole s = 3 →
    s.flash.swtDurable = 0 →
    Answers (.restoreHost rq) s fun t => t.swatch.ordered = none ∧ swtState t = 4)

/-! ## The host -/

/-- DB_TAIL and DB_RELEASE (R311, R312, R316): a doorbell that names a ring of its function moves TAIL or releases result slots;
one that names no such ring, or no ring with result slots, or an update that does not apply, is refused and counted. -/
def Obligations.Doorbells : Prop :=
  ∀ (s : State) (f v r q : Nat), f < 16 → fnClaims s f = true → devReady s = true → (s.fn f).d3hot = false →
    (s.fn f).draining = false → r = bits v 15 0 → q = bits v 63 32 →
    let R := s.ring r
    let named := bits v 31 16 = 0 ∧ R.mode ≠ .off ∧ mayName s f r = true
    (named → R.kind ≠ 2 → sub32 q R.tail < 2 ^ 31 → sub32 q R.head ≤ R.slots → Answers (.dbTail f 0 8 v) s fun t =>
      (t.ring r).tail = q ∧ (t.ring r).head = R.head ∧ r ∈ t.pci.rung ∧ 0 ∈ t.pci.merging ∧
        Counted s t 0 (pciPage + 0x40) 1 ∧ OtherRings s t [r] ∧ SameObjs s t ∧
        OtherRegs s t [(0, pciPage + 0x40)] ∧ Calm s t) ∧
    (named → (R.kind = 2 ∨ 2 ^ 31 ≤ sub32 q R.tail ∨ R.slots < sub32 q R.head) → Answers (.dbTail f 0 8 v) s fun t =>
      SameRings s t ∧ ErrSet t (ringPage (dieOfRing r)) 31 ∧ Counted s t 0 (pciPage + 0x48) 1 ∧ SameObjs s t ∧ Calm s t) ∧
    (¬ named → ∀ i : Instr, (i = .dbTail f 0 8 v ∨ i = .dbRelease f 8 8 v) → Answers i s fun t =>
      SameRings s t ∧ Counted s t 0 (pciPage + 0x48) 1 ∧ OtherRegs s t [(0, pciPage + 0x48)] ∧ SameObjs s t ∧ Calm s t) ∧
    (named → (R.kind = 2 ∨ R.rsEn = false) → Answers (.dbRelease f 8 8 v) s fun t =>
      SameRings s t ∧ Counted s t 0 (pciPage + 0x48) 1 ∧ SameObjs s t ∧ Calm s t) ∧
    (named → R.kind ≠ 2 → R.rsEn = true → R.rsSpace = 0 → (s.fn R.part).draining = false →
      sub32 (q + 1) R.released ≠ 0 → sub32 (q + 1) R.released < 2 ^ 31 → sub32 R.head (q + 1) < 2 ^ 31 →
      Answers (.dbRelease f 8 8 v) s fun t =>
        (t.ring r).released = add32 q 1 ∧ Counted s t 0 (pciPage + 0x50) (sub32 (q + 1) R.released) ∧
          t.out = s.out ++ (span 0 (sub32 (q + 1) R.released)).map (fun i =>
            .hostWrite R.part (resultAddr R (add32 R.released i)) (freeHeader (sub32 R.head 1))) ∧
          OtherRings s t [r] ∧ SameObjs s t ∧ Calm s t) ∧
    (named → R.kind ≠ 2 → R.rsEn = true → sub32 (q + 1) R.released ≠ 0 → sub32 (q + 1) R.released < 2 ^ 31 →
      2 ^ 31 ≤ sub32 R.head (q + 1) → Answers (.dbRelease f 8 8 v) s fun t =>
        SameRings s t ∧ Counted s t 0 (pciPage + 0x48) 1 ∧ SameObjs s t ∧ Calm s t)

/-- APERTURE_WRITE, APERTURE_READ and RS_CFG_WRITE (R155, R156, R308, R310, R313, R324): an access through an enabled segment reaches
the HBM that its partition holds, a read that fails returns poisoned data, one that comes late is discarded and counted, and any
other is counted; a ring that is OFF takes its
result-slot configuration. What an access behind a bridge that has been taken down does is the model's choice (log entry 85). -/
def Obligations.ApertureAndSlots : Prop :=
  (∀ (s : State) (f off : Nat), f < 16 → fnClaims s f = true → s.start.state = 1 → (s.fn f).d3hot = false →
    (s.fn f).draining = false → aperSegment f off ≠ none →
    (∀ a bs, oneBlock off bs.length = true → aperAddr s f off bs.length = some a →
      (hbmMeets s 4 a bs.length = true → Answers (.apertureWrite f off bs) s fun t =>
        (hbmStoreFails s a bs.length = false → ∀ i, i < bs.length → t.hbm.read (a + i) = bs.getD i 0) ∧
          SameHbmBut s t [(a, bs.length)] ∧ (∀ x, t.stage.read x = s.stage.read x) ∧ Aside s t ∧ SameRings s t) ∧
      (hbmMeets s 4 a bs.length = false → exec (.apertureWrite f off bs) s = .next s)) ∧
    (∀ bs, oneBlock off bs.length = true → aperAddr s f off bs.length = none → Answers (.apertureWrite f off bs) s fun t =>
      Counted s t 0 (pciPage + 0x68) 1 ∧ Calm s t ∧ SameRings s t) ∧
    (∀ a n, oneBlock off n = true → aperAddr s f off n = some a →
      (hbmMeets s 4 a n = true → hbmReadFails s a n = false → Answers (.apertureRead f off n false) s fun t =>
        t.out = s.out ++ [.completion f (s.bytesAt 1 a n) false false] ∧ Calm s t ∧ SameRings s t) ∧
      (hbmMeets s 4 a n = true → hbmReadFails s a n = true → Answers (.apertureRead f off n false) s fun t =>
        t.out.getLast? = some (.completion f (List.replicate n 0xFF) true false) ∧ Calm s t ∧ SameRings s t) ∧
      (hbmMeets s 4 a n = true → Answers (.apertureRead f off n true) s fun t =>
        (hbmReadFails s a n = false → t.out = s.out) ∧ Counted s t 0 (pciPage + 0x70) 1 ∧ Calm s t ∧ SameRings s t) ∧
      (hbmMeets s 4 a n = false → ∀ late, Answers (.apertureRead f off n late) s fun t =>
        t.out = s.out ++ [.completion f (List.replicate n 0xFF) true false] ∧ t.regs = s.regs ∧ Calm s t ∧ SameRings s t)) ∧
    (∀ n late, oneBlock off n = true → aperAddr s f off n = none → Answers (.apertureRead f off n late) s fun t =>
      t.out = s.out ++ [.completion f (List.replicate n 0xFF) false true] ∧ Counted s t 0 (pciPage + 0x68) 1 ∧ Calm s t)) ∧
  (∀ (s : State) (rq v r : Nat), mayWrite s rq (keyPage rq pciPage) = true → r = s.sel rq (keyPage rq pciPage + 0x130) →
    r < 65536 → (isVf rq = true → (s.ring r).part = rq) →
    ((s.ring r).mode = .off → Answers (.rsCfgWrite rq v) s fun t =>
      t.ring r = { s.ring r with rsEn := bit v 31, rsSpace := bits v 30 30, rsVector := bits v 10 0 } ∧
        OtherRings s t [r] ∧ SameObjs s t ∧ Calm s t) ∧
    ((s.ring r).mode = .on → Answers (.rsCfgWrite rq v) s fun t =>
      SameRings s t ∧ ErrSet t (keyPage rq pciPage) 31 ∧ SameObjs s t ∧ Calm s t))

/-- FUNCTION_LEVEL_RESET, FLR_DRAIN_DONE, D3HOT_ENTRY, D0_ENTRY, CONFIGURATION_REQUEST and UNEXPECTED_COMPLETION (R305, R307, R317,
R320 to R322, R325, R333, R382): a function that is reset drains, its rings stop, its objects break and its selectors return to their
reset values; once nothing is in flight its rings are OFF; D3hot holds its rings, and D0 posts what they held; configuration writes set
what they name. -/
def Obligations.Functions : Prop :=
  (∀ (s : State) (f : Nat), f < 16 → configOpen s = true → fnPresent s f = true → Answers (.functionLevelReset f) s fun t =>
    (t.fn f).draining = true ∧ (t.fn f).d3hot = false ∧ (t.fn f).msixEn = false ∧ Counted s t 0 (pciPage + 0x78) 1 ∧
      (f = 0 → t.pci.vfEnable = false) ∧ (∀ a, a < 2 ^ 32 → t.sel f a = resetValue 0 a % 2 ^ 64) ∧
      (∀ r, (s.ring r).part = f → (s.ring r).kind = 1 → (t.ring r).mode ≠ .on) ∧
      (∀ o, (s.obj o).kind ≠ 0 → (s.obj o).part = f → (s.obj o).pack = false → (t.obj o).broken = true)) ∧
  (∀ (s : State) (f : Nat), f < 16 → (s.fn f).draining = true → holdsWedge s f = false →
    (∀ r, (s.ring r).part = f → (s.ring r).inFlight = 0) →
    Answers (.flrDrainDone f) s fun t =>
      (t.fn f).draining = false ∧ (∀ r, (s.ring r).part = f → (t.ring r).mode = .off) ∧
        (∀ r, (s.ring r).part ≠ f → t.ring r = s.ring r) ∧ SameObjs s t ∧ Calm s t) ∧
  (∀ (s : State) (f : Nat), f < 16 →
    (configOpen s = true → fnPresent s f = true → (s.fn f).d3hot = false → (s.fn f).draining = false →
      Answers (.d3hotEntry f) s fun t =>
        (t.fn f).d3hot = true ∧ (∀ r, (s.ring r).mode ≠ .off → (s.ring r).part = f → .d3hot ∈ (t.ring r).holds) ∧
          (∀ r, (s.ring r).part ≠ f → t.ring r = s.ring r) ∧ t.regs = s.regs ∧ SameObjs s t ∧ Calm s t) ∧
    ((s.fn f).d3hot = true → Answers (.d0Entry f) s fun t =>
      (t.fn f).d3hot = false ∧ (∀ r, (s.ring r).mode ≠ .off → (s.ring r).part = f → .d3hot ∉ (t.ring r).holds) ∧
        (∀ r e rest, (s.ring r).part = f → (s.ring r).mode ≠ .off → (s.ring r).rsEn = true → (s.ring r).rsSpace = 0 →
          (s.ring r).fly = e :: rest → e.isDone = true → sub32 (s.ring r).head (s.ring r).released < (s.ring r).slots →
          (t.ring r).fly.length < (s.ring r).fly.length) ∧
        ((∀ r e, e ∈ (s.ring r).fly → e.isDone = false) → t.regs = s.regs) ∧
        (∀ r, (s.ring r).part ≠ f → t.ring r = s.ring r) ∧ SameObjs s t ∧ Calm s t) ∧
    (configOpen s = true → fnPresent s f = true → Answers (.unexpectedCompletion f) s fun t =>
      t.fn f = { s.fn f with aerUnexpected := true } ∧ t.regs = s.regs ∧ SameRings s t ∧ SameObjs s t ∧ Calm s t)) ∧
  (∀ (s : State) (f v : Nat), f < 16 → s.start.asserted = false →
    (∀ fld, configOpen s = false → Answers (.configurationRequest f fld v) s fun t =>
      t = { s with out := s.out ++ [.retryStatus f] }) ∧
    (configOpen s = true → f = 0 → (s.fn 0).draining = false → Answers (.configurationRequest f 0 v) s fun t =>
      t.fn 0 = { s.fn 0 with memSpace := decide (v % 2 = 1) } ∧ t.pci.vfEnable = s.pci.vfEnable ∧ SameRings s t ∧ Calm s t) ∧
    (configOpen s = true → f = 0 → (s.fn 0).draining = false → (v % 2 = 0 ∨ s.start.state ≠ 2) →
      Answers (.configurationRequest f 1 v) s fun t =>
        t = { s with pci := { s.pci with vfEnable := decide (v % 2 = 1) } }) ∧
    (configOpen s = true → f = 0 → (s.fn 0).draining = false → Answers (.configurationRequest f 5 v) s fun t =>
      t = { s with pci := { s.pci with mps := if v ≤ 2 then v else s.pci.mps } }) ∧
    (configOpen s = true → fnPresent s f = true → (s.fn f).draining = false → Answers (.configurationRequest f 3 v) s fun t =>
      (t.fn f).msixEn = decide (v % 2 = 1) ∧ (t.fn f).fnMask = (s.fn f).fnMask ∧ t.regs = s.regs ∧ SameRings s t ∧ Calm s t))

/-! ## Keys and firmware -/

/-- GET_CERTS, GET_EVIDENCE, SET_UNLOCK, DOE_ABORT, DOE_DISCOVERY and SEC_LOCK (R352 to R356): after step 3 each request leaves its
response in the mailbox; a good token is stored, any other is counted and refused, and LOCK erases the stored one. That a request is
answered REFUSED before (log entry 103) is the model's choice, and the discovery answer is presumed from the DOE protocol (log entry
7). -/
def Obligations.Mailbox : Prop :=
  (∀ s : State, keysReady s = true →
    (Answers (.getCerts []) s fun t =>
      t = { s with sec := { s.sec with doe := some (leBytes 4 0 ++ certificates s) } }) ∧
    (∀ b, b ≠ [] → Answers (.getCerts b) s fun t => t = { s with sec := { s.sec with doe := some (leBytes 4 1) } }) ∧
    (∀ b, b.length = 32 → Answers (.getEvidence b) s fun t =>
      t.sec = { s.sec with doe := some (leBytes 4 0 ++ signedEvidence s b) } ∧ Counted s t 0 (secPage + 0x48) 1 ∧
        Counted s t 0 (secPage + 0x40) 1 ∧ t.flash = s.flash ∧ SameRings s t ∧ SameMemory s t) ∧
    (∀ b, b.length = 7251 → Answers (.setUnlock b) s fun t =>
      (if tokenGood s b = true then
        t.flash = { s.flash with token := some ⟨field (b.take 32) 1 1, field (b.take 32) 2 2, field (b.take 32) 0x10 8⟩ } ∧
          t.sec.doe = some (leBytes 4 0) ∧ t.regs = s.regs
      else t.flash = s.flash ∧ t.sec.doe = some (leBytes 4 2) ∧ Counted s t 0 (secPage + 0x58) 1) ∧ SameRings s t ∧
        SameMemory s t) ∧
    (∀ b, Answers (.doeDiscovery b) s fun t =>
      t = { s with sec := { s.sec with doe := (doDiscovery s b).sec.doe } } ∧ t.sec.doe.isSome = true)) ∧
  (∀ (s : State) (b : List Byte), keysReady s = false → s.start.asserted = false → s.start.state = 0 → 2 ≤ s.start.step →
    ∀ i : Instr, (i = .getCerts b ∨ i = .getEvidence b ∨ i = .setUnlock b) → Answers i s fun t =>
      t = { s with sec := { s.sec with doe := some (leBytes 4 2) } }) ∧
  (∀ s : State, Answers .doeAbort s fun t => t = { s with sec := { s.sec with doe := none } }) ∧
  (∀ (s : State) (rq : Nat), pfMayWrite s rq secPage = true → Answers (.secLock rq) s fun t =>
    t = { s with flash := { s.flash with token := none }, arbs := t.arbs })

/-- SVN_COMMIT (R351): the fuses rise to the running SVN, to at most the 63 that SVN_FUSE can show (the model's cap), and never
fall again, whatever the command; an image of a lower SVN never passes, and fails check 4
where it passes those before. -/
def Obligations.SvnCommits : Prop :=
  (∀ (s : State) (rq : Nat), pfMayWrite s rq secPage = true →
    (armed s rq secPage = true → s.flash.svnFuse ≤ s.sec.svn → s.sec.svn ≤ 63 → Answers (.svnCommit rq) s fun t =>
      t.flash = { s.flash with svnFuse := s.sec.svn } ∧ t.sec = s.sec ∧ SameRings s t ∧ SameMemory s t) ∧
    (armed s rq secPage = false → Answers (.svnCommit rq) s fun t =>
      t.flash = s.flash ∧ ErrSet t secPage 30 ∧ SameRings s t ∧ SameMemory s t)) ∧
  (∀ (i : Instr) (s t : State), exec i s = .next t → s.flash.svnFuse ≤ t.flash.svnFuse) ∧
  (∀ (s : State) (img : List Byte), imageSvn img < s.flash.svnFuse →
    imageCheck s img = if imageForm img = false then 1
      else if Machine.hash (imageKey img) ≠ fit 64 Config.fwRoot then 2
      else if imageSigned img = false then 3 else 4)

/-! ## Reset and start -/

/-- The commands that assert a full reset (R325 to R330, R342, R394, R395): everything but flash takes its reset value, and
RST_CAUSE records the source, with its SUB; an ordered reset waits 100 µs. That the management core's watchdog cannot expire before
one period since reset is the model's choice (log entry 67). -/
def Obligations.ResetSources : Prop :=
  (∀ (s : State) (i : Instr) (code sub : Nat), s.start.asserted = false → s.start.state ≠ 0 → s.start.pwrOk = true →
    ((i = .powerDown ∧ code = 1 ∧ sub = 0) ∨ (i = .perstAssert ∧ s.start.perst = false ∧ code = 2 ∧ sub = 0) ∨
      (i = .hotReset ∧ code = 3 ∧ sub = 0) ∨ (i = .linkDown ∧ code = 4 ∧ sub = 0) ∨
      (∃ rq, i = .deviceReset rq ∧ pfMayWrite s rq rstPage = true ∧ armed s rq rstPage = true ∧ code = 5 ∧ sub = resetSub rq) ∨
      (i = .mgmtWatchdogExpiry ∧ mgmtPeriod s ≤ s.hubUs ∧ code = 6 ∧ sub = 0)) → Answers i s fun t =>
        t.start.asserted = true ∧ t.reg 0 (rstPage + 0x104) = sub * 2 ^ 16 + code ∧ t.flash = s.flash ∧
          (∀ r, t.ring r = Ring.zero) ∧ (∀ o, t.obj o = SyncObj.zero) ∧ t.monitor = Monitor.zero ∧ t.sec = Security.zero ∧
          t.pending = s.pending) ∧
  (∀ s : State, (s.start.asserted = true ∨ s.hubUs < mgmtPeriod s) → exec .mgmtWatchdogExpiry s = .next s) ∧
  (∀ s : State, s.start.pwrOk = false → Answers .powerOn s fun t =>
    t.start.asserted = true ∧ t.start.pwrOk = true ∧ t.start.holdUs = 1000 ∧ t.reg 0 (rstPage + 0x104) = 1 ∧
      t.flash = s.flash ∧ (∀ r, t.ring r = Ring.zero)) ∧
  (∀ s : State, Answers .perstDeassert s fun t => t = { s with start := { s.start with perst := false } }) ∧
  (∀ (s : State) (serial epoch : Nat) (good : Bool), s.start.asserted = false →
    (good = true → serial = serialOf s → epoch = packEpoch s → s.start.due = none →
      Answers (.managerReset serial epoch good) s fun t =>
        t.start = { s.start with due := some (100, 7, 0) } ∧ (hostHears s = true → t.out.getLast? = some (.msix 0 0)) ∧
          SameRings s t ∧ SameMemory s t) ∧
    ((good = false ∨ serial ≠ serialOf s ∨ epoch ≠ packEpoch s) → Answers (.managerReset serial epoch good) s fun t =>
      t.start = s.start ∧ Counted s t 0 (rstPage + 0x78) 1 ∧ SameRings s t ∧ Calm s t)) ∧
  (∀ (s : State) (boot clk feed : Nat), s.start.asserted = true → s.start.holdUs = 0 → s.start.pwrOk = true →
    s.start.perst = false → s.start.trip = false → s.fld 0 (rstPage + 0x104) 3 0 ≠ 6 → (stepRec s 1).fails < 3 →
    Answers (.resetEnd boot clk feed) s fun t =>
      t.start.asserted = false ∧ t.start.step = 1 ∧ t.start.state = 0 ∧ t.hubUs = 0 ∧
        t.flash.startNo = s.flash.startNo + 1 ∧ bootSrc t = boot % 4 ∧ clkMode t = clk % 4 ∧
        t.fld 0 (packPage + 0x10C) 3 0 = feed % 16 ∧ SameRings s t ∧ SameMemory s t)

/-- START_STEP, START_STEP_TIMEOUT and RELEASE_WAVE_DONE (R17, R61, R144, R256, R331, R332, R338 to R341, R349, R350): a step that
succeeds makes the next one begin; one that fails, by its report or by what it found, or runs out of its time, resets the device with
cause 6, and its third failure enters safe mode; step 2 takes an image that passes every check; step 7 darns as R61 says; after step
10 the ledger closes its start block and window 0 begins. That a step's findings are the command's operands is the model's choice (log
entry 87). -/
def Obligations.StartSteps : Prop :=
  (∀ (s : State) (region : Nat), region < 13 → region ∈ stepRegions s.start.step → s.start.asserted = false →
    Answers (.releaseWaveDone region) s fun t =>
      t.start = { s.start with released := putRising region s.start.released } ∧ t.regs = s.regs ∧ SameRings s t ∧
        SameMemory s t) ∧
  (∀ (s : State) (result detail ms : Nat) (image : List Byte) (facts : List Finding) (k : Nat), s.start.step = k →
    s.start.asserted = false → s.start.state ≠ 2 →
    (3 ≤ k → k ≤ 9 → stepFaults s k facts = 0 → (∀ g ∈ stepRegions k, g ∈ s.start.released) → (stepRec s (k + 1)).fails < 3 →
      Answers (.startStep true result detail ms image facts) s fun t =>
        t.start.step = k + 1 ∧ t.start.asserted = false ∧ t.start.state = (if k = 8 then 1 else s.start.state) ∧
          (stepRec t k).fails = 0 ∧ (stepRec t k).result = result ∧ t.flash.startNo = s.flash.startNo ∧ SameRings s t ∧
          SameMemory s t) ∧
    (k = 10 → s.ledger.closed.length < 2 → Answers (.startStep true result detail ms image facts) s fun t =>
      t.start.step = 0 ∧ (∃ b, t.ledger.closed = s.ledger.closed ++ [b] ∧ b.close = 4 ∧ b.receipts = [] ∧
        b.firstReceipt = s.flash.receiptNext) ∧ t.ledger.est = [] ∧ t.ledger.samples = [] ∧
        periodStart t ledgerTimer = s.hubUs ∧ SameRings s t ∧ SameMemory s t) ∧
    (1 ≤ k → k ≤ 8 → stepFaults s k facts ≠ 0 → (stepRec s k).fails < 2 →
      Answers (.startStep true result detail ms image facts) s fun t =>
        t.start.asserted = true ∧ t.reg 0 (rstPage + 0x104) = 2 ^ 16 + 6 ∧ (stepRec t k).fails = (stepRec s k).fails + 1) ∧
    (1 ≤ k → k ≤ 8 → (stepRec s k).fails < 2 → Answers (.startStep false result detail ms image facts) s fun t =>
      t.start.asserted = true ∧ t.reg 0 (rstPage + 0x104) = 2 ^ 16 + 6 ∧ (stepRec t k).fails = (stepRec s k).fails + 1) ∧
    (1 ≤ k → k ≤ 8 → (stepRec s k).fails = 2 → Answers (.startStep false result detail ms image facts) s fun t =>
      t.start.asserted = false ∧ t.start.state = 2 ∧ t.start.step = k ∧ (stepRec t k).fails = 3 ∧
        t.flash.cntSafe = s.flash.cntSafe + 1 ∧ SameRings s t ∧ SameMemory s t) ∧
    (k = 2 → bootSrc s = 0 → (stepRec s 3).fails < 3 → (stepRec s 2).fails < 2 →
      Answers (.startStep true result detail ms image facts) s fun t =>
        if imageCheck s image = 0 then
          t.start.step = 3 ∧ t.sec.fw = Machine.hash (imagePayload image) ∧ t.sec.version = imageVersion image ∧
            t.sec.svn = imageSvn image ∧ t.flash.cntFwRefused = s.flash.cntFwRefused
        else t.start.asserted = true ∧ t.flash.cntFwRefused = s.flash.cntFwRefused + 1 ∧
          (stepRec t 2).result = imageCheck s image) ∧
    (1 ≤ k → k ≤ 8 → (stepRec s k).fails < 2 → stepLimit s k ≤ s.hubUs - s.start.stepUs →
      Answers .startStepTimeout s fun t =>
        t.start.asserted = true ∧ t.reg 0 (rstPage + 0x104) = 2 ^ 16 + 6 ∧ (stepRec t k).fails = (stepRec s k).fails + 1)) ∧
  (∀ (s : State) (fs : List Finding) (n b : Nat), n < 8 → b < 32 →
    ((faultyBands s fs n (17 * b + 16)) ≠ [] → (darnBand s fs n b).1 = none) ∧
    ((∀ i, i < 16 → faultyBands s fs n (17 * b + i) = []) → (darnBand s fs n b).1 = none ∧ (darnBand s fs n b).2 = 0) ∧
    (∀ f, (darnBand s fs n b).1 = some f → f < 16 ∧ faultyBands s fs n (17 * b + f) ≠ [] ∧
      ∀ i, i < 16 → (faultyBands s fs n (17 * b + i)).length ≤ (faultyBands s fs n (17 * b + f)).length ∧
        ((faultyBands s fs n (17 * b + i)).length = (faultyBands s fs n (17 * b + f)).length → f ≤ i)) ∧
    (∀ j, j < 16 → (bit (darnBand s fs n b).2 j = true ↔
      ∃ i, i < 16 ∧ (darnBand s fs n b).1 ≠ some i ∧ j ∈ faultyBands s fs n (17 * b + i))))

/-- LOAD_DONE, CLEAR_STEPS, BLOCK_RESET and BLOCK_RESET_DONE (R335 to R337, R339, R341, R343): they answer before start has ended; a
block reset isolates its block and ends with its count; a refused one is counted with ERR_STAT.STATE. -/
def Obligations.ResetPageWrites : Prop :=
  (∀ (s : State) (rq : Nat), earlyWrite s rq rstPage = true →
    (s.start.state ≠ 2 → Answers (.loadDone rq) s fun t =>
      t = { s with start := { s.start with loadDone := true }, arbs := t.arbs }) ∧
    (armed s rq rstPage = true → s.start.state = 0 → Answers (.clearSteps rq) s fun t =>
      t.flash = { s.flash with clearDue := true } ∧ t.regs = s.regs ∧ t.start = s.start ∧ SameRings s t ∧ SameMemory s t) ∧
    (armed s rq rstPage = true → s.start.state ≠ 0 → Answers (.clearSteps rq) s fun t =>
      (∀ k, (stepRec t k).fails = 0 ∧ (stepRec t k).level = 0 ∧ (stepRec t k).result = (stepRec s k).result) ∧
        t.start = s.start ∧ SameRings s t ∧ SameMemory s t) ∧
    (∀ type inst, type < 4 → inst < 128 → armed s rq rstPage = true → s.start.block = none →
      blockRefused s type inst = false → Answers (.blockReset rq type inst) s fun t =>
        t.start.block = some (type, inst) ∧ t.fld 0 (rstPage + 0x120) 30 28 = 3 ∧ t.sel rq (rstPage + 0x28) = 0) ∧
    (∀ type inst, type < 4 → inst < 128 → armed s rq rstPage = true →
      (s.start.block ≠ none ∨ blockRefused s type inst = true) → Answers (.blockReset rq type inst) s fun t =>
        t.start.block = s.start.block ∧ Counted s t 0 (rstPage + 0x70) 1 ∧ ErrSet t rstPage 31 ∧
          (s.start.block = none → t.fld 0 (rstPage + 0x120) 30 28 = 5) ∧ SameRings s t ∧ SameObjs s t ∧ Calm s t)) ∧
  (∀ (s : State) (type inst : Nat), s.start.block = some (type, inst) → type < 4 → blockAtRest s type inst = true →
    Answers .blockResetDone s fun t =>
      t.start = { s.start with block := none } ∧ t.fld 0 (rstPage + 0x120) 30 28 = 0 ∧
        (type = 1 → inst ∉ t.stackSet.selfRefresh ∧ inst ∉ t.power.stopped) ∧
        Counted s t 0 (rstPage + 0x50 + 8 * type) 1 ∧ SameRings s t ∧ SameObjs s t ∧ SameMemory s t)

/-! ## The monitor, trace and SMBus -/

/-- The monitor's commands (R366 to R371): each answers with its items and OK, or with the error of its rule; poke and reset act
only where they are unlocked. -/
def Obligations.MonitorCommands : Prop :=
  ∀ s : State, s.start.asserted = false →
    Says s .monHelp [.help, MonItem.ok] ∧
    Says s .monStatus ([monWords s (rstPage + 0x10C) 1, monWords s (rstPage + 0x104) 1, monWords s (secPage + 0x100) 1,
      [MonItem.word64 (monRead64 s (secPage + 0x110))], monWords s (secPage + 0x108) 1, [MonItem.ok]].flatten) ∧
    (∀ a n, 1 ≤ n → n ≤ 64 → a % 4 = 0 → a + 4 * n ≤ 2 ^ 26 → Says s (.monPeek a n) (monWords s a n ++ [MonItem.ok])) ∧
    (∀ a n, (n = 0 ∨ 64 < n) → Says s (.monPeek a n) [MonItem.err 1]) ∧
    (∀ a, a % 8 = 0 → a + 8 ≤ 2 ^ 26 → Says s (.monPeek64 a) [MonItem.word64 (monRead64 s a), MonItem.ok]) ∧
    (∀ a, a % 8 ≠ 0 → Says s (.monPeek64 a) [MonItem.err 3]) ∧
    (∀ a v, v < 2 ^ 32 → monUnlocked s 0 = true → regionOf a ≠ 1 → a % 4 = 0 → a + 4 ≤ 2 ^ 26 →
      Answers (.monPoke a v) s fun t =>
        t.monitor.uart = (regWrite s monitorRq a 4 v).monitor.uart ++ [MonItem.ok] ∧
          Counted (regWrite s monitorRq a 4 v) t 0 (monPage + 0x58) 1 ∧ SameRings (regWrite s monitorRq a 4 v) t ∧
          SameMemory (regWrite s monitorRq a 4 v) t) ∧
    (∀ a v, v < 2 ^ 32 → monUnlocked s 0 = false → Says s (.monPoke a v) [MonItem.err 2]) ∧
    (∀ page, page % 4096 = 0 → page < 2 ^ 26 → Says s (.monDump page) (monWords s page 1024 ++ [MonItem.ok]) ∧
      Says s (.monCounters page) ((span 0 8).map (fun i => MonItem.decimal (monRead64 s (page + 0x40 + 8 * i))) ++ [MonItem.ok])) ∧
    (∀ n, 1 ≤ n → n ≤ 256 → Says s (.monJournal n)
      ((s.flash.journal.drop (s.flash.journal.length - n)).map (fun r => MonItem.journal (journalBytes r)) ++ [MonItem.ok])) ∧
    (Answers .monLedger s fun t => ∃ items, items.length = 13 ∧ t.monitor.uart = s.monitor.uart ++ items ++ [MonItem.ok] ∧
      Counted s t 0 (monPage + 0x40) 1 ∧ SameRings s t ∧ Calm s t) ∧
    (monUnlocked s 1 = true → s.start.state ≠ 0 → Answers .monReset s fun t =>
      t.start.asserted = true ∧ t.reg 0 (rstPage + 0x104) = 2 * 2 ^ 16 + 5 ∧ t.flash = s.flash) ∧
    (monUnlocked s 1 = false → Says s .monReset [MonItem.err 2]) ∧
    (∀ rate ∈ baudRates, Answers (.monBaud rate) s fun t =>
      t.monitor = { s.monitor with baud := rate, uart := s.monitor.uart ++ [MonItem.ok] } ∧ Counted s t 0 (monPage + 0x40) 1 ∧
        Calm s t) ∧
    (∀ n data, loadPossible s = true → 8192 ≤ n → n ≤ 16777216 → data.length = n →
      Answers (.monLoad n data) s fun t =>
        t.monitor.uart = s.monitor.uart ++
            (if imageCheck s data = 0 then [MonItem.ready, MonItem.ok] else [MonItem.ready, MonItem.err 6, MonItem.result (imageCheck s data)]) ∧
          t.start.loadDone = true ∧
          (∀ i, i < n → loadByte t i = data.getD i 0) ∧ SameRings s t ∧ SameMemory s t) ∧
    (Answers .monRxOverrun s fun t =>
      t.monitor.uart = s.monitor.uart ++ [MonItem.err 5] ∧ Counted s t 0 (monPage + 0x48) 1 ∧ Counted s t 0 (monPage + 0x50) 1 ∧
        SameRings s t ∧ Calm s t) ∧
    Says s .unknownCommand [.err 1]

/-- TRACE_RECORD, TRACE_WRITE, MON_TRC_TRIGGER, MON_TRC_ENABLE and MON_FILT_CLEAR (R361 to R365, R371, R372): a record is held with
its time, or is lost and counted; held records are written at PUT, after a GAP for those lost. -/
def Sys2Proof.Claims.Trace : Prop :=
  (∀ (s : State) (i ns : Nat) (r : TraceRec), s.monitor.fly[i]? = some r →
    (∀ x ∈ s.monitor.fly.take i, x.source ≠ r.source) → traceTakes s = true →
    (s.monitor.held.length < 256 → Answers (.traceRecord i ns false) s fun t =>
      t.monitor.held = s.monitor.held ++ [{ r with time := s.hubUs * 1000 + ns % 1000 }] ∧
        t.monitor.fly = s.monitor.fly.take i ++ s.monitor.fly.drop (i + 1) ∧ t.regs = s.regs ∧ SameRings s t ∧ Calm s t) ∧
    (256 ≤ s.monitor.held.length → Answers (.traceRecord i ns false) s fun t =>
      t.monitor.held = s.monitor.held ∧ t.monitor.lost = s.monitor.lost + 1 ∧ Counted s t 0 (monPage + 0x68) 1 ∧
        SameRings s t ∧ Calm s t) ∧
    (4 ≤ crossHeld s 2 → Answers (.traceRecord i ns true) s fun t =>
      t.monitor.held = s.monitor.held ∧ t.monitor.lost = s.monitor.lost + 1 ∧ Counted s t 0 (hubPage + 0x188) 1 ∧
        SameRings s t ∧ Calm s t)) ∧
  (∀ s : State, bit (s.reg 0 (monPage + 0x140)) 31 = true → traceRoom s = true →
    let put := s.reg 0 (monPage + 0x150)
    let a := s.reg 0 (monPage + 0x148) + 32 * (put % 2 ^ bits (s.reg 0 (monPage + 0x140)) 26 21)
    (∀ r rest, s.monitor.lost = 0 → s.monitor.held = r :: rest → Answers .traceWrite s fun t =>
      t.monitor.held = rest ∧ t.reg 0 (monPage + 0x150) = add32 put 1 ∧ Counted s t 0 (monPage + 0x60) 1 ∧
        SameHbmBut s t [(a, 32)] ∧
        (bit (s.reg 0 (monPage + 0x140)) 30 = true → t.out = s.out ++ [.hostWrite 0 a (traceBytes r)]) ∧ SameRings s t ∧
        Aside s t) ∧
    (0 < s.monitor.lost → s.monitor.held.length < 256 → Answers .traceWrite s fun t =>
      t.monitor.lost = 0 ∧ t.monitor.held = s.monitor.held ∧ t.reg 0 (monPage + 0x150) = add32 put 1 ∧
        Counted s t 0 (monPage + 0x70) 1 ∧ SameHbmBut s t [(a, 32)] ∧ SameRings s t ∧ Aside s t)) ∧
  (∀ (s : State) (rq v : Nat), pfMayWrite s rq monPage = true →
    (traceTakes s = true → bit (s.reg 0 (monPage + 0x140)) 8 = true → Answers (.monTrcTrigger rq v) s fun t =>
      (∃ r, t.monitor.fly = s.monitor.fly ++ [r] ∧ r.kind = 8 ∧ r.data = v % 2 ^ 32 ∧ r.ring = 0xFFFF) ∧ t.regs = s.regs ∧
        SameRings s t ∧ Calm s t) ∧
    (bit (s.reg 0 (monPage + 0x140)) 31 = false → 10 ≤ bits v 26 21 → bits v 26 21 ≤ 26 →
      Answers (.monTrcEnable rq v) s fun t =>
        t.reg 0 (monPage + 0x140) = bits v 31 21 * 2 ^ 21 + v % 2 ^ 16 ∧
          (bit v 31 = true → t.fld 0 (monPage + 0x158) 31 31 = 0 ∧ t.monitor.stopping = false) ∧ SameRings s t ∧ Calm s t) ∧
    ((bits v 26 21 < 10 ∨ 26 < bits v 26 21) → bit (s.reg 0 (monPage + 0x140)) 31 = false →
      Answers (.monTrcEnable rq v) s fun t =>
        t.reg 0 (monPage + 0x140) = s.reg 0 (monPage + 0x140) ∧ ErrSet t monPage 31 ∧ SameRings s t ∧ Calm s t) ∧
    (Answers (.monFiltClear rq v) s fun t =>
      (∀ i, i < 5 → t.reg 0 (monPage + 0x110 + 8 * i) = 0) ∧
        t.reg 0 (monPage + 0x108) = bits v 31 31 * 2 ^ 31 ∧ SameRings s t ∧ Calm s t))

/-- The filter (R361): an entry matches when both masked fields equal their values; a value bit outside its mask matches nothing;
while EN is 1 a filtered counter advances for matching entries only; an entry keeps the match of its start, whatever a later
write of the filter says. -/
def Obligations.FilterMatches : Prop :=
  (∀ (s : State) (l o : Nat), filterMatch s l o = true ↔
    l &&& s.fld 0 (monPage + 0x100) 31 16 = s.fld 0 (monPage + 0x100) 15 0 ∧
      o &&& s.fld 0 (monPage + 0x104) 31 16 = s.fld 0 (monPage + 0x104) 15 0) ∧
  (∀ (s : State) (l o b : Nat), (bit (s.fld 0 (monPage + 0x100) 15 0) b = true ∧
      bit (s.fld 0 (monPage + 0x100) 31 16) b = false) → filterMatch s l o = false) ∧
  (∀ (s : State) (l o b : Nat), (bit (s.fld 0 (monPage + 0x104) 15 0) b = true ∧
      bit (s.fld 0 (monPage + 0x104) 31 16) b = false) → filterMatch s l o = false) ∧
  (∀ (s : State) (filt : Bool) (off n : Nat), bit (s.reg 0 (monPage + 0x108)) 31 = true →
    Counted s (filterCount s filt off n) 0 (monPage + off) (if filt = true then n else 0)) ∧
  (∀ (s : State) (r : Nat) (b : List Byte) (w : EntryWait), ∃ f ∈ ((beginEntry s r b w).ring r).fly,
    f.seq = (s.ring r).issue ∧ f.filt = filterMatch s (entryLayer b) (entryOper b)) ∧
  (∀ (s t : State) (rq off v : Nat), pfMayWrite s rq monPage = true → (off = 0x100 ∨ off = 0x104 ∨ off = 0x108) →
    exec (.registerWrite rq (monPage + off) 4 v) s = .next t → SameRings s t)

/-- The SMBus port (R218, R400): a message with a good PEC writes BOARD within its range or reads one value; any other is discarded. A
transfer wakes the port's island. -/
def Sys2Proof.Claims.SmbusPort : Prop :=
  ∀ s : State,
    let reads (i : Instr) (v : Nat) : Prop := Answers i s fun t =>
      t.out = s.out ++ [.smbus v] ∧ 20 ∉ t.power.stopped ∧ OtherRegs s t [(20, hubPage + 0x190)] ∧
        (20 ∉ s.power.stopped → t = { s with out := s.out ++ [.smbus v] }) ∧ SameRings s t ∧ Calm s t
    (smbusTakes s true = true →
      (∀ v, Answers (.smbusBoardCap true v true) s fun t =>
        boardCap t = (if v % 2 ^ 16 = 0 then 0 else min 1600 (max 600 (v % 2 ^ 16))) ∧ 20 ∉ t.power.stopped ∧
          OtherRegs s t [(0, pwrPage + 0x104), (20, hubPage + 0x190)] ∧ SameRings s t ∧ Calm s t) ∧
      (∀ v, reads (.smbusBoardCap false v true) (boardCap s)) ∧
      reads (.smbusPkgPower true) (pwrValue s 0 0x154 / 2 ^ 16) ∧ reads (.smbusTempMax true) (hottest s) ∧
      reads (.smbusThrottle true) (throttleReasons s) ∧
      reads (.smbusStartState true) (startValue s / 2 ^ 30 * 2 ^ 6 + startValue s % 2 ^ 4)) ∧
    (∀ i : Instr, (i = .smbusPkgPower false ∨ i = .smbusTempMax false ∨ i = .smbusThrottle false ∨
      i = .smbusStartState false ∨ ∃ w v, i = .smbusBoardCap w v false) → Answers i s fun t =>
        t.out = s.out ∧ OtherRegs s t [(20, hubPage + 0x190)] ∧ (20 ∉ s.power.stopped → t = s) ∧ SameRings s t ∧ Calm s t)

/-- The trace unit, and the SMBus port. -/
def Obligations.TraceAndSmbus : Prop :=
  Sys2Proof.Claims.Trace ∧ Sys2Proof.Claims.SmbusPort

/-! ## Registers -/

/-- WRT_VALID_WRITE, WRT_UNBIND, ERR_INJECT and REGISTER_WRITE (R100, R103, R333, R376 to R382): an entry of the weight-region table
becomes valid, keeps or loses its binding; a keyed injection sets its defined bits; KEY is the requester's own copy; the mask and
the write-one-to-clear bits of a page act; before READY only the reset and monitor pages take writes. -/
def Obligations.RegisterWrites : Prop :=
  (∀ (s : State) (rq n e v : Nat), n < 8 → pfMayWrite s rq (loomPage n) = true → e = s.sel rq (loomPage n + 0x170) → e < 64 →
    (bit v 31 = false → Answers (.wrtValidWrite rq n v) s fun t =>
      t.reg e (loomPage n + 0x174) = bits v 30 30 * 2 ^ 30 ∧ OtherRegs s t [(e, loomPage n + 0x174)] ∧ SameRings s t ∧
        Calm s t) ∧
    (bit v 31 = true → bit (wrtCtrl s n e) 31 = false → wrtRefuses s n e = true → Answers (.wrtValidWrite rq n v) s fun t =>
      t.reg e (loomPage n + 0x174) = s.reg e (loomPage n + 0x174) ∧ ErrSet t (loomPage n) 31 ∧ SameRings s t ∧ Calm s t) ∧
    (bit v 31 = true → bit v 29 = false → (bit (wrtCtrl s n e) 31 = true ∨ wrtRefuses s n e = false) →
      Answers (.wrtValidWrite rq n v) s fun t =>
        t.reg e (loomPage n + 0x174) = bits v 31 30 * 2 ^ 30 + bits (wrtCtrl s n e) 28 28 * 2 ^ 28 +
          bits (wrtCtrl s n e) 15 0 ∧ OtherRegs s t [(e, loomPage n + 0x174)] ∧ SameRings s t ∧ Calm s t) ∧
    (bit v 31 = true → (bit (wrtCtrl s n e) 31 = true ∨ wrtRefuses s n e = false) → Answers (.wrtUnbind rq n v) s fun t =>
      t.reg e (loomPage n + 0x174) = bits v 31 30 * 2 ^ 30 ∧ OtherRegs s t [(e, loomPage n + 0x174)] ∧ SameRings s t ∧
        Calm s t)) ∧
  (∀ (s : State) (rq page v : Nat), mayWrite s rq (keyPage rq page) = true → (isVf rq = true → page = 0) →
    (isVf rq = false → page < 2 ^ 26 ∧ page % 4096 = 0 ∧ (pageRegs (regionOf page) (instOf page)).isSome = true) →
    let own := keyPage rq page
    (armed s rq page = true → Answers (.errInject rq page v) s fun t =>
      (∀ b, b < 32 → bit (v &&& errBits own) b = true → ErrSet t own b) ∧ SameRings s t ∧ SameObjs s t ∧ Calm s t) ∧
    (armed s rq page = false → v % 2 ^ 32 &&& errBits own ≠ 0 → Answers (.errInject rq page v) s fun t =>
      ErrSet t own 30 ∧ SameRings s t ∧ SameObjs s t ∧ Calm s t) ∧
    (Answers (.registerWrite rq (page + 0x28) 4 v) s fun t =>
      t.sel rq (own + 0x28) = v % 256 ∧ OtherRegs s t [(instOf own, hubPage + 0x190)] ∧
        (∀ q a, a < 2 ^ 32 → (q ≠ rq ∨ a ≠ own + 0x28) → t.sel q a = s.sel q a) ∧ SameRings s t ∧ SameObjs s t ∧ Calm s t) ∧
    (Answers (.registerWrite rq (page + 0x1C) 4 v) s fun t =>
      t.reg 0 (own + 0x1C) = v &&& errBits own ∧ OtherRegs s t [(0, own + 0x1C), (instOf own, hubPage + 0x190)] ∧ SameRings s t ∧ SameObjs s t ∧ Calm s t) ∧
    (Answers (.registerWrite rq (page + 0x18) 4 v) s fun t =>
      (∀ b, b < 32 → bit (t.reg 0 (own + 0x18)) b = (bit (s.reg 0 (own + 0x18)) b && !bit v b)) ∧
        OtherRegs s t [(0, own + 0x18), (instOf own, hubPage + 0x190)] ∧ SameRings s t ∧ SameObjs s t ∧ Calm s t)) ∧
  (∀ (s : State) (rq page off v : Nat), earlyWrite s rq page = true → s.start.state = 0 → s.start.step ≤ 8 → page % 4096 = 0 →
    off < 4096 → regionOf page ≠ 1 → regionOf page ≠ 3 → Answers (.registerWrite rq (page + off) 4 v) s fun t => t = s)

/-! ## Targets and trees -/

/-- The targets of a quadrant (R228): the largest V_PREF and P_PREF of the phases of its RUNNING and WAITING rings, those of phase 0
with none, and V_tgt not below VMIN while rings are admitted. V_PREF and P_PREF act within their ranges (R239). -/
def Obligations.QuadrantTargets : Prop :=
  ∀ (s : State) (q : Nat),
    let counts (p : Nat × Ring) : Prop := p ∈ s.rings ∧ dieOfRing p.1 = q ∧ (ringStateCode p.2 = 2 ∨ ringStateCode p.2 = 3)
    (∀ p, counts p → phaseV s p.2.phase ≤ targetV s q ∧ phaseP s p.2.phase ≤ targetP s q) ∧
    ((∃ p, counts p) → (∃ p, counts p ∧ targetP s q = phaseP s p.2.phase) ∧
      (admittedRings s = [] → ∃ p, counts p ∧ targetV s q = phaseV s p.2.phase) ∧
      (admittedRings s ≠ [] → targetV s q = admVmin s ∨ ∃ p, counts p ∧ targetV s q = phaseV s p.2.phase)) ∧
    ((∀ p, ¬ counts p) → targetP s q = phaseP s 0 ∧ (admittedRings s = [] → targetV s q = phaseV s 0) ∧
      (admittedRings s ≠ [] → targetV s q = max (phaseV s 0) (admVmin s))) ∧
    (admittedRings s ≠ [] → admVmin s ≤ targetV s q)

/-- The Merkle tree of a block (R253), in the shape of R76: leaves and nodes hash their receipts and their halves with their
prefixes, the left half of n leaves is the largest power of two below n, and the block's header carries the root, 64 zero bytes
with no receipt. -/
def Obligations.MerkleTree : Prop :=
  (∀ x, leafHash x = Machine.hash ((0 : Byte) :: x)) ∧
  (∀ l r, nodeHash l r = Machine.hash ((1 : Byte) :: (l ++ r))) ∧
  (∀ x, merkleRoot 13 1 [x] = x) ∧
  (∀ (v : List (List Byte)) (k : Nat), 2 ≤ v.length → v.length ≤ 4096 → 2 ^ k < v.length → v.length ≤ 2 ^ (k + 1) →
    merkleRoot 13 v.length v = nodeHash (merkleRoot 13 (2 ^ k) (v.take (2 ^ k)))
      (merkleRoot 13 (v.length - 2 ^ k) (v.drop (2 ^ k)))) ∧
  (∀ (s : State) (b : Block), (b.receipts = [] → ((blockHeader s b).drop 128).take 64 = List.replicate 64 0) ∧
    (b.receipts ≠ [] → ((blockHeader s b).drop 128).take 64 = merkleRoot 13 b.receipts.length (b.receipts.map leafHash)))
end

