-- ==== Sys2Proof/Laws/State.lean ====
section
/-! SUPPORT. Sys2Proof/Laws/State.lean: each update of one part of the state leaves every other field as it was. -/

set_option Elab.async false

namespace Sys2Proof.Machine

open Sys2Proof

/-! ## setReg writes regs -/

@[simp] theorem State.setReg_sels (s : State) (i a v : Nat) : (s.setReg i a v).sels = s.sels := rfl
@[simp] theorem State.setReg_stage (s : State) (i a v : Nat) : (s.setReg i a v).stage = s.stage := rfl
@[simp] theorem State.setReg_hbm (s : State) (i a v : Nat) : (s.setReg i a v).hbm = s.hbm := rfl
@[simp] theorem State.setReg_rings (s : State) (i a v : Nat) : (s.setReg i a v).rings = s.rings := rfl
@[simp] theorem State.setReg_sync (s : State) (i a v : Nat) : (s.setReg i a v).sync = s.sync := rfl
@[simp] theorem State.setReg_mirrors (s : State) (i a v : Nat) : (s.setReg i a v).mirrors = s.mirrors := rfl
@[simp] theorem State.setReg_mirrorWait (s : State) (i a v : Nat) : (s.setReg i a v).mirrorWait = s.mirrorWait := rfl
@[simp] theorem State.setReg_looms (s : State) (i a v : Nat) : (s.setReg i a v).looms = s.looms := rfl
@[simp] theorem State.setReg_panels (s : State) (i a v : Nat) : (s.setReg i a v).panels = s.panels := rfl
@[simp] theorem State.setReg_cores (s : State) (i a v : Nat) : (s.setReg i a v).cores = s.cores := rfl
@[simp] theorem State.setReg_rtvs (s : State) (i a v : Nat) : (s.setReg i a v).rtvs = s.rtvs := rfl
@[simp] theorem State.setReg_arbs (s : State) (i a v : Nat) : (s.setReg i a v).arbs = s.arbs := rfl
@[simp] theorem State.setReg_admQueue (s : State) (i a v : Nat) : (s.setReg i a v).admQueue = s.admQueue := rfl
@[simp] theorem State.setReg_power (s : State) (i a v : Nat) : (s.setReg i a v).power = s.power := rfl
@[simp] theorem State.setReg_ledger (s : State) (i a v : Nat) : (s.setReg i a v).ledger = s.ledger := rfl
@[simp] theorem State.setReg_stackSet (s : State) (i a v : Nat) : (s.setReg i a v).stackSet = s.stackSet := rfl
@[simp] theorem State.setReg_dies (s : State) (i a v : Nat) : (s.setReg i a v).dies = s.dies := rfl
@[simp] theorem State.setReg_pack (s : State) (i a v : Nat) : (s.setReg i a v).pack = s.pack := rfl
@[simp] theorem State.setReg_swatch (s : State) (i a v : Nat) : (s.setReg i a v).swatch = s.swatch := rfl
@[simp] theorem State.setReg_pci (s : State) (i a v : Nat) : (s.setReg i a v).pci = s.pci := rfl
@[simp] theorem State.setReg_monitor (s : State) (i a v : Nat) : (s.setReg i a v).monitor = s.monitor := rfl
@[simp] theorem State.setReg_flash (s : State) (i a v : Nat) : (s.setReg i a v).flash = s.flash := rfl
@[simp] theorem State.setReg_start (s : State) (i a v : Nat) : (s.setReg i a v).start = s.start := rfl
@[simp] theorem State.setReg_sec (s : State) (i a v : Nat) : (s.setReg i a v).sec = s.sec := rfl
@[simp] theorem State.setReg_out (s : State) (i a v : Nat) : (s.setReg i a v).out = s.out := rfl
@[simp] theorem State.setReg_hubUs (s : State) (i a v : Nat) : (s.setReg i a v).hubUs = s.hubUs := rfl
@[simp] theorem State.setReg_timers (s : State) (i a v : Nat) : (s.setReg i a v).timers = s.timers := rfl
@[simp] theorem State.setReg_freeCtr (s : State) (i a v : Nat) : (s.setReg i a v).freeCtr = s.freeCtr := rfl
@[simp] theorem State.setReg_pending (s : State) (i a v : Nat) : (s.setReg i a v).pending = s.pending := rfl

/-! ## setFld writes regs -/

@[simp] theorem State.setFld_sels (s : State) (i a hi lo v : Nat) : (s.setFld i a hi lo v).sels = s.sels := rfl
@[simp] theorem State.setFld_stage (s : State) (i a hi lo v : Nat) : (s.setFld i a hi lo v).stage = s.stage := rfl
@[simp] theorem State.setFld_hbm (s : State) (i a hi lo v : Nat) : (s.setFld i a hi lo v).hbm = s.hbm := rfl
@[simp] theorem State.setFld_rings (s : State) (i a hi lo v : Nat) : (s.setFld i a hi lo v).rings = s.rings := rfl
@[simp] theorem State.setFld_sync (s : State) (i a hi lo v : Nat) : (s.setFld i a hi lo v).sync = s.sync := rfl
@[simp] theorem State.setFld_mirrors (s : State) (i a hi lo v : Nat) : (s.setFld i a hi lo v).mirrors = s.mirrors := rfl
@[simp] theorem State.setFld_mirrorWait (s : State) (i a hi lo v : Nat) : (s.setFld i a hi lo v).mirrorWait = s.mirrorWait := rfl
@[simp] theorem State.setFld_looms (s : State) (i a hi lo v : Nat) : (s.setFld i a hi lo v).looms = s.looms := rfl
@[simp] theorem State.setFld_panels (s : State) (i a hi lo v : Nat) : (s.setFld i a hi lo v).panels = s.panels := rfl
@[simp] theorem State.setFld_cores (s : State) (i a hi lo v : Nat) : (s.setFld i a hi lo v).cores = s.cores := rfl
@[simp] theorem State.setFld_rtvs (s : State) (i a hi lo v : Nat) : (s.setFld i a hi lo v).rtvs = s.rtvs := rfl
@[simp] theorem State.setFld_arbs (s : State) (i a hi lo v : Nat) : (s.setFld i a hi lo v).arbs = s.arbs := rfl
@[simp] theorem State.setFld_admQueue (s : State) (i a hi lo v : Nat) : (s.setFld i a hi lo v).admQueue = s.admQueue := rfl
@[simp] theorem State.setFld_power (s : State) (i a hi lo v : Nat) : (s.setFld i a hi lo v).power = s.power := rfl
@[simp] theorem State.setFld_ledger (s : State) (i a hi lo v : Nat) : (s.setFld i a hi lo v).ledger = s.ledger := rfl
@[simp] theorem State.setFld_stackSet (s : State) (i a hi lo v : Nat) : (s.setFld i a hi lo v).stackSet = s.stackSet := rfl
@[simp] theorem State.setFld_dies (s : State) (i a hi lo v : Nat) : (s.setFld i a hi lo v).dies = s.dies := rfl
@[simp] theorem State.setFld_pack (s : State) (i a hi lo v : Nat) : (s.setFld i a hi lo v).pack = s.pack := rfl
@[simp] theorem State.setFld_swatch (s : State) (i a hi lo v : Nat) : (s.setFld i a hi lo v).swatch = s.swatch := rfl
@[simp] theorem State.setFld_pci (s : State) (i a hi lo v : Nat) : (s.setFld i a hi lo v).pci = s.pci := rfl
@[simp] theorem State.setFld_monitor (s : State) (i a hi lo v : Nat) : (s.setFld i a hi lo v).monitor = s.monitor := rfl
@[simp] theorem State.setFld_flash (s : State) (i a hi lo v : Nat) : (s.setFld i a hi lo v).flash = s.flash := rfl
@[simp] theorem State.setFld_start (s : State) (i a hi lo v : Nat) : (s.setFld i a hi lo v).start = s.start := rfl
@[simp] theorem State.setFld_sec (s : State) (i a hi lo v : Nat) : (s.setFld i a hi lo v).sec = s.sec := rfl
@[simp] theorem State.setFld_out (s : State) (i a hi lo v : Nat) : (s.setFld i a hi lo v).out = s.out := rfl
@[simp] theorem State.setFld_hubUs (s : State) (i a hi lo v : Nat) : (s.setFld i a hi lo v).hubUs = s.hubUs := rfl
@[simp] theorem State.setFld_timers (s : State) (i a hi lo v : Nat) : (s.setFld i a hi lo v).timers = s.timers := rfl
@[simp] theorem State.setFld_freeCtr (s : State) (i a hi lo v : Nat) : (s.setFld i a hi lo v).freeCtr = s.freeCtr := rfl
@[simp] theorem State.setFld_pending (s : State) (i a hi lo v : Nat) : (s.setFld i a hi lo v).pending = s.pending := rfl

/-! ## count writes regs -/

@[simp] theorem State.count_sels (s : State) (i a n : Nat) : (s.count i a n).sels = s.sels := rfl
@[simp] theorem State.count_stage (s : State) (i a n : Nat) : (s.count i a n).stage = s.stage := rfl
@[simp] theorem State.count_hbm (s : State) (i a n : Nat) : (s.count i a n).hbm = s.hbm := rfl
@[simp] theorem State.count_rings (s : State) (i a n : Nat) : (s.count i a n).rings = s.rings := rfl
@[simp] theorem State.count_sync (s : State) (i a n : Nat) : (s.count i a n).sync = s.sync := rfl
@[simp] theorem State.count_mirrors (s : State) (i a n : Nat) : (s.count i a n).mirrors = s.mirrors := rfl
@[simp] theorem State.count_mirrorWait (s : State) (i a n : Nat) : (s.count i a n).mirrorWait = s.mirrorWait := rfl
@[simp] theorem State.count_looms (s : State) (i a n : Nat) : (s.count i a n).looms = s.looms := rfl
@[simp] theorem State.count_panels (s : State) (i a n : Nat) : (s.count i a n).panels = s.panels := rfl
@[simp] theorem State.count_cores (s : State) (i a n : Nat) : (s.count i a n).cores = s.cores := rfl
@[simp] theorem State.count_rtvs (s : State) (i a n : Nat) : (s.count i a n).rtvs = s.rtvs := rfl
@[simp] theorem State.count_arbs (s : State) (i a n : Nat) : (s.count i a n).arbs = s.arbs := rfl
@[simp] theorem State.count_admQueue (s : State) (i a n : Nat) : (s.count i a n).admQueue = s.admQueue := rfl
@[simp] theorem State.count_power (s : State) (i a n : Nat) : (s.count i a n).power = s.power := rfl
@[simp] theorem State.count_ledger (s : State) (i a n : Nat) : (s.count i a n).ledger = s.ledger := rfl
@[simp] theorem State.count_stackSet (s : State) (i a n : Nat) : (s.count i a n).stackSet = s.stackSet := rfl
@[simp] theorem State.count_dies (s : State) (i a n : Nat) : (s.count i a n).dies = s.dies := rfl
@[simp] theorem State.count_pack (s : State) (i a n : Nat) : (s.count i a n).pack = s.pack := rfl
@[simp] theorem State.count_swatch (s : State) (i a n : Nat) : (s.count i a n).swatch = s.swatch := rfl
@[simp] theorem State.count_pci (s : State) (i a n : Nat) : (s.count i a n).pci = s.pci := rfl
@[simp] theorem State.count_monitor (s : State) (i a n : Nat) : (s.count i a n).monitor = s.monitor := rfl
@[simp] theorem State.count_flash (s : State) (i a n : Nat) : (s.count i a n).flash = s.flash := rfl
@[simp] theorem State.count_start (s : State) (i a n : Nat) : (s.count i a n).start = s.start := rfl
@[simp] theorem State.count_sec (s : State) (i a n : Nat) : (s.count i a n).sec = s.sec := rfl
@[simp] theorem State.count_out (s : State) (i a n : Nat) : (s.count i a n).out = s.out := rfl
@[simp] theorem State.count_hubUs (s : State) (i a n : Nat) : (s.count i a n).hubUs = s.hubUs := rfl
@[simp] theorem State.count_timers (s : State) (i a n : Nat) : (s.count i a n).timers = s.timers := rfl
@[simp] theorem State.count_freeCtr (s : State) (i a n : Nat) : (s.count i a n).freeCtr = s.freeCtr := rfl
@[simp] theorem State.count_pending (s : State) (i a n : Nat) : (s.count i a n).pending = s.pending := rfl

/-! ## setSel writes sels -/

@[simp] theorem State.setSel_regs (s : State) (rq a v : Nat) : (s.setSel rq a v).regs = s.regs := rfl
@[simp] theorem State.setSel_stage (s : State) (rq a v : Nat) : (s.setSel rq a v).stage = s.stage := rfl
@[simp] theorem State.setSel_hbm (s : State) (rq a v : Nat) : (s.setSel rq a v).hbm = s.hbm := rfl
@[simp] theorem State.setSel_rings (s : State) (rq a v : Nat) : (s.setSel rq a v).rings = s.rings := rfl
@[simp] theorem State.setSel_sync (s : State) (rq a v : Nat) : (s.setSel rq a v).sync = s.sync := rfl
@[simp] theorem State.setSel_mirrors (s : State) (rq a v : Nat) : (s.setSel rq a v).mirrors = s.mirrors := rfl
@[simp] theorem State.setSel_mirrorWait (s : State) (rq a v : Nat) : (s.setSel rq a v).mirrorWait = s.mirrorWait := rfl
@[simp] theorem State.setSel_looms (s : State) (rq a v : Nat) : (s.setSel rq a v).looms = s.looms := rfl
@[simp] theorem State.setSel_panels (s : State) (rq a v : Nat) : (s.setSel rq a v).panels = s.panels := rfl
@[simp] theorem State.setSel_cores (s : State) (rq a v : Nat) : (s.setSel rq a v).cores = s.cores := rfl
@[simp] theorem State.setSel_rtvs (s : State) (rq a v : Nat) : (s.setSel rq a v).rtvs = s.rtvs := rfl
@[simp] theorem State.setSel_arbs (s : State) (rq a v : Nat) : (s.setSel rq a v).arbs = s.arbs := rfl
@[simp] theorem State.setSel_admQueue (s : State) (rq a v : Nat) : (s.setSel rq a v).admQueue = s.admQueue := rfl
@[simp] theorem State.setSel_power (s : State) (rq a v : Nat) : (s.setSel rq a v).power = s.power := rfl
@[simp] theorem State.setSel_ledger (s : State) (rq a v : Nat) : (s.setSel rq a v).ledger = s.ledger := rfl
@[simp] theorem State.setSel_stackSet (s : State) (rq a v : Nat) : (s.setSel rq a v).stackSet = s.stackSet := rfl
@[simp] theorem State.setSel_dies (s : State) (rq a v : Nat) : (s.setSel rq a v).dies = s.dies := rfl
@[simp] theorem State.setSel_pack (s : State) (rq a v : Nat) : (s.setSel rq a v).pack = s.pack := rfl
@[simp] theorem State.setSel_swatch (s : State) (rq a v : Nat) : (s.setSel rq a v).swatch = s.swatch := rfl
@[simp] theorem State.setSel_pci (s : State) (rq a v : Nat) : (s.setSel rq a v).pci = s.pci := rfl
@[simp] theorem State.setSel_monitor (s : State) (rq a v : Nat) : (s.setSel rq a v).monitor = s.monitor := rfl
@[simp] theorem State.setSel_flash (s : State) (rq a v : Nat) : (s.setSel rq a v).flash = s.flash := rfl
@[simp] theorem State.setSel_start (s : State) (rq a v : Nat) : (s.setSel rq a v).start = s.start := rfl
@[simp] theorem State.setSel_sec (s : State) (rq a v : Nat) : (s.setSel rq a v).sec = s.sec := rfl
@[simp] theorem State.setSel_out (s : State) (rq a v : Nat) : (s.setSel rq a v).out = s.out := rfl
@[simp] theorem State.setSel_hubUs (s : State) (rq a v : Nat) : (s.setSel rq a v).hubUs = s.hubUs := rfl
@[simp] theorem State.setSel_timers (s : State) (rq a v : Nat) : (s.setSel rq a v).timers = s.timers := rfl
@[simp] theorem State.setSel_freeCtr (s : State) (rq a v : Nat) : (s.setSel rq a v).freeCtr = s.freeCtr := rfl
@[simp] theorem State.setSel_pending (s : State) (rq a v : Nat) : (s.setSel rq a v).pending = s.pending := rfl

/-! ## setFn writes pci -/

@[simp] theorem State.setFn_regs (s : State) (f : Nat) (v : Fn) : (s.setFn f v).regs = s.regs := rfl
@[simp] theorem State.setFn_sels (s : State) (f : Nat) (v : Fn) : (s.setFn f v).sels = s.sels := rfl
@[simp] theorem State.setFn_stage (s : State) (f : Nat) (v : Fn) : (s.setFn f v).stage = s.stage := rfl
@[simp] theorem State.setFn_hbm (s : State) (f : Nat) (v : Fn) : (s.setFn f v).hbm = s.hbm := rfl
@[simp] theorem State.setFn_rings (s : State) (f : Nat) (v : Fn) : (s.setFn f v).rings = s.rings := rfl
@[simp] theorem State.setFn_sync (s : State) (f : Nat) (v : Fn) : (s.setFn f v).sync = s.sync := rfl
@[simp] theorem State.setFn_mirrors (s : State) (f : Nat) (v : Fn) : (s.setFn f v).mirrors = s.mirrors := rfl
@[simp] theorem State.setFn_mirrorWait (s : State) (f : Nat) (v : Fn) : (s.setFn f v).mirrorWait = s.mirrorWait := rfl
@[simp] theorem State.setFn_looms (s : State) (f : Nat) (v : Fn) : (s.setFn f v).looms = s.looms := rfl
@[simp] theorem State.setFn_panels (s : State) (f : Nat) (v : Fn) : (s.setFn f v).panels = s.panels := rfl
@[simp] theorem State.setFn_cores (s : State) (f : Nat) (v : Fn) : (s.setFn f v).cores = s.cores := rfl
@[simp] theorem State.setFn_rtvs (s : State) (f : Nat) (v : Fn) : (s.setFn f v).rtvs = s.rtvs := rfl
@[simp] theorem State.setFn_arbs (s : State) (f : Nat) (v : Fn) : (s.setFn f v).arbs = s.arbs := rfl
@[simp] theorem State.setFn_admQueue (s : State) (f : Nat) (v : Fn) : (s.setFn f v).admQueue = s.admQueue := rfl
@[simp] theorem State.setFn_power (s : State) (f : Nat) (v : Fn) : (s.setFn f v).power = s.power := rfl
@[simp] theorem State.setFn_ledger (s : State) (f : Nat) (v : Fn) : (s.setFn f v).ledger = s.ledger := rfl
@[simp] theorem State.setFn_stackSet (s : State) (f : Nat) (v : Fn) : (s.setFn f v).stackSet = s.stackSet := rfl
@[simp] theorem State.setFn_dies (s : State) (f : Nat) (v : Fn) : (s.setFn f v).dies = s.dies := rfl
@[simp] theorem State.setFn_pack (s : State) (f : Nat) (v : Fn) : (s.setFn f v).pack = s.pack := rfl
@[simp] theorem State.setFn_swatch (s : State) (f : Nat) (v : Fn) : (s.setFn f v).swatch = s.swatch := rfl
@[simp] theorem State.setFn_monitor (s : State) (f : Nat) (v : Fn) : (s.setFn f v).monitor = s.monitor := rfl
@[simp] theorem State.setFn_flash (s : State) (f : Nat) (v : Fn) : (s.setFn f v).flash = s.flash := rfl
@[simp] theorem State.setFn_start (s : State) (f : Nat) (v : Fn) : (s.setFn f v).start = s.start := rfl
@[simp] theorem State.setFn_sec (s : State) (f : Nat) (v : Fn) : (s.setFn f v).sec = s.sec := rfl
@[simp] theorem State.setFn_out (s : State) (f : Nat) (v : Fn) : (s.setFn f v).out = s.out := rfl
@[simp] theorem State.setFn_hubUs (s : State) (f : Nat) (v : Fn) : (s.setFn f v).hubUs = s.hubUs := rfl
@[simp] theorem State.setFn_timers (s : State) (f : Nat) (v : Fn) : (s.setFn f v).timers = s.timers := rfl
@[simp] theorem State.setFn_freeCtr (s : State) (f : Nat) (v : Fn) : (s.setFn f v).freeCtr = s.freeCtr := rfl
@[simp] theorem State.setFn_pending (s : State) (f : Nat) (v : Fn) : (s.setFn f v).pending = s.pending := rfl

/-! ## send writes out -/

@[simp] theorem State.send_regs (s : State) (m : OutMsg) : (s.send m).regs = s.regs := rfl
@[simp] theorem State.send_sels (s : State) (m : OutMsg) : (s.send m).sels = s.sels := rfl
@[simp] theorem State.send_stage (s : State) (m : OutMsg) : (s.send m).stage = s.stage := rfl
@[simp] theorem State.send_hbm (s : State) (m : OutMsg) : (s.send m).hbm = s.hbm := rfl
@[simp] theorem State.send_rings (s : State) (m : OutMsg) : (s.send m).rings = s.rings := rfl
@[simp] theorem State.send_sync (s : State) (m : OutMsg) : (s.send m).sync = s.sync := rfl
@[simp] theorem State.send_mirrors (s : State) (m : OutMsg) : (s.send m).mirrors = s.mirrors := rfl
@[simp] theorem State.send_mirrorWait (s : State) (m : OutMsg) : (s.send m).mirrorWait = s.mirrorWait := rfl
@[simp] theorem State.send_looms (s : State) (m : OutMsg) : (s.send m).looms = s.looms := rfl
@[simp] theorem State.send_panels (s : State) (m : OutMsg) : (s.send m).panels = s.panels := rfl
@[simp] theorem State.send_cores (s : State) (m : OutMsg) : (s.send m).cores = s.cores := rfl
@[simp] theorem State.send_rtvs (s : State) (m : OutMsg) : (s.send m).rtvs = s.rtvs := rfl
@[simp] theorem State.send_arbs (s : State) (m : OutMsg) : (s.send m).arbs = s.arbs := rfl
@[simp] theorem State.send_admQueue (s : State) (m : OutMsg) : (s.send m).admQueue = s.admQueue := rfl
@[simp] theorem State.send_power (s : State) (m : OutMsg) : (s.send m).power = s.power := rfl
@[simp] theorem State.send_ledger (s : State) (m : OutMsg) : (s.send m).ledger = s.ledger := rfl
@[simp] theorem State.send_stackSet (s : State) (m : OutMsg) : (s.send m).stackSet = s.stackSet := rfl
@[simp] theorem State.send_dies (s : State) (m : OutMsg) : (s.send m).dies = s.dies := rfl
@[simp] theorem State.send_pack (s : State) (m : OutMsg) : (s.send m).pack = s.pack := rfl
@[simp] theorem State.send_swatch (s : State) (m : OutMsg) : (s.send m).swatch = s.swatch := rfl
@[simp] theorem State.send_pci (s : State) (m : OutMsg) : (s.send m).pci = s.pci := rfl
@[simp] theorem State.send_monitor (s : State) (m : OutMsg) : (s.send m).monitor = s.monitor := rfl
@[simp] theorem State.send_flash (s : State) (m : OutMsg) : (s.send m).flash = s.flash := rfl
@[simp] theorem State.send_start (s : State) (m : OutMsg) : (s.send m).start = s.start := rfl
@[simp] theorem State.send_sec (s : State) (m : OutMsg) : (s.send m).sec = s.sec := rfl
@[simp] theorem State.send_hubUs (s : State) (m : OutMsg) : (s.send m).hubUs = s.hubUs := rfl
@[simp] theorem State.send_timers (s : State) (m : OutMsg) : (s.send m).timers = s.timers := rfl
@[simp] theorem State.send_freeCtr (s : State) (m : OutMsg) : (s.send m).freeCtr = s.freeCtr := rfl
@[simp] theorem State.send_pending (s : State) (m : OutMsg) : (s.send m).pending = s.pending := rfl

/-! ## setRing writes rings -/

@[simp] theorem State.setRing_regs (s : State) (r : Nat) (v : Ring) : (s.setRing r v).regs = s.regs := rfl
@[simp] theorem State.setRing_sels (s : State) (r : Nat) (v : Ring) : (s.setRing r v).sels = s.sels := rfl
@[simp] theorem State.setRing_stage (s : State) (r : Nat) (v : Ring) : (s.setRing r v).stage = s.stage := rfl
@[simp] theorem State.setRing_hbm (s : State) (r : Nat) (v : Ring) : (s.setRing r v).hbm = s.hbm := rfl
@[simp] theorem State.setRing_sync (s : State) (r : Nat) (v : Ring) : (s.setRing r v).sync = s.sync := rfl
@[simp] theorem State.setRing_mirrors (s : State) (r : Nat) (v : Ring) : (s.setRing r v).mirrors = s.mirrors := rfl
@[simp] theorem State.setRing_mirrorWait (s : State) (r : Nat) (v : Ring) : (s.setRing r v).mirrorWait = s.mirrorWait := rfl
@[simp] theorem State.setRing_looms (s : State) (r : Nat) (v : Ring) : (s.setRing r v).looms = s.looms := rfl
@[simp] theorem State.setRing_panels (s : State) (r : Nat) (v : Ring) : (s.setRing r v).panels = s.panels := rfl
@[simp] theorem State.setRing_cores (s : State) (r : Nat) (v : Ring) : (s.setRing r v).cores = s.cores := rfl
@[simp] theorem State.setRing_rtvs (s : State) (r : Nat) (v : Ring) : (s.setRing r v).rtvs = s.rtvs := rfl
@[simp] theorem State.setRing_arbs (s : State) (r : Nat) (v : Ring) : (s.setRing r v).arbs = s.arbs := rfl
@[simp] theorem State.setRing_admQueue (s : State) (r : Nat) (v : Ring) : (s.setRing r v).admQueue = s.admQueue := rfl
@[simp] theorem State.setRing_power (s : State) (r : Nat) (v : Ring) : (s.setRing r v).power = s.power := rfl
@[simp] theorem State.setRing_ledger (s : State) (r : Nat) (v : Ring) : (s.setRing r v).ledger = s.ledger := rfl
@[simp] theorem State.setRing_stackSet (s : State) (r : Nat) (v : Ring) : (s.setRing r v).stackSet = s.stackSet := rfl
@[simp] theorem State.setRing_dies (s : State) (r : Nat) (v : Ring) : (s.setRing r v).dies = s.dies := rfl
@[simp] theorem State.setRing_pack (s : State) (r : Nat) (v : Ring) : (s.setRing r v).pack = s.pack := rfl
@[simp] theorem State.setRing_swatch (s : State) (r : Nat) (v : Ring) : (s.setRing r v).swatch = s.swatch := rfl
@[simp] theorem State.setRing_pci (s : State) (r : Nat) (v : Ring) : (s.setRing r v).pci = s.pci := rfl
@[simp] theorem State.setRing_monitor (s : State) (r : Nat) (v : Ring) : (s.setRing r v).monitor = s.monitor := rfl
@[simp] theorem State.setRing_flash (s : State) (r : Nat) (v : Ring) : (s.setRing r v).flash = s.flash := rfl
@[simp] theorem State.setRing_start (s : State) (r : Nat) (v : Ring) : (s.setRing r v).start = s.start := rfl
@[simp] theorem State.setRing_sec (s : State) (r : Nat) (v : Ring) : (s.setRing r v).sec = s.sec := rfl
@[simp] theorem State.setRing_out (s : State) (r : Nat) (v : Ring) : (s.setRing r v).out = s.out := rfl
@[simp] theorem State.setRing_hubUs (s : State) (r : Nat) (v : Ring) : (s.setRing r v).hubUs = s.hubUs := rfl
@[simp] theorem State.setRing_timers (s : State) (r : Nat) (v : Ring) : (s.setRing r v).timers = s.timers := rfl
@[simp] theorem State.setRing_freeCtr (s : State) (r : Nat) (v : Ring) : (s.setRing r v).freeCtr = s.freeCtr := rfl
@[simp] theorem State.setRing_pending (s : State) (r : Nat) (v : Ring) : (s.setRing r v).pending = s.pending := rfl

/-! ## fresh writes freeCtr -/

@[simp] theorem State.fresh_regs (s : State) : (s.fresh).regs = s.regs := rfl
@[simp] theorem State.fresh_sels (s : State) : (s.fresh).sels = s.sels := rfl
@[simp] theorem State.fresh_stage (s : State) : (s.fresh).stage = s.stage := rfl
@[simp] theorem State.fresh_hbm (s : State) : (s.fresh).hbm = s.hbm := rfl
@[simp] theorem State.fresh_rings (s : State) : (s.fresh).rings = s.rings := rfl
@[simp] theorem State.fresh_sync (s : State) : (s.fresh).sync = s.sync := rfl
@[simp] theorem State.fresh_mirrors (s : State) : (s.fresh).mirrors = s.mirrors := rfl
@[simp] theorem State.fresh_mirrorWait (s : State) : (s.fresh).mirrorWait = s.mirrorWait := rfl
@[simp] theorem State.fresh_looms (s : State) : (s.fresh).looms = s.looms := rfl
@[simp] theorem State.fresh_panels (s : State) : (s.fresh).panels = s.panels := rfl
@[simp] theorem State.fresh_cores (s : State) : (s.fresh).cores = s.cores := rfl
@[simp] theorem State.fresh_rtvs (s : State) : (s.fresh).rtvs = s.rtvs := rfl
@[simp] theorem State.fresh_arbs (s : State) : (s.fresh).arbs = s.arbs := rfl
@[simp] theorem State.fresh_admQueue (s : State) : (s.fresh).admQueue = s.admQueue := rfl
@[simp] theorem State.fresh_power (s : State) : (s.fresh).power = s.power := rfl
@[simp] theorem State.fresh_ledger (s : State) : (s.fresh).ledger = s.ledger := rfl
@[simp] theorem State.fresh_stackSet (s : State) : (s.fresh).stackSet = s.stackSet := rfl
@[simp] theorem State.fresh_dies (s : State) : (s.fresh).dies = s.dies := rfl
@[simp] theorem State.fresh_pack (s : State) : (s.fresh).pack = s.pack := rfl
@[simp] theorem State.fresh_swatch (s : State) : (s.fresh).swatch = s.swatch := rfl
@[simp] theorem State.fresh_pci (s : State) : (s.fresh).pci = s.pci := rfl
@[simp] theorem State.fresh_monitor (s : State) : (s.fresh).monitor = s.monitor := rfl
@[simp] theorem State.fresh_flash (s : State) : (s.fresh).flash = s.flash := rfl
@[simp] theorem State.fresh_start (s : State) : (s.fresh).start = s.start := rfl
@[simp] theorem State.fresh_sec (s : State) : (s.fresh).sec = s.sec := rfl
@[simp] theorem State.fresh_out (s : State) : (s.fresh).out = s.out := rfl
@[simp] theorem State.fresh_hubUs (s : State) : (s.fresh).hubUs = s.hubUs := rfl
@[simp] theorem State.fresh_timers (s : State) : (s.fresh).timers = s.timers := rfl
@[simp] theorem State.fresh_pending (s : State) : (s.fresh).pending = s.pending := rfl

/-! ## setPanel writes panels -/

@[simp] theorem State.setPanel_regs (s : State) (p : Nat) (v : Panel) : (s.setPanel p v).regs = s.regs := rfl
@[simp] theorem State.setPanel_sels (s : State) (p : Nat) (v : Panel) : (s.setPanel p v).sels = s.sels := rfl
@[simp] theorem State.setPanel_stage (s : State) (p : Nat) (v : Panel) : (s.setPanel p v).stage = s.stage := rfl
@[simp] theorem State.setPanel_hbm (s : State) (p : Nat) (v : Panel) : (s.setPanel p v).hbm = s.hbm := rfl
@[simp] theorem State.setPanel_rings (s : State) (p : Nat) (v : Panel) : (s.setPanel p v).rings = s.rings := rfl
@[simp] theorem State.setPanel_sync (s : State) (p : Nat) (v : Panel) : (s.setPanel p v).sync = s.sync := rfl
@[simp] theorem State.setPanel_mirrors (s : State) (p : Nat) (v : Panel) : (s.setPanel p v).mirrors = s.mirrors := rfl
@[simp] theorem State.setPanel_mirrorWait (s : State) (p : Nat) (v : Panel) : (s.setPanel p v).mirrorWait = s.mirrorWait := rfl
@[simp] theorem State.setPanel_looms (s : State) (p : Nat) (v : Panel) : (s.setPanel p v).looms = s.looms := rfl
@[simp] theorem State.setPanel_cores (s : State) (p : Nat) (v : Panel) : (s.setPanel p v).cores = s.cores := rfl
@[simp] theorem State.setPanel_rtvs (s : State) (p : Nat) (v : Panel) : (s.setPanel p v).rtvs = s.rtvs := rfl
@[simp] theorem State.setPanel_arbs (s : State) (p : Nat) (v : Panel) : (s.setPanel p v).arbs = s.arbs := rfl
@[simp] theorem State.setPanel_admQueue (s : State) (p : Nat) (v : Panel) : (s.setPanel p v).admQueue = s.admQueue := rfl
@[simp] theorem State.setPanel_power (s : State) (p : Nat) (v : Panel) : (s.setPanel p v).power = s.power := rfl
@[simp] theorem State.setPanel_ledger (s : State) (p : Nat) (v : Panel) : (s.setPanel p v).ledger = s.ledger := rfl
@[simp] theorem State.setPanel_stackSet (s : State) (p : Nat) (v : Panel) : (s.setPanel p v).stackSet = s.stackSet := rfl
@[simp] theorem State.setPanel_dies (s : State) (p : Nat) (v : Panel) : (s.setPanel p v).dies = s.dies := rfl
@[simp] theorem State.setPanel_pack (s : State) (p : Nat) (v : Panel) : (s.setPanel p v).pack = s.pack := rfl
@[simp] theorem State.setPanel_swatch (s : State) (p : Nat) (v : Panel) : (s.setPanel p v).swatch = s.swatch := rfl
@[simp] theorem State.setPanel_pci (s : State) (p : Nat) (v : Panel) : (s.setPanel p v).pci = s.pci := rfl
@[simp] theorem State.setPanel_monitor (s : State) (p : Nat) (v : Panel) : (s.setPanel p v).monitor = s.monitor := rfl
@[simp] theorem State.setPanel_flash (s : State) (p : Nat) (v : Panel) : (s.setPanel p v).flash = s.flash := rfl
@[simp] theorem State.setPanel_start (s : State) (p : Nat) (v : Panel) : (s.setPanel p v).start = s.start := rfl
@[simp] theorem State.setPanel_sec (s : State) (p : Nat) (v : Panel) : (s.setPanel p v).sec = s.sec := rfl
@[simp] theorem State.setPanel_out (s : State) (p : Nat) (v : Panel) : (s.setPanel p v).out = s.out := rfl
@[simp] theorem State.setPanel_hubUs (s : State) (p : Nat) (v : Panel) : (s.setPanel p v).hubUs = s.hubUs := rfl
@[simp] theorem State.setPanel_timers (s : State) (p : Nat) (v : Panel) : (s.setPanel p v).timers = s.timers := rfl
@[simp] theorem State.setPanel_freeCtr (s : State) (p : Nat) (v : Panel) : (s.setPanel p v).freeCtr = s.freeCtr := rfl
@[simp] theorem State.setPanel_pending (s : State) (p : Nat) (v : Panel) : (s.setPanel p v).pending = s.pending := rfl

/-! ## setRtv writes rtvs -/

@[simp] theorem State.setRtv_regs (s : State) (n : Nat) (v : Retriever) : (s.setRtv n v).regs = s.regs := rfl
@[simp] theorem State.setRtv_sels (s : State) (n : Nat) (v : Retriever) : (s.setRtv n v).sels = s.sels := rfl
@[simp] theorem State.setRtv_stage (s : State) (n : Nat) (v : Retriever) : (s.setRtv n v).stage = s.stage := rfl
@[simp] theorem State.setRtv_hbm (s : State) (n : Nat) (v : Retriever) : (s.setRtv n v).hbm = s.hbm := rfl
@[simp] theorem State.setRtv_rings (s : State) (n : Nat) (v : Retriever) : (s.setRtv n v).rings = s.rings := rfl
@[simp] theorem State.setRtv_sync (s : State) (n : Nat) (v : Retriever) : (s.setRtv n v).sync = s.sync := rfl
@[simp] theorem State.setRtv_mirrors (s : State) (n : Nat) (v : Retriever) : (s.setRtv n v).mirrors = s.mirrors := rfl
@[simp] theorem State.setRtv_mirrorWait (s : State) (n : Nat) (v : Retriever) : (s.setRtv n v).mirrorWait = s.mirrorWait := rfl
@[simp] theorem State.setRtv_looms (s : State) (n : Nat) (v : Retriever) : (s.setRtv n v).looms = s.looms := rfl
@[simp] theorem State.setRtv_panels (s : State) (n : Nat) (v : Retriever) : (s.setRtv n v).panels = s.panels := rfl
@[simp] theorem State.setRtv_cores (s : State) (n : Nat) (v : Retriever) : (s.setRtv n v).cores = s.cores := rfl
@[simp] theorem State.setRtv_arbs (s : State) (n : Nat) (v : Retriever) : (s.setRtv n v).arbs = s.arbs := rfl
@[simp] theorem State.setRtv_admQueue (s : State) (n : Nat) (v : Retriever) : (s.setRtv n v).admQueue = s.admQueue := rfl
@[simp] theorem State.setRtv_power (s : State) (n : Nat) (v : Retriever) : (s.setRtv n v).power = s.power := rfl
@[simp] theorem State.setRtv_ledger (s : State) (n : Nat) (v : Retriever) : (s.setRtv n v).ledger = s.ledger := rfl
@[simp] theorem State.setRtv_stackSet (s : State) (n : Nat) (v : Retriever) : (s.setRtv n v).stackSet = s.stackSet := rfl
@[simp] theorem State.setRtv_dies (s : State) (n : Nat) (v : Retriever) : (s.setRtv n v).dies = s.dies := rfl
@[simp] theorem State.setRtv_pack (s : State) (n : Nat) (v : Retriever) : (s.setRtv n v).pack = s.pack := rfl
@[simp] theorem State.setRtv_swatch (s : State) (n : Nat) (v : Retriever) : (s.setRtv n v).swatch = s.swatch := rfl
@[simp] theorem State.setRtv_pci (s : State) (n : Nat) (v : Retriever) : (s.setRtv n v).pci = s.pci := rfl
@[simp] theorem State.setRtv_monitor (s : State) (n : Nat) (v : Retriever) : (s.setRtv n v).monitor = s.monitor := rfl
@[simp] theorem State.setRtv_flash (s : State) (n : Nat) (v : Retriever) : (s.setRtv n v).flash = s.flash := rfl
@[simp] theorem State.setRtv_start (s : State) (n : Nat) (v : Retriever) : (s.setRtv n v).start = s.start := rfl
@[simp] theorem State.setRtv_sec (s : State) (n : Nat) (v : Retriever) : (s.setRtv n v).sec = s.sec := rfl
@[simp] theorem State.setRtv_out (s : State) (n : Nat) (v : Retriever) : (s.setRtv n v).out = s.out := rfl
@[simp] theorem State.setRtv_hubUs (s : State) (n : Nat) (v : Retriever) : (s.setRtv n v).hubUs = s.hubUs := rfl
@[simp] theorem State.setRtv_timers (s : State) (n : Nat) (v : Retriever) : (s.setRtv n v).timers = s.timers := rfl
@[simp] theorem State.setRtv_freeCtr (s : State) (n : Nat) (v : Retriever) : (s.setRtv n v).freeCtr = s.freeCtr := rfl
@[simp] theorem State.setRtv_pending (s : State) (n : Nat) (v : Retriever) : (s.setRtv n v).pending = s.pending := rfl

/-! ## setArb writes arbs -/

@[simp] theorem State.setArb_regs (s : State) (a : Nat) (v : Arb) : (s.setArb a v).regs = s.regs := rfl
@[simp] theorem State.setArb_sels (s : State) (a : Nat) (v : Arb) : (s.setArb a v).sels = s.sels := rfl
@[simp] theorem State.setArb_stage (s : State) (a : Nat) (v : Arb) : (s.setArb a v).stage = s.stage := rfl
@[simp] theorem State.setArb_hbm (s : State) (a : Nat) (v : Arb) : (s.setArb a v).hbm = s.hbm := rfl
@[simp] theorem State.setArb_rings (s : State) (a : Nat) (v : Arb) : (s.setArb a v).rings = s.rings := rfl
@[simp] theorem State.setArb_sync (s : State) (a : Nat) (v : Arb) : (s.setArb a v).sync = s.sync := rfl
@[simp] theorem State.setArb_mirrors (s : State) (a : Nat) (v : Arb) : (s.setArb a v).mirrors = s.mirrors := rfl
@[simp] theorem State.setArb_mirrorWait (s : State) (a : Nat) (v : Arb) : (s.setArb a v).mirrorWait = s.mirrorWait := rfl
@[simp] theorem State.setArb_looms (s : State) (a : Nat) (v : Arb) : (s.setArb a v).looms = s.looms := rfl
@[simp] theorem State.setArb_panels (s : State) (a : Nat) (v : Arb) : (s.setArb a v).panels = s.panels := rfl
@[simp] theorem State.setArb_cores (s : State) (a : Nat) (v : Arb) : (s.setArb a v).cores = s.cores := rfl
@[simp] theorem State.setArb_rtvs (s : State) (a : Nat) (v : Arb) : (s.setArb a v).rtvs = s.rtvs := rfl
@[simp] theorem State.setArb_admQueue (s : State) (a : Nat) (v : Arb) : (s.setArb a v).admQueue = s.admQueue := rfl
@[simp] theorem State.setArb_power (s : State) (a : Nat) (v : Arb) : (s.setArb a v).power = s.power := rfl
@[simp] theorem State.setArb_ledger (s : State) (a : Nat) (v : Arb) : (s.setArb a v).ledger = s.ledger := rfl
@[simp] theorem State.setArb_stackSet (s : State) (a : Nat) (v : Arb) : (s.setArb a v).stackSet = s.stackSet := rfl
@[simp] theorem State.setArb_dies (s : State) (a : Nat) (v : Arb) : (s.setArb a v).dies = s.dies := rfl
@[simp] theorem State.setArb_pack (s : State) (a : Nat) (v : Arb) : (s.setArb a v).pack = s.pack := rfl
@[simp] theorem State.setArb_swatch (s : State) (a : Nat) (v : Arb) : (s.setArb a v).swatch = s.swatch := rfl
@[simp] theorem State.setArb_pci (s : State) (a : Nat) (v : Arb) : (s.setArb a v).pci = s.pci := rfl
@[simp] theorem State.setArb_monitor (s : State) (a : Nat) (v : Arb) : (s.setArb a v).monitor = s.monitor := rfl
@[simp] theorem State.setArb_flash (s : State) (a : Nat) (v : Arb) : (s.setArb a v).flash = s.flash := rfl
@[simp] theorem State.setArb_start (s : State) (a : Nat) (v : Arb) : (s.setArb a v).start = s.start := rfl
@[simp] theorem State.setArb_sec (s : State) (a : Nat) (v : Arb) : (s.setArb a v).sec = s.sec := rfl
@[simp] theorem State.setArb_out (s : State) (a : Nat) (v : Arb) : (s.setArb a v).out = s.out := rfl
@[simp] theorem State.setArb_hubUs (s : State) (a : Nat) (v : Arb) : (s.setArb a v).hubUs = s.hubUs := rfl
@[simp] theorem State.setArb_timers (s : State) (a : Nat) (v : Arb) : (s.setArb a v).timers = s.timers := rfl
@[simp] theorem State.setArb_freeCtr (s : State) (a : Nat) (v : Arb) : (s.setArb a v).freeCtr = s.freeCtr := rfl
@[simp] theorem State.setArb_pending (s : State) (a : Nat) (v : Arb) : (s.setArb a v).pending = s.pending := rfl

/-! ## setLoom writes looms -/

@[simp] theorem State.setLoom_regs (s : State) (n : Nat) (v : Loom) : (s.setLoom n v).regs = s.regs := rfl
@[simp] theorem State.setLoom_sels (s : State) (n : Nat) (v : Loom) : (s.setLoom n v).sels = s.sels := rfl
@[simp] theorem State.setLoom_stage (s : State) (n : Nat) (v : Loom) : (s.setLoom n v).stage = s.stage := rfl
@[simp] theorem State.setLoom_hbm (s : State) (n : Nat) (v : Loom) : (s.setLoom n v).hbm = s.hbm := rfl
@[simp] theorem State.setLoom_rings (s : State) (n : Nat) (v : Loom) : (s.setLoom n v).rings = s.rings := rfl
@[simp] theorem State.setLoom_sync (s : State) (n : Nat) (v : Loom) : (s.setLoom n v).sync = s.sync := rfl
@[simp] theorem State.setLoom_mirrors (s : State) (n : Nat) (v : Loom) : (s.setLoom n v).mirrors = s.mirrors := rfl
@[simp] theorem State.setLoom_mirrorWait (s : State) (n : Nat) (v : Loom) : (s.setLoom n v).mirrorWait = s.mirrorWait := rfl
@[simp] theorem State.setLoom_panels (s : State) (n : Nat) (v : Loom) : (s.setLoom n v).panels = s.panels := rfl
@[simp] theorem State.setLoom_cores (s : State) (n : Nat) (v : Loom) : (s.setLoom n v).cores = s.cores := rfl
@[simp] theorem State.setLoom_rtvs (s : State) (n : Nat) (v : Loom) : (s.setLoom n v).rtvs = s.rtvs := rfl
@[simp] theorem State.setLoom_arbs (s : State) (n : Nat) (v : Loom) : (s.setLoom n v).arbs = s.arbs := rfl
@[simp] theorem State.setLoom_admQueue (s : State) (n : Nat) (v : Loom) : (s.setLoom n v).admQueue = s.admQueue := rfl
@[simp] theorem State.setLoom_power (s : State) (n : Nat) (v : Loom) : (s.setLoom n v).power = s.power := rfl
@[simp] theorem State.setLoom_ledger (s : State) (n : Nat) (v : Loom) : (s.setLoom n v).ledger = s.ledger := rfl
@[simp] theorem State.setLoom_stackSet (s : State) (n : Nat) (v : Loom) : (s.setLoom n v).stackSet = s.stackSet := rfl
@[simp] theorem State.setLoom_dies (s : State) (n : Nat) (v : Loom) : (s.setLoom n v).dies = s.dies := rfl
@[simp] theorem State.setLoom_pack (s : State) (n : Nat) (v : Loom) : (s.setLoom n v).pack = s.pack := rfl
@[simp] theorem State.setLoom_swatch (s : State) (n : Nat) (v : Loom) : (s.setLoom n v).swatch = s.swatch := rfl
@[simp] theorem State.setLoom_pci (s : State) (n : Nat) (v : Loom) : (s.setLoom n v).pci = s.pci := rfl
@[simp] theorem State.setLoom_monitor (s : State) (n : Nat) (v : Loom) : (s.setLoom n v).monitor = s.monitor := rfl
@[simp] theorem State.setLoom_flash (s : State) (n : Nat) (v : Loom) : (s.setLoom n v).flash = s.flash := rfl
@[simp] theorem State.setLoom_start (s : State) (n : Nat) (v : Loom) : (s.setLoom n v).start = s.start := rfl
@[simp] theorem State.setLoom_sec (s : State) (n : Nat) (v : Loom) : (s.setLoom n v).sec = s.sec := rfl
@[simp] theorem State.setLoom_out (s : State) (n : Nat) (v : Loom) : (s.setLoom n v).out = s.out := rfl
@[simp] theorem State.setLoom_hubUs (s : State) (n : Nat) (v : Loom) : (s.setLoom n v).hubUs = s.hubUs := rfl
@[simp] theorem State.setLoom_timers (s : State) (n : Nat) (v : Loom) : (s.setLoom n v).timers = s.timers := rfl
@[simp] theorem State.setLoom_freeCtr (s : State) (n : Nat) (v : Loom) : (s.setLoom n v).freeCtr = s.freeCtr := rfl
@[simp] theorem State.setLoom_pending (s : State) (n : Nat) (v : Loom) : (s.setLoom n v).pending = s.pending := rfl

/-! ## setCore writes cores -/

@[simp] theorem State.setCore_regs (s : State) (n r c : Nat) (v : Core) : (s.setCore n r c v).regs = s.regs := rfl
@[simp] theorem State.setCore_sels (s : State) (n r c : Nat) (v : Core) : (s.setCore n r c v).sels = s.sels := rfl
@[simp] theorem State.setCore_stage (s : State) (n r c : Nat) (v : Core) : (s.setCore n r c v).stage = s.stage := rfl
@[simp] theorem State.setCore_hbm (s : State) (n r c : Nat) (v : Core) : (s.setCore n r c v).hbm = s.hbm := rfl
@[simp] theorem State.setCore_rings (s : State) (n r c : Nat) (v : Core) : (s.setCore n r c v).rings = s.rings := rfl
@[simp] theorem State.setCore_sync (s : State) (n r c : Nat) (v : Core) : (s.setCore n r c v).sync = s.sync := rfl
@[simp] theorem State.setCore_mirrors (s : State) (n r c : Nat) (v : Core) : (s.setCore n r c v).mirrors = s.mirrors := rfl
@[simp] theorem State.setCore_mirrorWait (s : State) (n r c : Nat) (v : Core) : (s.setCore n r c v).mirrorWait = s.mirrorWait := rfl
@[simp] theorem State.setCore_looms (s : State) (n r c : Nat) (v : Core) : (s.setCore n r c v).looms = s.looms := rfl
@[simp] theorem State.setCore_panels (s : State) (n r c : Nat) (v : Core) : (s.setCore n r c v).panels = s.panels := rfl
@[simp] theorem State.setCore_rtvs (s : State) (n r c : Nat) (v : Core) : (s.setCore n r c v).rtvs = s.rtvs := rfl
@[simp] theorem State.setCore_arbs (s : State) (n r c : Nat) (v : Core) : (s.setCore n r c v).arbs = s.arbs := rfl
@[simp] theorem State.setCore_admQueue (s : State) (n r c : Nat) (v : Core) : (s.setCore n r c v).admQueue = s.admQueue := rfl
@[simp] theorem State.setCore_power (s : State) (n r c : Nat) (v : Core) : (s.setCore n r c v).power = s.power := rfl
@[simp] theorem State.setCore_ledger (s : State) (n r c : Nat) (v : Core) : (s.setCore n r c v).ledger = s.ledger := rfl
@[simp] theorem State.setCore_stackSet (s : State) (n r c : Nat) (v : Core) : (s.setCore n r c v).stackSet = s.stackSet := rfl
@[simp] theorem State.setCore_dies (s : State) (n r c : Nat) (v : Core) : (s.setCore n r c v).dies = s.dies := rfl
@[simp] theorem State.setCore_pack (s : State) (n r c : Nat) (v : Core) : (s.setCore n r c v).pack = s.pack := rfl
@[simp] theorem State.setCore_swatch (s : State) (n r c : Nat) (v : Core) : (s.setCore n r c v).swatch = s.swatch := rfl
@[simp] theorem State.setCore_pci (s : State) (n r c : Nat) (v : Core) : (s.setCore n r c v).pci = s.pci := rfl
@[simp] theorem State.setCore_monitor (s : State) (n r c : Nat) (v : Core) : (s.setCore n r c v).monitor = s.monitor := rfl
@[simp] theorem State.setCore_flash (s : State) (n r c : Nat) (v : Core) : (s.setCore n r c v).flash = s.flash := rfl
@[simp] theorem State.setCore_start (s : State) (n r c : Nat) (v : Core) : (s.setCore n r c v).start = s.start := rfl
@[simp] theorem State.setCore_sec (s : State) (n r c : Nat) (v : Core) : (s.setCore n r c v).sec = s.sec := rfl
@[simp] theorem State.setCore_out (s : State) (n r c : Nat) (v : Core) : (s.setCore n r c v).out = s.out := rfl
@[simp] theorem State.setCore_hubUs (s : State) (n r c : Nat) (v : Core) : (s.setCore n r c v).hubUs = s.hubUs := rfl
@[simp] theorem State.setCore_timers (s : State) (n r c : Nat) (v : Core) : (s.setCore n r c v).timers = s.timers := rfl
@[simp] theorem State.setCore_freeCtr (s : State) (n r c : Nat) (v : Core) : (s.setCore n r c v).freeCtr = s.freeCtr := rfl
@[simp] theorem State.setCore_pending (s : State) (n r c : Nat) (v : Core) : (s.setCore n r c v).pending = s.pending := rfl

/-! ## setCluster writes power -/

@[simp] theorem State.setCluster_regs (s : State) (c : Nat) (v : Cluster) : (s.setCluster c v).regs = s.regs := rfl
@[simp] theorem State.setCluster_sels (s : State) (c : Nat) (v : Cluster) : (s.setCluster c v).sels = s.sels := rfl
@[simp] theorem State.setCluster_stage (s : State) (c : Nat) (v : Cluster) : (s.setCluster c v).stage = s.stage := rfl
@[simp] theorem State.setCluster_hbm (s : State) (c : Nat) (v : Cluster) : (s.setCluster c v).hbm = s.hbm := rfl
@[simp] theorem State.setCluster_rings (s : State) (c : Nat) (v : Cluster) : (s.setCluster c v).rings = s.rings := rfl
@[simp] theorem State.setCluster_sync (s : State) (c : Nat) (v : Cluster) : (s.setCluster c v).sync = s.sync := rfl
@[simp] theorem State.setCluster_mirrors (s : State) (c : Nat) (v : Cluster) : (s.setCluster c v).mirrors = s.mirrors := rfl
@[simp] theorem State.setCluster_mirrorWait (s : State) (c : Nat) (v : Cluster) : (s.setCluster c v).mirrorWait = s.mirrorWait := rfl
@[simp] theorem State.setCluster_looms (s : State) (c : Nat) (v : Cluster) : (s.setCluster c v).looms = s.looms := rfl
@[simp] theorem State.setCluster_panels (s : State) (c : Nat) (v : Cluster) : (s.setCluster c v).panels = s.panels := rfl
@[simp] theorem State.setCluster_cores (s : State) (c : Nat) (v : Cluster) : (s.setCluster c v).cores = s.cores := rfl
@[simp] theorem State.setCluster_rtvs (s : State) (c : Nat) (v : Cluster) : (s.setCluster c v).rtvs = s.rtvs := rfl
@[simp] theorem State.setCluster_arbs (s : State) (c : Nat) (v : Cluster) : (s.setCluster c v).arbs = s.arbs := rfl
@[simp] theorem State.setCluster_admQueue (s : State) (c : Nat) (v : Cluster) : (s.setCluster c v).admQueue = s.admQueue := rfl
@[simp] theorem State.setCluster_ledger (s : State) (c : Nat) (v : Cluster) : (s.setCluster c v).ledger = s.ledger := rfl
@[simp] theorem State.setCluster_stackSet (s : State) (c : Nat) (v : Cluster) : (s.setCluster c v).stackSet = s.stackSet := rfl
@[simp] theorem State.setCluster_dies (s : State) (c : Nat) (v : Cluster) : (s.setCluster c v).dies = s.dies := rfl
@[simp] theorem State.setCluster_pack (s : State) (c : Nat) (v : Cluster) : (s.setCluster c v).pack = s.pack := rfl
@[simp] theorem State.setCluster_swatch (s : State) (c : Nat) (v : Cluster) : (s.setCluster c v).swatch = s.swatch := rfl
@[simp] theorem State.setCluster_pci (s : State) (c : Nat) (v : Cluster) : (s.setCluster c v).pci = s.pci := rfl
@[simp] theorem State.setCluster_monitor (s : State) (c : Nat) (v : Cluster) : (s.setCluster c v).monitor = s.monitor := rfl
@[simp] theorem State.setCluster_flash (s : State) (c : Nat) (v : Cluster) : (s.setCluster c v).flash = s.flash := rfl
@[simp] theorem State.setCluster_start (s : State) (c : Nat) (v : Cluster) : (s.setCluster c v).start = s.start := rfl
@[simp] theorem State.setCluster_sec (s : State) (c : Nat) (v : Cluster) : (s.setCluster c v).sec = s.sec := rfl
@[simp] theorem State.setCluster_out (s : State) (c : Nat) (v : Cluster) : (s.setCluster c v).out = s.out := rfl
@[simp] theorem State.setCluster_hubUs (s : State) (c : Nat) (v : Cluster) : (s.setCluster c v).hubUs = s.hubUs := rfl
@[simp] theorem State.setCluster_timers (s : State) (c : Nat) (v : Cluster) : (s.setCluster c v).timers = s.timers := rfl
@[simp] theorem State.setCluster_freeCtr (s : State) (c : Nat) (v : Cluster) : (s.setCluster c v).freeCtr = s.freeCtr := rfl
@[simp] theorem State.setCluster_pending (s : State) (c : Nat) (v : Cluster) : (s.setCluster c v).pending = s.pending := rfl

/-! ## setQuad writes power -/

@[simp] theorem State.setQuad_regs (s : State) (q : Nat) (v : Quad) : (s.setQuad q v).regs = s.regs := rfl
@[simp] theorem State.setQuad_sels (s : State) (q : Nat) (v : Quad) : (s.setQuad q v).sels = s.sels := rfl
@[simp] theorem State.setQuad_stage (s : State) (q : Nat) (v : Quad) : (s.setQuad q v).stage = s.stage := rfl
@[simp] theorem State.setQuad_hbm (s : State) (q : Nat) (v : Quad) : (s.setQuad q v).hbm = s.hbm := rfl
@[simp] theorem State.setQuad_rings (s : State) (q : Nat) (v : Quad) : (s.setQuad q v).rings = s.rings := rfl
@[simp] theorem State.setQuad_sync (s : State) (q : Nat) (v : Quad) : (s.setQuad q v).sync = s.sync := rfl
@[simp] theorem State.setQuad_mirrors (s : State) (q : Nat) (v : Quad) : (s.setQuad q v).mirrors = s.mirrors := rfl
@[simp] theorem State.setQuad_mirrorWait (s : State) (q : Nat) (v : Quad) : (s.setQuad q v).mirrorWait = s.mirrorWait := rfl
@[simp] theorem State.setQuad_looms (s : State) (q : Nat) (v : Quad) : (s.setQuad q v).looms = s.looms := rfl
@[simp] theorem State.setQuad_panels (s : State) (q : Nat) (v : Quad) : (s.setQuad q v).panels = s.panels := rfl
@[simp] theorem State.setQuad_cores (s : State) (q : Nat) (v : Quad) : (s.setQuad q v).cores = s.cores := rfl
@[simp] theorem State.setQuad_rtvs (s : State) (q : Nat) (v : Quad) : (s.setQuad q v).rtvs = s.rtvs := rfl
@[simp] theorem State.setQuad_arbs (s : State) (q : Nat) (v : Quad) : (s.setQuad q v).arbs = s.arbs := rfl
@[simp] theorem State.setQuad_admQueue (s : State) (q : Nat) (v : Quad) : (s.setQuad q v).admQueue = s.admQueue := rfl
@[simp] theorem State.setQuad_ledger (s : State) (q : Nat) (v : Quad) : (s.setQuad q v).ledger = s.ledger := rfl
@[simp] theorem State.setQuad_stackSet (s : State) (q : Nat) (v : Quad) : (s.setQuad q v).stackSet = s.stackSet := rfl
@[simp] theorem State.setQuad_dies (s : State) (q : Nat) (v : Quad) : (s.setQuad q v).dies = s.dies := rfl
@[simp] theorem State.setQuad_pack (s : State) (q : Nat) (v : Quad) : (s.setQuad q v).pack = s.pack := rfl
@[simp] theorem State.setQuad_swatch (s : State) (q : Nat) (v : Quad) : (s.setQuad q v).swatch = s.swatch := rfl
@[simp] theorem State.setQuad_pci (s : State) (q : Nat) (v : Quad) : (s.setQuad q v).pci = s.pci := rfl
@[simp] theorem State.setQuad_monitor (s : State) (q : Nat) (v : Quad) : (s.setQuad q v).monitor = s.monitor := rfl
@[simp] theorem State.setQuad_flash (s : State) (q : Nat) (v : Quad) : (s.setQuad q v).flash = s.flash := rfl
@[simp] theorem State.setQuad_start (s : State) (q : Nat) (v : Quad) : (s.setQuad q v).start = s.start := rfl
@[simp] theorem State.setQuad_sec (s : State) (q : Nat) (v : Quad) : (s.setQuad q v).sec = s.sec := rfl
@[simp] theorem State.setQuad_out (s : State) (q : Nat) (v : Quad) : (s.setQuad q v).out = s.out := rfl
@[simp] theorem State.setQuad_hubUs (s : State) (q : Nat) (v : Quad) : (s.setQuad q v).hubUs = s.hubUs := rfl
@[simp] theorem State.setQuad_timers (s : State) (q : Nat) (v : Quad) : (s.setQuad q v).timers = s.timers := rfl
@[simp] theorem State.setQuad_freeCtr (s : State) (q : Nat) (v : Quad) : (s.setQuad q v).freeCtr = s.freeCtr := rfl
@[simp] theorem State.setQuad_pending (s : State) (q : Nat) (v : Quad) : (s.setQuad q v).pending = s.pending := rfl

/-! ## setPort writes pack -/

@[simp] theorem State.setPort_regs (s : State) (p : Nat) (v : Port) : (s.setPort p v).regs = s.regs := rfl
@[simp] theorem State.setPort_sels (s : State) (p : Nat) (v : Port) : (s.setPort p v).sels = s.sels := rfl
@[simp] theorem State.setPort_stage (s : State) (p : Nat) (v : Port) : (s.setPort p v).stage = s.stage := rfl
@[simp] theorem State.setPort_hbm (s : State) (p : Nat) (v : Port) : (s.setPort p v).hbm = s.hbm := rfl
@[simp] theorem State.setPort_rings (s : State) (p : Nat) (v : Port) : (s.setPort p v).rings = s.rings := rfl
@[simp] theorem State.setPort_sync (s : State) (p : Nat) (v : Port) : (s.setPort p v).sync = s.sync := rfl
@[simp] theorem State.setPort_mirrors (s : State) (p : Nat) (v : Port) : (s.setPort p v).mirrors = s.mirrors := rfl
@[simp] theorem State.setPort_mirrorWait (s : State) (p : Nat) (v : Port) : (s.setPort p v).mirrorWait = s.mirrorWait := rfl
@[simp] theorem State.setPort_looms (s : State) (p : Nat) (v : Port) : (s.setPort p v).looms = s.looms := rfl
@[simp] theorem State.setPort_panels (s : State) (p : Nat) (v : Port) : (s.setPort p v).panels = s.panels := rfl
@[simp] theorem State.setPort_cores (s : State) (p : Nat) (v : Port) : (s.setPort p v).cores = s.cores := rfl
@[simp] theorem State.setPort_rtvs (s : State) (p : Nat) (v : Port) : (s.setPort p v).rtvs = s.rtvs := rfl
@[simp] theorem State.setPort_arbs (s : State) (p : Nat) (v : Port) : (s.setPort p v).arbs = s.arbs := rfl
@[simp] theorem State.setPort_admQueue (s : State) (p : Nat) (v : Port) : (s.setPort p v).admQueue = s.admQueue := rfl
@[simp] theorem State.setPort_power (s : State) (p : Nat) (v : Port) : (s.setPort p v).power = s.power := rfl
@[simp] theorem State.setPort_ledger (s : State) (p : Nat) (v : Port) : (s.setPort p v).ledger = s.ledger := rfl
@[simp] theorem State.setPort_stackSet (s : State) (p : Nat) (v : Port) : (s.setPort p v).stackSet = s.stackSet := rfl
@[simp] theorem State.setPort_dies (s : State) (p : Nat) (v : Port) : (s.setPort p v).dies = s.dies := rfl
@[simp] theorem State.setPort_swatch (s : State) (p : Nat) (v : Port) : (s.setPort p v).swatch = s.swatch := rfl
@[simp] theorem State.setPort_pci (s : State) (p : Nat) (v : Port) : (s.setPort p v).pci = s.pci := rfl
@[simp] theorem State.setPort_monitor (s : State) (p : Nat) (v : Port) : (s.setPort p v).monitor = s.monitor := rfl
@[simp] theorem State.setPort_flash (s : State) (p : Nat) (v : Port) : (s.setPort p v).flash = s.flash := rfl
@[simp] theorem State.setPort_start (s : State) (p : Nat) (v : Port) : (s.setPort p v).start = s.start := rfl
@[simp] theorem State.setPort_sec (s : State) (p : Nat) (v : Port) : (s.setPort p v).sec = s.sec := rfl
@[simp] theorem State.setPort_out (s : State) (p : Nat) (v : Port) : (s.setPort p v).out = s.out := rfl
@[simp] theorem State.setPort_hubUs (s : State) (p : Nat) (v : Port) : (s.setPort p v).hubUs = s.hubUs := rfl
@[simp] theorem State.setPort_timers (s : State) (p : Nat) (v : Port) : (s.setPort p v).timers = s.timers := rfl
@[simp] theorem State.setPort_freeCtr (s : State) (p : Nat) (v : Port) : (s.setPort p v).freeCtr = s.freeCtr := rfl
@[simp] theorem State.setPort_pending (s : State) (p : Nat) (v : Port) : (s.setPort p v).pending = s.pending := rfl

/-! ## setAccount writes ledger -/

@[simp] theorem State.setAccount_regs (s : State) (n : Nat) (v : Account) : (s.setAccount n v).regs = s.regs := rfl
@[simp] theorem State.setAccount_sels (s : State) (n : Nat) (v : Account) : (s.setAccount n v).sels = s.sels := rfl
@[simp] theorem State.setAccount_stage (s : State) (n : Nat) (v : Account) : (s.setAccount n v).stage = s.stage := rfl
@[simp] theorem State.setAccount_hbm (s : State) (n : Nat) (v : Account) : (s.setAccount n v).hbm = s.hbm := rfl
@[simp] theorem State.setAccount_rings (s : State) (n : Nat) (v : Account) : (s.setAccount n v).rings = s.rings := rfl
@[simp] theorem State.setAccount_sync (s : State) (n : Nat) (v : Account) : (s.setAccount n v).sync = s.sync := rfl
@[simp] theorem State.setAccount_mirrors (s : State) (n : Nat) (v : Account) : (s.setAccount n v).mirrors = s.mirrors := rfl
@[simp] theorem State.setAccount_mirrorWait (s : State) (n : Nat) (v : Account) : (s.setAccount n v).mirrorWait = s.mirrorWait := rfl
@[simp] theorem State.setAccount_looms (s : State) (n : Nat) (v : Account) : (s.setAccount n v).looms = s.looms := rfl
@[simp] theorem State.setAccount_panels (s : State) (n : Nat) (v : Account) : (s.setAccount n v).panels = s.panels := rfl
@[simp] theorem State.setAccount_cores (s : State) (n : Nat) (v : Account) : (s.setAccount n v).cores = s.cores := rfl
@[simp] theorem State.setAccount_rtvs (s : State) (n : Nat) (v : Account) : (s.setAccount n v).rtvs = s.rtvs := rfl
@[simp] theorem State.setAccount_arbs (s : State) (n : Nat) (v : Account) : (s.setAccount n v).arbs = s.arbs := rfl
@[simp] theorem State.setAccount_admQueue (s : State) (n : Nat) (v : Account) : (s.setAccount n v).admQueue = s.admQueue := rfl
@[simp] theorem State.setAccount_power (s : State) (n : Nat) (v : Account) : (s.setAccount n v).power = s.power := rfl
@[simp] theorem State.setAccount_stackSet (s : State) (n : Nat) (v : Account) : (s.setAccount n v).stackSet = s.stackSet := rfl
@[simp] theorem State.setAccount_dies (s : State) (n : Nat) (v : Account) : (s.setAccount n v).dies = s.dies := rfl
@[simp] theorem State.setAccount_pack (s : State) (n : Nat) (v : Account) : (s.setAccount n v).pack = s.pack := rfl
@[simp] theorem State.setAccount_swatch (s : State) (n : Nat) (v : Account) : (s.setAccount n v).swatch = s.swatch := rfl
@[simp] theorem State.setAccount_pci (s : State) (n : Nat) (v : Account) : (s.setAccount n v).pci = s.pci := rfl
@[simp] theorem State.setAccount_monitor (s : State) (n : Nat) (v : Account) : (s.setAccount n v).monitor = s.monitor := rfl
@[simp] theorem State.setAccount_flash (s : State) (n : Nat) (v : Account) : (s.setAccount n v).flash = s.flash := rfl
@[simp] theorem State.setAccount_start (s : State) (n : Nat) (v : Account) : (s.setAccount n v).start = s.start := rfl
@[simp] theorem State.setAccount_sec (s : State) (n : Nat) (v : Account) : (s.setAccount n v).sec = s.sec := rfl
@[simp] theorem State.setAccount_out (s : State) (n : Nat) (v : Account) : (s.setAccount n v).out = s.out := rfl
@[simp] theorem State.setAccount_hubUs (s : State) (n : Nat) (v : Account) : (s.setAccount n v).hubUs = s.hubUs := rfl
@[simp] theorem State.setAccount_timers (s : State) (n : Nat) (v : Account) : (s.setAccount n v).timers = s.timers := rfl
@[simp] theorem State.setAccount_freeCtr (s : State) (n : Nat) (v : Account) : (s.setAccount n v).freeCtr = s.freeCtr := rfl
@[simp] theorem State.setAccount_pending (s : State) (n : Nat) (v : Account) : (s.setAccount n v).pending = s.pending := rfl

/-! ## setObj writes sync -/

@[simp] theorem State.setObj_regs (s : State) (o : Nat) (v : SyncObj) : (s.setObj o v).regs = s.regs := rfl
@[simp] theorem State.setObj_sels (s : State) (o : Nat) (v : SyncObj) : (s.setObj o v).sels = s.sels := rfl
@[simp] theorem State.setObj_stage (s : State) (o : Nat) (v : SyncObj) : (s.setObj o v).stage = s.stage := rfl
@[simp] theorem State.setObj_hbm (s : State) (o : Nat) (v : SyncObj) : (s.setObj o v).hbm = s.hbm := rfl
@[simp] theorem State.setObj_rings (s : State) (o : Nat) (v : SyncObj) : (s.setObj o v).rings = s.rings := rfl
@[simp] theorem State.setObj_mirrors (s : State) (o : Nat) (v : SyncObj) : (s.setObj o v).mirrors = s.mirrors := rfl
@[simp] theorem State.setObj_mirrorWait (s : State) (o : Nat) (v : SyncObj) : (s.setObj o v).mirrorWait = s.mirrorWait := rfl
@[simp] theorem State.setObj_looms (s : State) (o : Nat) (v : SyncObj) : (s.setObj o v).looms = s.looms := rfl
@[simp] theorem State.setObj_panels (s : State) (o : Nat) (v : SyncObj) : (s.setObj o v).panels = s.panels := rfl
@[simp] theorem State.setObj_cores (s : State) (o : Nat) (v : SyncObj) : (s.setObj o v).cores = s.cores := rfl
@[simp] theorem State.setObj_rtvs (s : State) (o : Nat) (v : SyncObj) : (s.setObj o v).rtvs = s.rtvs := rfl
@[simp] theorem State.setObj_arbs (s : State) (o : Nat) (v : SyncObj) : (s.setObj o v).arbs = s.arbs := rfl
@[simp] theorem State.setObj_admQueue (s : State) (o : Nat) (v : SyncObj) : (s.setObj o v).admQueue = s.admQueue := rfl
@[simp] theorem State.setObj_power (s : State) (o : Nat) (v : SyncObj) : (s.setObj o v).power = s.power := rfl
@[simp] theorem State.setObj_ledger (s : State) (o : Nat) (v : SyncObj) : (s.setObj o v).ledger = s.ledger := rfl
@[simp] theorem State.setObj_stackSet (s : State) (o : Nat) (v : SyncObj) : (s.setObj o v).stackSet = s.stackSet := rfl
@[simp] theorem State.setObj_dies (s : State) (o : Nat) (v : SyncObj) : (s.setObj o v).dies = s.dies := rfl
@[simp] theorem State.setObj_pack (s : State) (o : Nat) (v : SyncObj) : (s.setObj o v).pack = s.pack := rfl
@[simp] theorem State.setObj_swatch (s : State) (o : Nat) (v : SyncObj) : (s.setObj o v).swatch = s.swatch := rfl
@[simp] theorem State.setObj_pci (s : State) (o : Nat) (v : SyncObj) : (s.setObj o v).pci = s.pci := rfl
@[simp] theorem State.setObj_monitor (s : State) (o : Nat) (v : SyncObj) : (s.setObj o v).monitor = s.monitor := rfl
@[simp] theorem State.setObj_flash (s : State) (o : Nat) (v : SyncObj) : (s.setObj o v).flash = s.flash := rfl
@[simp] theorem State.setObj_start (s : State) (o : Nat) (v : SyncObj) : (s.setObj o v).start = s.start := rfl
@[simp] theorem State.setObj_sec (s : State) (o : Nat) (v : SyncObj) : (s.setObj o v).sec = s.sec := rfl
@[simp] theorem State.setObj_out (s : State) (o : Nat) (v : SyncObj) : (s.setObj o v).out = s.out := rfl
@[simp] theorem State.setObj_hubUs (s : State) (o : Nat) (v : SyncObj) : (s.setObj o v).hubUs = s.hubUs := rfl
@[simp] theorem State.setObj_timers (s : State) (o : Nat) (v : SyncObj) : (s.setObj o v).timers = s.timers := rfl
@[simp] theorem State.setObj_freeCtr (s : State) (o : Nat) (v : SyncObj) : (s.setObj o v).freeCtr = s.freeCtr := rfl
@[simp] theorem State.setObj_pending (s : State) (o : Nat) (v : SyncObj) : (s.setObj o v).pending = s.pending := rfl

/-! ## setChan writes rtvs -/

@[simp] theorem State.setChan_regs (s : State) (n c : Nat) (v : Channel) : (s.setChan n c v).regs = s.regs := rfl
@[simp] theorem State.setChan_sels (s : State) (n c : Nat) (v : Channel) : (s.setChan n c v).sels = s.sels := rfl
@[simp] theorem State.setChan_stage (s : State) (n c : Nat) (v : Channel) : (s.setChan n c v).stage = s.stage := rfl
@[simp] theorem State.setChan_hbm (s : State) (n c : Nat) (v : Channel) : (s.setChan n c v).hbm = s.hbm := rfl
@[simp] theorem State.setChan_rings (s : State) (n c : Nat) (v : Channel) : (s.setChan n c v).rings = s.rings := rfl
@[simp] theorem State.setChan_sync (s : State) (n c : Nat) (v : Channel) : (s.setChan n c v).sync = s.sync := rfl
@[simp] theorem State.setChan_mirrors (s : State) (n c : Nat) (v : Channel) : (s.setChan n c v).mirrors = s.mirrors := rfl
@[simp] theorem State.setChan_mirrorWait (s : State) (n c : Nat) (v : Channel) : (s.setChan n c v).mirrorWait = s.mirrorWait := rfl
@[simp] theorem State.setChan_looms (s : State) (n c : Nat) (v : Channel) : (s.setChan n c v).looms = s.looms := rfl
@[simp] theorem State.setChan_panels (s : State) (n c : Nat) (v : Channel) : (s.setChan n c v).panels = s.panels := rfl
@[simp] theorem State.setChan_cores (s : State) (n c : Nat) (v : Channel) : (s.setChan n c v).cores = s.cores := rfl
@[simp] theorem State.setChan_arbs (s : State) (n c : Nat) (v : Channel) : (s.setChan n c v).arbs = s.arbs := rfl
@[simp] theorem State.setChan_admQueue (s : State) (n c : Nat) (v : Channel) : (s.setChan n c v).admQueue = s.admQueue := rfl
@[simp] theorem State.setChan_power (s : State) (n c : Nat) (v : Channel) : (s.setChan n c v).power = s.power := rfl
@[simp] theorem State.setChan_ledger (s : State) (n c : Nat) (v : Channel) : (s.setChan n c v).ledger = s.ledger := rfl
@[simp] theorem State.setChan_stackSet (s : State) (n c : Nat) (v : Channel) : (s.setChan n c v).stackSet = s.stackSet := rfl
@[simp] theorem State.setChan_dies (s : State) (n c : Nat) (v : Channel) : (s.setChan n c v).dies = s.dies := rfl
@[simp] theorem State.setChan_pack (s : State) (n c : Nat) (v : Channel) : (s.setChan n c v).pack = s.pack := rfl
@[simp] theorem State.setChan_swatch (s : State) (n c : Nat) (v : Channel) : (s.setChan n c v).swatch = s.swatch := rfl
@[simp] theorem State.setChan_pci (s : State) (n c : Nat) (v : Channel) : (s.setChan n c v).pci = s.pci := rfl
@[simp] theorem State.setChan_monitor (s : State) (n c : Nat) (v : Channel) : (s.setChan n c v).monitor = s.monitor := rfl
@[simp] theorem State.setChan_flash (s : State) (n c : Nat) (v : Channel) : (s.setChan n c v).flash = s.flash := rfl
@[simp] theorem State.setChan_start (s : State) (n c : Nat) (v : Channel) : (s.setChan n c v).start = s.start := rfl
@[simp] theorem State.setChan_sec (s : State) (n c : Nat) (v : Channel) : (s.setChan n c v).sec = s.sec := rfl
@[simp] theorem State.setChan_out (s : State) (n c : Nat) (v : Channel) : (s.setChan n c v).out = s.out := rfl
@[simp] theorem State.setChan_hubUs (s : State) (n c : Nat) (v : Channel) : (s.setChan n c v).hubUs = s.hubUs := rfl
@[simp] theorem State.setChan_timers (s : State) (n c : Nat) (v : Channel) : (s.setChan n c v).timers = s.timers := rfl
@[simp] theorem State.setChan_freeCtr (s : State) (n c : Nat) (v : Channel) : (s.setChan n c v).freeCtr = s.freeCtr := rfl
@[simp] theorem State.setChan_pending (s : State) (n c : Nat) (v : Channel) : (s.setChan n c v).pending = s.pending := rfl

/-! ## setTrickle writes rtvs -/

@[simp] theorem State.setTrickle_regs (s : State) (n f : Nat) (v : Trickle) : (s.setTrickle n f v).regs = s.regs := rfl
@[simp] theorem State.setTrickle_sels (s : State) (n f : Nat) (v : Trickle) : (s.setTrickle n f v).sels = s.sels := rfl
@[simp] theorem State.setTrickle_stage (s : State) (n f : Nat) (v : Trickle) : (s.setTrickle n f v).stage = s.stage := rfl
@[simp] theorem State.setTrickle_hbm (s : State) (n f : Nat) (v : Trickle) : (s.setTrickle n f v).hbm = s.hbm := rfl
@[simp] theorem State.setTrickle_rings (s : State) (n f : Nat) (v : Trickle) : (s.setTrickle n f v).rings = s.rings := rfl
@[simp] theorem State.setTrickle_sync (s : State) (n f : Nat) (v : Trickle) : (s.setTrickle n f v).sync = s.sync := rfl
@[simp] theorem State.setTrickle_mirrors (s : State) (n f : Nat) (v : Trickle) : (s.setTrickle n f v).mirrors = s.mirrors := rfl
@[simp] theorem State.setTrickle_mirrorWait (s : State) (n f : Nat) (v : Trickle) : (s.setTrickle n f v).mirrorWait = s.mirrorWait := rfl
@[simp] theorem State.setTrickle_looms (s : State) (n f : Nat) (v : Trickle) : (s.setTrickle n f v).looms = s.looms := rfl
@[simp] theorem State.setTrickle_panels (s : State) (n f : Nat) (v : Trickle) : (s.setTrickle n f v).panels = s.panels := rfl
@[simp] theorem State.setTrickle_cores (s : State) (n f : Nat) (v : Trickle) : (s.setTrickle n f v).cores = s.cores := rfl
@[simp] theorem State.setTrickle_arbs (s : State) (n f : Nat) (v : Trickle) : (s.setTrickle n f v).arbs = s.arbs := rfl
@[simp] theorem State.setTrickle_admQueue (s : State) (n f : Nat) (v : Trickle) : (s.setTrickle n f v).admQueue = s.admQueue := rfl
@[simp] theorem State.setTrickle_power (s : State) (n f : Nat) (v : Trickle) : (s.setTrickle n f v).power = s.power := rfl
@[simp] theorem State.setTrickle_ledger (s : State) (n f : Nat) (v : Trickle) : (s.setTrickle n f v).ledger = s.ledger := rfl
@[simp] theorem State.setTrickle_stackSet (s : State) (n f : Nat) (v : Trickle) : (s.setTrickle n f v).stackSet = s.stackSet := rfl
@[simp] theorem State.setTrickle_dies (s : State) (n f : Nat) (v : Trickle) : (s.setTrickle n f v).dies = s.dies := rfl
@[simp] theorem State.setTrickle_pack (s : State) (n f : Nat) (v : Trickle) : (s.setTrickle n f v).pack = s.pack := rfl
@[simp] theorem State.setTrickle_swatch (s : State) (n f : Nat) (v : Trickle) : (s.setTrickle n f v).swatch = s.swatch := rfl
@[simp] theorem State.setTrickle_pci (s : State) (n f : Nat) (v : Trickle) : (s.setTrickle n f v).pci = s.pci := rfl
@[simp] theorem State.setTrickle_monitor (s : State) (n f : Nat) (v : Trickle) : (s.setTrickle n f v).monitor = s.monitor := rfl
@[simp] theorem State.setTrickle_flash (s : State) (n f : Nat) (v : Trickle) : (s.setTrickle n f v).flash = s.flash := rfl
@[simp] theorem State.setTrickle_start (s : State) (n f : Nat) (v : Trickle) : (s.setTrickle n f v).start = s.start := rfl
@[simp] theorem State.setTrickle_sec (s : State) (n f : Nat) (v : Trickle) : (s.setTrickle n f v).sec = s.sec := rfl
@[simp] theorem State.setTrickle_out (s : State) (n f : Nat) (v : Trickle) : (s.setTrickle n f v).out = s.out := rfl
@[simp] theorem State.setTrickle_hubUs (s : State) (n f : Nat) (v : Trickle) : (s.setTrickle n f v).hubUs = s.hubUs := rfl
@[simp] theorem State.setTrickle_timers (s : State) (n f : Nat) (v : Trickle) : (s.setTrickle n f v).timers = s.timers := rfl
@[simp] theorem State.setTrickle_freeCtr (s : State) (n f : Nat) (v : Trickle) : (s.setTrickle n f v).freeCtr = s.freeCtr := rfl
@[simp] theorem State.setTrickle_pending (s : State) (n f : Nat) (v : Trickle) : (s.setTrickle n f v).pending = s.pending := rfl

/-! ## startPeriod writes timers -/

@[simp] theorem startPeriod_regs (s : State) (k us : Nat) : (startPeriod s k us).regs = s.regs := rfl
@[simp] theorem startPeriod_sels (s : State) (k us : Nat) : (startPeriod s k us).sels = s.sels := rfl
@[simp] theorem startPeriod_stage (s : State) (k us : Nat) : (startPeriod s k us).stage = s.stage := rfl
@[simp] theorem startPeriod_hbm (s : State) (k us : Nat) : (startPeriod s k us).hbm = s.hbm := rfl
@[simp] theorem startPeriod_rings (s : State) (k us : Nat) : (startPeriod s k us).rings = s.rings := rfl
@[simp] theorem startPeriod_sync (s : State) (k us : Nat) : (startPeriod s k us).sync = s.sync := rfl
@[simp] theorem startPeriod_mirrors (s : State) (k us : Nat) : (startPeriod s k us).mirrors = s.mirrors := rfl
@[simp] theorem startPeriod_mirrorWait (s : State) (k us : Nat) : (startPeriod s k us).mirrorWait = s.mirrorWait := rfl
@[simp] theorem startPeriod_looms (s : State) (k us : Nat) : (startPeriod s k us).looms = s.looms := rfl
@[simp] theorem startPeriod_panels (s : State) (k us : Nat) : (startPeriod s k us).panels = s.panels := rfl
@[simp] theorem startPeriod_cores (s : State) (k us : Nat) : (startPeriod s k us).cores = s.cores := rfl
@[simp] theorem startPeriod_rtvs (s : State) (k us : Nat) : (startPeriod s k us).rtvs = s.rtvs := rfl
@[simp] theorem startPeriod_arbs (s : State) (k us : Nat) : (startPeriod s k us).arbs = s.arbs := rfl
@[simp] theorem startPeriod_admQueue (s : State) (k us : Nat) : (startPeriod s k us).admQueue = s.admQueue := rfl
@[simp] theorem startPeriod_power (s : State) (k us : Nat) : (startPeriod s k us).power = s.power := rfl
@[simp] theorem startPeriod_ledger (s : State) (k us : Nat) : (startPeriod s k us).ledger = s.ledger := rfl
@[simp] theorem startPeriod_stackSet (s : State) (k us : Nat) : (startPeriod s k us).stackSet = s.stackSet := rfl
@[simp] theorem startPeriod_dies (s : State) (k us : Nat) : (startPeriod s k us).dies = s.dies := rfl
@[simp] theorem startPeriod_pack (s : State) (k us : Nat) : (startPeriod s k us).pack = s.pack := rfl
@[simp] theorem startPeriod_swatch (s : State) (k us : Nat) : (startPeriod s k us).swatch = s.swatch := rfl
@[simp] theorem startPeriod_pci (s : State) (k us : Nat) : (startPeriod s k us).pci = s.pci := rfl
@[simp] theorem startPeriod_monitor (s : State) (k us : Nat) : (startPeriod s k us).monitor = s.monitor := rfl
@[simp] theorem startPeriod_flash (s : State) (k us : Nat) : (startPeriod s k us).flash = s.flash := rfl
@[simp] theorem startPeriod_start (s : State) (k us : Nat) : (startPeriod s k us).start = s.start := rfl
@[simp] theorem startPeriod_sec (s : State) (k us : Nat) : (startPeriod s k us).sec = s.sec := rfl
@[simp] theorem startPeriod_out (s : State) (k us : Nat) : (startPeriod s k us).out = s.out := rfl
@[simp] theorem startPeriod_hubUs (s : State) (k us : Nat) : (startPeriod s k us).hubUs = s.hubUs := rfl
@[simp] theorem startPeriod_freeCtr (s : State) (k us : Nat) : (startPeriod s k us).freeCtr = s.freeCtr := rfl
@[simp] theorem startPeriod_pending (s : State) (k us : Nat) : (startPeriod s k us).pending = s.pending := rfl

end Sys2Proof.Machine
end

