-- ==== Sys2Proof/Laws/Store.lean ====
section
/-! SUPPORT. Sys2Proof/Laws/Store.lean: the laws of sparse maps and addressed memory: a read after a write, what a write
leaves alone, and that every memory operation keeps the canonical form. -/

set_option Elab.async false

namespace Sys2Proof.Machine

open Sys2Proof

/-! ## Sparse maps -/

@[simp] theorem mget_nil {α : Type} (k : Nat) (d : α) : mget ([] : SMap α) k d = d := rfl

theorem mget_cons {α : Type} (a : Nat) (v : α) (r : SMap α) (k : Nat) (d : α) :
    mget ((a, v) :: r) k d = if a = k then v else mget r k d := rfl

@[simp] theorem mget_mput {α : Type} (m : SMap α) (k : Nat) (v d : α) : mget (mput m k v) k d = v := by
  induction m with
  | nil => simp [mput, mget]
  | cons p r ih =>
    obtain ⟨a, w⟩ := p
    simp only [mput]
    split
    · simp [mget]
    · split
      · simp [mget]
      · simp [mget, *]

theorem mget_mput_ne {α : Type} (m : SMap α) {k j : Nat} (v d : α) (h : j ≠ k) : mget (mput m k v) j d = mget m j d := by
  induction m with
  | nil => simp [mput, mget, h.symm]
  | cons p r ih =>
    obtain ⟨a, w⟩ := p
    simp only [mput]
    split
    · simp [mget, h.symm]
    · split
      · next h2 => subst h2; simp [mget, h.symm]
      · simp [mget, ih]

@[simp] theorem mget_mdel {α : Type} (m : SMap α) (k : Nat) (d : α) : mget (mdel m k) k d = d := by
  induction m with
  | nil => rfl
  | cons p r ih =>
    obtain ⟨a, w⟩ := p
    unfold mdel at *
    by_cases h : a = k
    · simpa [List.filter_cons, h] using ih
    · simpa [List.filter_cons, h, mget] using ih

theorem mget_mdel_ne {α : Type} (m : SMap α) {k j : Nat} (d : α) (h : j ≠ k) : mget (mdel m k) j d = mget m j d := by
  induction m with
  | nil => rfl
  | cons p r ih =>
    obtain ⟨a, w⟩ := p
    unfold mdel at *
    by_cases h2 : a = k
    · subst h2; simpa [mget, h.symm] using ih
    · have ih' : mget (List.filter (fun p => !decide (p.fst = k)) r) j d = mget r j d := by simpa using ih
      simp [h2, mget, ih']

@[simp] theorem mget_mset {α : Type} [DecidableEq α] (m : SMap α) (k : Nat) (v d : α) : mget (mset m k v d) k d = v := by
  unfold mset
  split
  · next h => simp [h]
  · simp

theorem mget_mset_ne {α : Type} [DecidableEq α] (m : SMap α) {k j : Nat} (v d d' : α) (h : j ≠ k) :
    mget (mset m k v d) j d' = mget m j d' := by
  unfold mset
  split
  · exact mget_mdel_ne m d' h
  · exact mget_mput_ne m v d' h

/-! ## Rising keys -/

/-- Every key of a map is at least a bound. -/
def keysFrom {α : Type} (b : Nat) (m : SMap α) : Prop := ∀ p ∈ m, b ≤ p.1

theorem risingKeys_cons {α : Type} (a : Nat) (v : α) (r : SMap α) :
    risingKeys ((a, v) :: r) = true ↔ risingKeys r = true ∧ keysFrom (a + 1) r := by
  induction r generalizing a v with
  | nil => simp [risingKeys, keysFrom]
  | cons p q ih =>
    obtain ⟨b, w⟩ := p
    constructor
    · intro h
      simp only [risingKeys, Bool.and_eq_true, decide_eq_true_eq] at h
      refine ⟨h.2, fun x hx => ?_⟩
      rcases List.mem_cons.mp hx with rfl | hx
      · exact h.1
      · have := ((ih b w).mp h.2).2 x hx
        omega
    · rintro ⟨h1, h2⟩
      simp only [risingKeys, Bool.and_eq_true, decide_eq_true_eq]
      exact ⟨h2 (b, w) (by simp), h1⟩

theorem keysFrom_mput {α : Type} (b : Nat) (m : SMap α) (k : Nat) (v : α) (hk : b ≤ k) (h : keysFrom b m) :
    keysFrom b (mput m k v) := by
  induction m with
  | nil => intro p hp; simp [mput] at hp; subst hp; exact hk
  | cons q r ih =>
    obtain ⟨a, w⟩ := q
    have hr : keysFrom b r := fun p hp => h p (by simp [hp])
    have ha : b ≤ a := h (a, w) (by simp)
    simp only [mput]
    split
    · intro p hp
      rcases List.mem_cons.mp hp with rfl | hp
      · exact hk
      · exact h p hp
    · split
      · intro p hp
        rcases List.mem_cons.mp hp with rfl | hp
        · exact hk
        · exact hr p hp
      · intro p hp
        rcases List.mem_cons.mp hp with rfl | hp
        · exact ha
        · exact ih hr p hp

theorem risingKeys_mput {α : Type} (m : SMap α) (k : Nat) (v : α) (h : risingKeys m = true) :
    risingKeys (mput m k v) = true := by
  induction m with
  | nil => rfl
  | cons q r ih =>
    obtain ⟨a, w⟩ := q
    obtain ⟨hr, hk⟩ := (risingKeys_cons a w r).mp h
    simp only [mput]
    split
    · next hlt =>
      refine (risingKeys_cons k v _).mpr ⟨h, fun p hp => ?_⟩
      rcases List.mem_cons.mp hp with rfl | hp
      · exact hlt
      · have := hk p hp; omega
    · split
      · next he => subst he; exact (risingKeys_cons _ _ _).mpr ⟨hr, hk⟩
      · next hlt he =>
        exact (risingKeys_cons _ _ _).mpr ⟨ih hr, keysFrom_mput _ r k v (by omega) hk⟩

theorem risingKeys_filter {α : Type} (m : SMap α) (f : Nat × α → Bool) (h : risingKeys m = true) :
    risingKeys (m.filter f) = true := by
  induction m with
  | nil => rfl
  | cons q r ih =>
    obtain ⟨a, w⟩ := q
    obtain ⟨hr, hk⟩ := (risingKeys_cons a w r).mp h
    by_cases hf : f (a, w) = true
    · rw [List.filter_cons_of_pos hf]
      exact (risingKeys_cons _ _ _).mpr ⟨ih hr, fun p hp => hk p (List.mem_filter.mp hp).1⟩
    · rw [List.filter_cons_of_neg hf]
      exact ih hr

theorem risingKeys_mset {α : Type} [DecidableEq α] (m : SMap α) (k : Nat) (v d : α) (h : risingKeys m = true) :
    risingKeys (mset m k v d) = true := by
  unfold mset
  split
  · exact risingKeys_filter m _ h
  · exact risingKeys_mput m k v h

theorem mem_mput {α : Type} (m : SMap α) (k : Nat) (v : α) (p : Nat × α) (h : p ∈ mput m k v) : p = (k, v) ∨ p ∈ m := by
  induction m with
  | nil => simpa [mput] using h
  | cons q r ih =>
    obtain ⟨a, w⟩ := q
    simp only [mput] at h
    split at h
    · simpa using h
    · split at h
      · rcases List.mem_cons.mp h with h | h
        · exact .inl h
        · exact .inr (by simp [h])
      · rcases List.mem_cons.mp h with h | h
        · exact .inr (by simp [h])
        · rcases ih h with h | h
          · exact .inl h
          · exact .inr (by simp [h])

theorem mem_mset {α : Type} [DecidableEq α] (m : SMap α) (k : Nat) (v d : α) (p : Nat × α) (h : p ∈ mset m k v d) :
    (p = (k, v) ∧ v ≠ d) ∨ (p ∈ m ∧ p.1 ≠ k) ∨ (p ∈ m ∧ v ≠ d) := by
  unfold mset at h
  split at h
  · simp [mdel] at h
    exact .inr (.inl ⟨h.1, h.2⟩)
  · next hv =>
    rcases mem_mput m k v p h with h | h
    · exact .inl ⟨h, hv⟩
    · exact .inr (.inr ⟨h, hv⟩)

/-! ## Written cells -/

theorem risingKeys_putCells (c : List (Nat × Byte)) (a : Nat) (bs : List Byte) (h : risingKeys c = true) :
    risingKeys (putCells c a bs) = true := by
  induction bs generalizing c a with
  | nil => exact h
  | cons b r ih => exact ih _ _ (risingKeys_mset c a b 0 h)

theorem mem_putCells (c : List (Nat × Byte)) (a : Nat) (bs : List Byte) (p : Nat × Byte) (h : p ∈ putCells c a bs) :
    (p.2 ≠ 0 ∧ a ≤ p.1 ∧ p.1 < a + bs.length) ∨ p ∈ c := by
  induction bs generalizing c a with
  | nil => exact .inr h
  | cons b r ih =>
    rcases ih _ _ h with h | h
    · exact .inl ⟨h.1, by omega, by simp only [List.length_cons]; omega⟩
    · rcases mem_mset c a b 0 p h with ⟨h, hb⟩ | ⟨h, _⟩ | ⟨h, _⟩
      · subst h; exact .inl ⟨hb, by simp⟩
      · exact .inr h
      · exact .inr h

theorem mget_putCells_ne (c : List (Nat × Byte)) (a : Nat) (bs : List Byte) (x : Nat) (h : x < a ∨ a + bs.length ≤ x) :
    mget (putCells c a bs) x 0 = mget c x 0 := by
  induction bs generalizing c a with
  | nil => rfl
  | cons b r ih =>
    simp only [List.length_cons] at h
    rw [putCells, ih _ _ (by omega), mget_mset_ne c b 0 0 (by omega)]

theorem mget_putCells (c : List (Nat × Byte)) (a : Nat) (bs : List Byte) (i : Nat) (h : i < bs.length) :
    mget (putCells c a bs) (a + i) 0 = bs.getD i 0 := by
  induction bs generalizing c a i with
  | nil => simp at h
  | cons b r ih =>
    cases i with
    | zero => rw [putCells, mget_putCells_ne _ _ _ _ (by omega)]; simp
    | succ i =>
      have := ih (mset c a b 0) (a + 1) i (by simpa using h)
      simpa [putCells, Nat.add_assoc, Nat.add_comm 1 i] using this

/-! ## Undefined ranges -/

theorem rangesWf_cons (a b s : Nat) (r : List (Nat × Nat × Nat)) :
    rangesWf ((a, b, s) :: r) = true ↔ a < b ∧ rangesWf r = true ∧ ∀ q ∈ r, b ≤ q.1 := by
  induction r generalizing a b s with
  | nil => simp [rangesWf]
  | cons q r ih =>
    obtain ⟨c, d, t⟩ := q
    simp only [rangesWf, Bool.and_eq_true, decide_eq_true_eq, List.mem_cons, forall_eq_or_imp]
    constructor
    · rintro ⟨⟨h1, h2⟩, h3⟩
      obtain ⟨h4, _, h5⟩ := (ih c d t).mp h3
      exact ⟨h1, h3, h2, fun q hq => by have := h5 q hq; omega⟩
    · rintro ⟨h1, h3, h2, _⟩
      exact ⟨⟨h1, h2⟩, h3⟩

theorem undefAt_append (u v : List (Nat × Nat × Nat)) (x : Nat) :
    undefAt (u ++ v) x = (undefAt u x).or (undefAt v x) := by
  induction u with
  | nil => simp [undefAt]
  | cons q r ih =>
    obtain ⟨a, b, s⟩ := q
    simp only [List.cons_append, undefAt]
    split <;> simp [ih]

theorem undefAt_cut_inside (lo hi : Nat) (u : List (Nat × Nat × Nat)) (x : Nat) (h : lo ≤ x ∧ x < hi) :
    undefAt (cutRanges lo hi u) x = none := by
  induction u with
  | nil => rfl
  | cons q r ih =>
    obtain ⟨a, b, s⟩ := q
    simp only [cutRanges]
    split
    · simp only [undefAt, ih]; split
      · omega
      · rfl
    · simp only [undefAt_append, ih]
      split <;> split <;> simp [undefAt] <;> omega

theorem undefAt_cut_outside (lo hi : Nat) (u : List (Nat × Nat × Nat)) (x : Nat) (h : x < lo ∨ hi ≤ x) :
    undefAt (cutRanges lo hi u) x = undefAt u x := by
  induction u with
  | nil => rfl
  | cons q r ih =>
    obtain ⟨a, b, s⟩ := q
    simp only [cutRanges]
    split
    · simp only [undefAt, ih]
    · simp only [undefAt_append, ih, undefAt]
      by_cases h1 : a ≤ x ∧ x < b
      · rw [if_pos h1]
        rcases h with h | h
        · rw [if_pos (show a < lo by omega)]; simp [undefAt, h1.1, h]
        · rw [if_pos (show hi < b by omega)]
          split
          · simp only [undefAt, h1.2, h, and_true]; split <;> simp
          · simp [undefAt, h1.2, h]
      · rw [if_neg h1]
        split <;> split <;> simp only [undefAt, Option.none_or]
        · rw [if_neg (by omega), if_neg (by omega)]; rfl
        · rw [if_neg (by omega)]; rfl
        · rw [if_neg (by omega)]; rfl

theorem mem_cut (lo hi : Nat) (u : List (Nat × Nat × Nat)) (q : Nat × Nat × Nat) (h : q ∈ cutRanges lo hi u)
    (hw : rangesWf u = true) : (q.2.1 ≤ lo ∨ hi ≤ q.1) ∧ ∃ p ∈ u, p.1 ≤ q.1 ∧ q.2.1 ≤ p.2.1 ∧ q.1 < q.2.1 := by
  induction u with
  | nil => simp [cutRanges] at h
  | cons p r ih =>
    obtain ⟨a, b, s⟩ := p
    obtain ⟨h1, h2, _⟩ := (rangesWf_cons a b s r).mp hw
    have tail (h : q ∈ cutRanges lo hi r) :
        (q.2.1 ≤ lo ∨ hi ≤ q.1) ∧ ∃ p ∈ (a, b, s) :: r, p.1 ≤ q.1 ∧ q.2.1 ≤ p.2.1 ∧ q.1 < q.2.1 := by
      obtain ⟨h3, p, hp, h4⟩ := ih h h2
      exact ⟨h3, p, List.mem_cons_of_mem _ hp, h4⟩
    simp only [cutRanges] at h
    split at h
    · rcases List.mem_cons.mp h with rfl | h
      · exact ⟨by simp; omega, _, List.mem_cons_self, by simp; omega⟩
      · exact tail h
    · rcases List.mem_append.mp h with h | h
      · rcases List.mem_append.mp h with h | h
        · split at h
          · rw [List.mem_singleton] at h; subst h
            exact ⟨by simp, _, List.mem_cons_self, by simp; omega⟩
          · simp at h
        · split at h
          · rw [List.mem_singleton] at h; subst h
            exact ⟨by simp, _, List.mem_cons_self, by simp; omega⟩
          · simp at h
      · exact tail h

theorem rangesWf_cut (lo hi : Nat) (u : List (Nat × Nat × Nat)) (h : lo ≤ hi) (hw : rangesWf u = true) :
    rangesWf (cutRanges lo hi u) = true := by
  induction u with
  | nil => rfl
  | cons p r ih =>
    obtain ⟨a, b, s⟩ := p
    obtain ⟨h1, h2, h3⟩ := (rangesWf_cons a b s r).mp hw
    have hr := ih h2
    have hb : ∀ q ∈ cutRanges lo hi r, b ≤ q.1 := fun q hq => by
      obtain ⟨_, p, hp, h4, _⟩ := mem_cut lo hi r q hq h2
      have := h3 p hp; omega
    simp only [cutRanges]
    split
    · exact (rangesWf_cons _ _ _ _).mpr ⟨h1, hr, hb⟩
    · split <;> split <;> simp only [List.nil_append, List.cons_append]
      · refine (rangesWf_cons _ _ _ _).mpr ⟨by omega, (rangesWf_cons _ _ _ _).mpr ⟨by omega, hr, hb⟩, ?_⟩
        intro q hq
        rcases List.mem_cons.mp hq with rfl | hq
        · exact h
        · have := hb q hq; omega
      · exact (rangesWf_cons _ _ _ _).mpr ⟨by omega, hr, fun q hq => by have := hb q hq; omega⟩
      · exact (rangesWf_cons _ _ _ _).mpr ⟨by omega, hr, hb⟩
      · exact hr

theorem mem_putRange (lo hi s : Nat) (u : List (Nat × Nat × Nat)) (q : Nat × Nat × Nat) (h : q ∈ putRange lo hi s u) :
    q = (lo, hi, s) ∨ q ∈ u := by
  induction u with
  | nil => simpa [putRange] using h
  | cons p r ih =>
    obtain ⟨a, b, t⟩ := p
    simp only [putRange] at h
    split at h
    · simpa using h
    · rcases List.mem_cons.mp h with h | h
      · exact .inr (by simp [h])
      · rcases ih h with h | h
        · exact .inl h
        · exact .inr (by simp [h])

theorem undefAt_putRange (lo hi s : Nat) (u : List (Nat × Nat × Nat)) (x : Nat) (h : x < lo ∨ hi ≤ x) :
    undefAt (putRange lo hi s u) x = undefAt u x := by
  induction u with
  | nil => simp [putRange, undefAt]; omega
  | cons p r ih =>
    obtain ⟨a, b, t⟩ := p
    simp only [putRange]
    split
    · rw [undefAt, if_neg (by omega)]
    · simp only [undefAt, ih]

theorem rangesWf_putRange (lo hi s : Nat) (u : List (Nat × Nat × Nat)) (h : lo < hi) (hw : rangesWf u = true)
    (hd : ∀ q ∈ u, q.2.1 ≤ lo ∨ hi ≤ q.1) : rangesWf (putRange lo hi s u) = true := by
  induction u with
  | nil => simp [putRange, rangesWf, h]
  | cons p r ih =>
    obtain ⟨a, b, t⟩ := p
    obtain ⟨h1, h2, h3⟩ := (rangesWf_cons a b t r).mp hw
    have hp := hd (a, b, t) (by simp)
    simp only [putRange]
    split
    · refine (rangesWf_cons _ _ _ _).mpr ⟨h, hw, fun q hq => ?_⟩
      simp only at hp
      rcases List.mem_cons.mp hq with rfl | hq
      · simp only; omega
      · have := h3 q hq; omega
    · refine (rangesWf_cons _ _ _ _).mpr ⟨h1, ih h2 fun q hq => hd q (by simp [hq]), fun q hq => ?_⟩
      simp only at hp
      rcases mem_putRange lo hi s r q hq with rfl | hq
      · simp only; omega
      · exact h3 q hq

/-! ## Memory -/

theorem Memory.wf_iff (m : Memory) : m.wf = true ↔
    risingKeys m.cells = true ∧ (∀ p ∈ m.cells, p.2 ≠ 0) ∧ rangesWf m.undef = true ∧
      ∀ p ∈ m.cells, undefAt m.undef p.1 = none := by
  simp [Memory.wf, and_assoc]

/-- A write keeps the canonical form. -/
theorem Memory.wf_write (m : Memory) (a : Nat) (bs : List Byte) (h : m.wf = true) : (m.write a bs).wf = true := by
  obtain ⟨h1, h2, h3, h4⟩ := (Memory.wf_iff m).mp h
  refine (Memory.wf_iff _).mpr ⟨risingKeys_putCells _ a bs h1, fun p hp => ?_, rangesWf_cut a _ m.undef (by omega) h3,
    fun p hp => ?_⟩
  · rcases mem_putCells _ _ _ p hp with h | h
    · exact h.1
    · exact h2 p h
  · rcases mem_putCells _ _ _ p hp with h | h
    · exact undefAt_cut_inside _ _ _ _ h.2
    · by_cases hx : a ≤ p.1 ∧ p.1 < a + bs.length
      · exact undefAt_cut_inside _ _ _ _ hx
      · rw [show (m.write a bs).undef = cutRanges a (a + bs.length) m.undef from rfl,
          undefAt_cut_outside _ _ _ _ (by omega)]
        exact h4 p h

/-- A loss of contents keeps the canonical form. -/
theorem Memory.wf_lose (m : Memory) (lo hi seed : Nat) (h : m.wf = true) : (m.lose lo hi seed).wf = true := by
  obtain ⟨h1, h2, h3, h4⟩ := (Memory.wf_iff m).mp h
  unfold Memory.lose
  split
  · next hlt =>
    refine (Memory.wf_iff _).mpr ⟨risingKeys_filter _ _ h1, fun p hp => h2 p (List.mem_filter.mp hp).1,
      rangesWf_putRange lo hi seed _ hlt (rangesWf_cut lo hi _ (by omega) h3) fun q hq => (mem_cut lo hi _ q hq h3).1,
      fun p hp => ?_⟩
    obtain ⟨hp, hx⟩ := List.mem_filter.mp hp
    simp only [decide_eq_true_eq] at hx
    rw [undefAt_putRange _ _ _ _ _ hx, undefAt_cut_outside _ _ _ _ hx]
    exact h4 p hp
  · exact h

/-- Memory after power-on has the canonical form. -/
theorem Memory.wf_unwritten (size seed : Nat) (h : 0 < size) : (Memory.unwritten size seed).wf = true := by
  simp [Memory.wf, Memory.unwritten, risingKeys, rangesWf, h]

/-- A byte outside a write reads as before. -/
theorem Memory.read_write_ne (m : Memory) (a : Nat) (bs : List Byte) (x : Nat) (h : x < a ∨ a + bs.length ≤ x) :
    (m.write a bs).read x = m.read x := by
  simp only [Memory.read, Memory.write, undefAt_cut_outside _ _ _ _ h, mget_putCells_ne _ _ _ _ h]

/-- A written byte reads as it was written. -/
theorem Memory.read_write (m : Memory) (a : Nat) (bs : List Byte) (i : Nat) (h : i < bs.length) :
    (m.write a bs).read (a + i) = bs.getD i 0 := by
  simp only [Memory.read, Memory.write, undefAt_cut_inside a (a + bs.length) m.undef (a + i) (by omega),
    mget_putCells _ _ _ _ h]

/-- A loss of contents leaves the bytes outside it alone. -/
theorem Memory.read_lose_ne (m : Memory) (lo hi seed x : Nat) (h : x < lo ∨ hi ≤ x) :
    (m.lose lo hi seed).read x = m.read x := by
  unfold Memory.lose
  split
  · have hm : ∀ c : List (Nat × Byte), mget (c.filter fun p => decide (p.1 < lo ∨ hi ≤ p.1)) x 0 = mget c x 0 := by
      intro c
      induction c with
      | nil => rfl
      | cons p r ih =>
        obtain ⟨a, b⟩ := p
        by_cases hp : a < lo ∨ hi ≤ a
        · rw [List.filter_cons_of_pos (by simpa using hp)]; simp only [mget, ih]
        · rw [List.filter_cons_of_neg (by simpa using hp), ih, mget, if_neg (by omega)]
    simp only [Memory.read, undefAt_putRange _ _ _ _ _ h, undefAt_cut_outside _ _ _ _ h, hm]
  · rfl

end Sys2Proof.Machine
end

