-- ==== Sys2Proof/Laws/Access.lean ====
section
/-! SUPPORT. Sys2Proof/Laws/Access.lean: what a read of one part of the state gives after an update of a part. -/

set_option Elab.async false

namespace Sys2Proof.Machine

open Sys2Proof

/-! ## reg reads regs -/

@[simp] theorem State.reg_setSel (s : State) (rq a v : Nat) (j b : Nat) : (s.setSel rq a v).reg j b = s.reg j b := rfl
@[simp] theorem State.reg_setFn (s : State) (f : Nat) (v : Fn) (j b : Nat) : (s.setFn f v).reg j b = s.reg j b := rfl
@[simp] theorem State.reg_send (s : State) (m : OutMsg) (j b : Nat) : (s.send m).reg j b = s.reg j b := rfl
@[simp] theorem State.reg_setRing (s : State) (r : Nat) (v : Ring) (j b : Nat) : (s.setRing r v).reg j b = s.reg j b := rfl
@[simp] theorem State.reg_fresh (s : State) (j b : Nat) : (s.fresh).reg j b = s.reg j b := rfl
@[simp] theorem State.reg_setPanel (s : State) (p : Nat) (v : Panel) (j b : Nat) : (s.setPanel p v).reg j b = s.reg j b := rfl
@[simp] theorem State.reg_setRtv (s : State) (n : Nat) (v : Retriever) (j b : Nat) : (s.setRtv n v).reg j b = s.reg j b := rfl
@[simp] theorem State.reg_setArb (s : State) (a : Nat) (v : Arb) (j b : Nat) : (s.setArb a v).reg j b = s.reg j b := rfl
@[simp] theorem State.reg_setLoom (s : State) (n : Nat) (v : Loom) (j b : Nat) : (s.setLoom n v).reg j b = s.reg j b := rfl
@[simp] theorem State.reg_setCore (s : State) (n r c : Nat) (v : Core) (j b : Nat) : (s.setCore n r c v).reg j b = s.reg j b := rfl
@[simp] theorem State.reg_setCluster (s : State) (c : Nat) (v : Cluster) (j b : Nat) : (s.setCluster c v).reg j b = s.reg j b := rfl
@[simp] theorem State.reg_setQuad (s : State) (q : Nat) (v : Quad) (j b : Nat) : (s.setQuad q v).reg j b = s.reg j b := rfl
@[simp] theorem State.reg_setPort (s : State) (p : Nat) (v : Port) (j b : Nat) : (s.setPort p v).reg j b = s.reg j b := rfl
@[simp] theorem State.reg_setAccount (s : State) (n : Nat) (v : Account) (j b : Nat) : (s.setAccount n v).reg j b = s.reg j b := rfl
@[simp] theorem State.reg_setObj (s : State) (o : Nat) (v : SyncObj) (j b : Nat) : (s.setObj o v).reg j b = s.reg j b := rfl
@[simp] theorem State.reg_setChan (s : State) (n c : Nat) (v : Channel) (j b : Nat) : (s.setChan n c v).reg j b = s.reg j b := rfl
@[simp] theorem State.reg_setTrickle (s : State) (n f : Nat) (v : Trickle) (j b : Nat) : (s.setTrickle n f v).reg j b = s.reg j b := rfl

/-! ## fld reads regs -/

@[simp] theorem State.fld_setSel (s : State) (rq a v : Nat) (j b h l : Nat) : (s.setSel rq a v).fld j b h l = s.fld j b h l := rfl
@[simp] theorem State.fld_setFn (s : State) (f : Nat) (v : Fn) (j b h l : Nat) : (s.setFn f v).fld j b h l = s.fld j b h l := rfl
@[simp] theorem State.fld_send (s : State) (m : OutMsg) (j b h l : Nat) : (s.send m).fld j b h l = s.fld j b h l := rfl
@[simp] theorem State.fld_setRing (s : State) (r : Nat) (v : Ring) (j b h l : Nat) : (s.setRing r v).fld j b h l = s.fld j b h l := rfl
@[simp] theorem State.fld_fresh (s : State) (j b h l : Nat) : (s.fresh).fld j b h l = s.fld j b h l := rfl
@[simp] theorem State.fld_setPanel (s : State) (p : Nat) (v : Panel) (j b h l : Nat) : (s.setPanel p v).fld j b h l = s.fld j b h l := rfl
@[simp] theorem State.fld_setRtv (s : State) (n : Nat) (v : Retriever) (j b h l : Nat) : (s.setRtv n v).fld j b h l = s.fld j b h l := rfl
@[simp] theorem State.fld_setArb (s : State) (a : Nat) (v : Arb) (j b h l : Nat) : (s.setArb a v).fld j b h l = s.fld j b h l := rfl
@[simp] theorem State.fld_setLoom (s : State) (n : Nat) (v : Loom) (j b h l : Nat) : (s.setLoom n v).fld j b h l = s.fld j b h l := rfl
@[simp] theorem State.fld_setCore (s : State) (n r c : Nat) (v : Core) (j b h l : Nat) : (s.setCore n r c v).fld j b h l = s.fld j b h l := rfl
@[simp] theorem State.fld_setCluster (s : State) (c : Nat) (v : Cluster) (j b h l : Nat) : (s.setCluster c v).fld j b h l = s.fld j b h l := rfl
@[simp] theorem State.fld_setQuad (s : State) (q : Nat) (v : Quad) (j b h l : Nat) : (s.setQuad q v).fld j b h l = s.fld j b h l := rfl
@[simp] theorem State.fld_setPort (s : State) (p : Nat) (v : Port) (j b h l : Nat) : (s.setPort p v).fld j b h l = s.fld j b h l := rfl
@[simp] theorem State.fld_setAccount (s : State) (n : Nat) (v : Account) (j b h l : Nat) : (s.setAccount n v).fld j b h l = s.fld j b h l := rfl
@[simp] theorem State.fld_setObj (s : State) (o : Nat) (v : SyncObj) (j b h l : Nat) : (s.setObj o v).fld j b h l = s.fld j b h l := rfl
@[simp] theorem State.fld_setChan (s : State) (n c : Nat) (v : Channel) (j b h l : Nat) : (s.setChan n c v).fld j b h l = s.fld j b h l := rfl
@[simp] theorem State.fld_setTrickle (s : State) (n f : Nat) (v : Trickle) (j b h l : Nat) : (s.setTrickle n f v).fld j b h l = s.fld j b h l := rfl

/-! ## sel reads sels -/

@[simp] theorem State.sel_setReg (s : State) (i a v : Nat) (j b : Nat) : (s.setReg i a v).sel j b = s.sel j b := rfl
@[simp] theorem State.sel_setFld (s : State) (i a hi lo v : Nat) (j b : Nat) : (s.setFld i a hi lo v).sel j b = s.sel j b := rfl
@[simp] theorem State.sel_count (s : State) (i a n : Nat) (j b : Nat) : (s.count i a n).sel j b = s.sel j b := rfl
@[simp] theorem State.sel_setFn (s : State) (f : Nat) (v : Fn) (j b : Nat) : (s.setFn f v).sel j b = s.sel j b := rfl
@[simp] theorem State.sel_send (s : State) (m : OutMsg) (j b : Nat) : (s.send m).sel j b = s.sel j b := rfl
@[simp] theorem State.sel_setRing (s : State) (r : Nat) (v : Ring) (j b : Nat) : (s.setRing r v).sel j b = s.sel j b := rfl
@[simp] theorem State.sel_fresh (s : State) (j b : Nat) : (s.fresh).sel j b = s.sel j b := rfl
@[simp] theorem State.sel_setPanel (s : State) (p : Nat) (v : Panel) (j b : Nat) : (s.setPanel p v).sel j b = s.sel j b := rfl
@[simp] theorem State.sel_setRtv (s : State) (n : Nat) (v : Retriever) (j b : Nat) : (s.setRtv n v).sel j b = s.sel j b := rfl
@[simp] theorem State.sel_setArb (s : State) (a : Nat) (v : Arb) (j b : Nat) : (s.setArb a v).sel j b = s.sel j b := rfl
@[simp] theorem State.sel_setLoom (s : State) (n : Nat) (v : Loom) (j b : Nat) : (s.setLoom n v).sel j b = s.sel j b := rfl
@[simp] theorem State.sel_setCore (s : State) (n r c : Nat) (v : Core) (j b : Nat) : (s.setCore n r c v).sel j b = s.sel j b := rfl
@[simp] theorem State.sel_setCluster (s : State) (c : Nat) (v : Cluster) (j b : Nat) : (s.setCluster c v).sel j b = s.sel j b := rfl
@[simp] theorem State.sel_setQuad (s : State) (q : Nat) (v : Quad) (j b : Nat) : (s.setQuad q v).sel j b = s.sel j b := rfl
@[simp] theorem State.sel_setPort (s : State) (p : Nat) (v : Port) (j b : Nat) : (s.setPort p v).sel j b = s.sel j b := rfl
@[simp] theorem State.sel_setAccount (s : State) (n : Nat) (v : Account) (j b : Nat) : (s.setAccount n v).sel j b = s.sel j b := rfl
@[simp] theorem State.sel_setObj (s : State) (o : Nat) (v : SyncObj) (j b : Nat) : (s.setObj o v).sel j b = s.sel j b := rfl
@[simp] theorem State.sel_setChan (s : State) (n c : Nat) (v : Channel) (j b : Nat) : (s.setChan n c v).sel j b = s.sel j b := rfl
@[simp] theorem State.sel_setTrickle (s : State) (n f : Nat) (v : Trickle) (j b : Nat) : (s.setTrickle n f v).sel j b = s.sel j b := rfl

/-! ## fn reads pci -/

@[simp] theorem State.fn_setReg (s : State) (i a v : Nat) (g : Nat) : (s.setReg i a v).fn g = s.fn g := rfl
@[simp] theorem State.fn_setFld (s : State) (i a hi lo v : Nat) (g : Nat) : (s.setFld i a hi lo v).fn g = s.fn g := rfl
@[simp] theorem State.fn_count (s : State) (i a n : Nat) (g : Nat) : (s.count i a n).fn g = s.fn g := rfl
@[simp] theorem State.fn_setSel (s : State) (rq a v : Nat) (g : Nat) : (s.setSel rq a v).fn g = s.fn g := rfl
@[simp] theorem State.fn_send (s : State) (m : OutMsg) (g : Nat) : (s.send m).fn g = s.fn g := rfl
@[simp] theorem State.fn_setRing (s : State) (r : Nat) (v : Ring) (g : Nat) : (s.setRing r v).fn g = s.fn g := rfl
@[simp] theorem State.fn_fresh (s : State) (g : Nat) : (s.fresh).fn g = s.fn g := rfl
@[simp] theorem State.fn_setPanel (s : State) (p : Nat) (v : Panel) (g : Nat) : (s.setPanel p v).fn g = s.fn g := rfl
@[simp] theorem State.fn_setRtv (s : State) (n : Nat) (v : Retriever) (g : Nat) : (s.setRtv n v).fn g = s.fn g := rfl
@[simp] theorem State.fn_setArb (s : State) (a : Nat) (v : Arb) (g : Nat) : (s.setArb a v).fn g = s.fn g := rfl
@[simp] theorem State.fn_setLoom (s : State) (n : Nat) (v : Loom) (g : Nat) : (s.setLoom n v).fn g = s.fn g := rfl
@[simp] theorem State.fn_setCore (s : State) (n r c : Nat) (v : Core) (g : Nat) : (s.setCore n r c v).fn g = s.fn g := rfl
@[simp] theorem State.fn_setCluster (s : State) (c : Nat) (v : Cluster) (g : Nat) : (s.setCluster c v).fn g = s.fn g := rfl
@[simp] theorem State.fn_setQuad (s : State) (q : Nat) (v : Quad) (g : Nat) : (s.setQuad q v).fn g = s.fn g := rfl
@[simp] theorem State.fn_setPort (s : State) (p : Nat) (v : Port) (g : Nat) : (s.setPort p v).fn g = s.fn g := rfl
@[simp] theorem State.fn_setAccount (s : State) (n : Nat) (v : Account) (g : Nat) : (s.setAccount n v).fn g = s.fn g := rfl
@[simp] theorem State.fn_setObj (s : State) (o : Nat) (v : SyncObj) (g : Nat) : (s.setObj o v).fn g = s.fn g := rfl
@[simp] theorem State.fn_setChan (s : State) (n c : Nat) (v : Channel) (g : Nat) : (s.setChan n c v).fn g = s.fn g := rfl
@[simp] theorem State.fn_setTrickle (s : State) (n f : Nat) (v : Trickle) (g : Nat) : (s.setTrickle n f v).fn g = s.fn g := rfl

/-! ## ring reads rings -/

@[simp] theorem State.ring_setReg (s : State) (i a v : Nat) (k : Nat) : (s.setReg i a v).ring k = s.ring k := rfl
@[simp] theorem State.ring_setFld (s : State) (i a hi lo v : Nat) (k : Nat) : (s.setFld i a hi lo v).ring k = s.ring k := rfl
@[simp] theorem State.ring_count (s : State) (i a n : Nat) (k : Nat) : (s.count i a n).ring k = s.ring k := rfl
@[simp] theorem State.ring_setSel (s : State) (rq a v : Nat) (k : Nat) : (s.setSel rq a v).ring k = s.ring k := rfl
@[simp] theorem State.ring_setFn (s : State) (f : Nat) (v : Fn) (k : Nat) : (s.setFn f v).ring k = s.ring k := rfl
@[simp] theorem State.ring_send (s : State) (m : OutMsg) (k : Nat) : (s.send m).ring k = s.ring k := rfl
@[simp] theorem State.ring_fresh (s : State) (k : Nat) : (s.fresh).ring k = s.ring k := rfl
@[simp] theorem State.ring_setPanel (s : State) (p : Nat) (v : Panel) (k : Nat) : (s.setPanel p v).ring k = s.ring k := rfl
@[simp] theorem State.ring_setRtv (s : State) (n : Nat) (v : Retriever) (k : Nat) : (s.setRtv n v).ring k = s.ring k := rfl
@[simp] theorem State.ring_setArb (s : State) (a : Nat) (v : Arb) (k : Nat) : (s.setArb a v).ring k = s.ring k := rfl
@[simp] theorem State.ring_setLoom (s : State) (n : Nat) (v : Loom) (k : Nat) : (s.setLoom n v).ring k = s.ring k := rfl
@[simp] theorem State.ring_setCore (s : State) (n r c : Nat) (v : Core) (k : Nat) : (s.setCore n r c v).ring k = s.ring k := rfl
@[simp] theorem State.ring_setCluster (s : State) (c : Nat) (v : Cluster) (k : Nat) : (s.setCluster c v).ring k = s.ring k := rfl
@[simp] theorem State.ring_setQuad (s : State) (q : Nat) (v : Quad) (k : Nat) : (s.setQuad q v).ring k = s.ring k := rfl
@[simp] theorem State.ring_setPort (s : State) (p : Nat) (v : Port) (k : Nat) : (s.setPort p v).ring k = s.ring k := rfl
@[simp] theorem State.ring_setAccount (s : State) (n : Nat) (v : Account) (k : Nat) : (s.setAccount n v).ring k = s.ring k := rfl
@[simp] theorem State.ring_setObj (s : State) (o : Nat) (v : SyncObj) (k : Nat) : (s.setObj o v).ring k = s.ring k := rfl
@[simp] theorem State.ring_setChan (s : State) (n c : Nat) (v : Channel) (k : Nat) : (s.setChan n c v).ring k = s.ring k := rfl
@[simp] theorem State.ring_setTrickle (s : State) (n f : Nat) (v : Trickle) (k : Nat) : (s.setTrickle n f v).ring k = s.ring k := rfl

/-! ## panel reads panels -/

@[simp] theorem State.panel_setReg (s : State) (i a v : Nat) (k : Nat) : (s.setReg i a v).panel k = s.panel k := rfl
@[simp] theorem State.panel_setFld (s : State) (i a hi lo v : Nat) (k : Nat) : (s.setFld i a hi lo v).panel k = s.panel k := rfl
@[simp] theorem State.panel_count (s : State) (i a n : Nat) (k : Nat) : (s.count i a n).panel k = s.panel k := rfl
@[simp] theorem State.panel_setSel (s : State) (rq a v : Nat) (k : Nat) : (s.setSel rq a v).panel k = s.panel k := rfl
@[simp] theorem State.panel_setFn (s : State) (f : Nat) (v : Fn) (k : Nat) : (s.setFn f v).panel k = s.panel k := rfl
@[simp] theorem State.panel_send (s : State) (m : OutMsg) (k : Nat) : (s.send m).panel k = s.panel k := rfl
@[simp] theorem State.panel_setRing (s : State) (r : Nat) (v : Ring) (k : Nat) : (s.setRing r v).panel k = s.panel k := rfl
@[simp] theorem State.panel_fresh (s : State) (k : Nat) : (s.fresh).panel k = s.panel k := rfl
@[simp] theorem State.panel_setRtv (s : State) (n : Nat) (v : Retriever) (k : Nat) : (s.setRtv n v).panel k = s.panel k := rfl
@[simp] theorem State.panel_setArb (s : State) (a : Nat) (v : Arb) (k : Nat) : (s.setArb a v).panel k = s.panel k := rfl
@[simp] theorem State.panel_setLoom (s : State) (n : Nat) (v : Loom) (k : Nat) : (s.setLoom n v).panel k = s.panel k := rfl
@[simp] theorem State.panel_setCore (s : State) (n r c : Nat) (v : Core) (k : Nat) : (s.setCore n r c v).panel k = s.panel k := rfl
@[simp] theorem State.panel_setCluster (s : State) (c : Nat) (v : Cluster) (k : Nat) : (s.setCluster c v).panel k = s.panel k := rfl
@[simp] theorem State.panel_setQuad (s : State) (q : Nat) (v : Quad) (k : Nat) : (s.setQuad q v).panel k = s.panel k := rfl
@[simp] theorem State.panel_setPort (s : State) (p : Nat) (v : Port) (k : Nat) : (s.setPort p v).panel k = s.panel k := rfl
@[simp] theorem State.panel_setAccount (s : State) (n : Nat) (v : Account) (k : Nat) : (s.setAccount n v).panel k = s.panel k := rfl
@[simp] theorem State.panel_setObj (s : State) (o : Nat) (v : SyncObj) (k : Nat) : (s.setObj o v).panel k = s.panel k := rfl
@[simp] theorem State.panel_setChan (s : State) (n c : Nat) (v : Channel) (k : Nat) : (s.setChan n c v).panel k = s.panel k := rfl
@[simp] theorem State.panel_setTrickle (s : State) (n f : Nat) (v : Trickle) (k : Nat) : (s.setTrickle n f v).panel k = s.panel k := rfl

/-! ## rtv reads rtvs -/

@[simp] theorem State.rtv_setReg (s : State) (i a v : Nat) (k : Nat) : (s.setReg i a v).rtv k = s.rtv k := rfl
@[simp] theorem State.rtv_setFld (s : State) (i a hi lo v : Nat) (k : Nat) : (s.setFld i a hi lo v).rtv k = s.rtv k := rfl
@[simp] theorem State.rtv_count (s : State) (i a n : Nat) (k : Nat) : (s.count i a n).rtv k = s.rtv k := rfl
@[simp] theorem State.rtv_setSel (s : State) (rq a v : Nat) (k : Nat) : (s.setSel rq a v).rtv k = s.rtv k := rfl
@[simp] theorem State.rtv_setFn (s : State) (f : Nat) (v : Fn) (k : Nat) : (s.setFn f v).rtv k = s.rtv k := rfl
@[simp] theorem State.rtv_send (s : State) (m : OutMsg) (k : Nat) : (s.send m).rtv k = s.rtv k := rfl
@[simp] theorem State.rtv_setRing (s : State) (r : Nat) (v : Ring) (k : Nat) : (s.setRing r v).rtv k = s.rtv k := rfl
@[simp] theorem State.rtv_fresh (s : State) (k : Nat) : (s.fresh).rtv k = s.rtv k := rfl
@[simp] theorem State.rtv_setPanel (s : State) (p : Nat) (v : Panel) (k : Nat) : (s.setPanel p v).rtv k = s.rtv k := rfl
@[simp] theorem State.rtv_setArb (s : State) (a : Nat) (v : Arb) (k : Nat) : (s.setArb a v).rtv k = s.rtv k := rfl
@[simp] theorem State.rtv_setLoom (s : State) (n : Nat) (v : Loom) (k : Nat) : (s.setLoom n v).rtv k = s.rtv k := rfl
@[simp] theorem State.rtv_setCore (s : State) (n r c : Nat) (v : Core) (k : Nat) : (s.setCore n r c v).rtv k = s.rtv k := rfl
@[simp] theorem State.rtv_setCluster (s : State) (c : Nat) (v : Cluster) (k : Nat) : (s.setCluster c v).rtv k = s.rtv k := rfl
@[simp] theorem State.rtv_setQuad (s : State) (q : Nat) (v : Quad) (k : Nat) : (s.setQuad q v).rtv k = s.rtv k := rfl
@[simp] theorem State.rtv_setPort (s : State) (p : Nat) (v : Port) (k : Nat) : (s.setPort p v).rtv k = s.rtv k := rfl
@[simp] theorem State.rtv_setAccount (s : State) (n : Nat) (v : Account) (k : Nat) : (s.setAccount n v).rtv k = s.rtv k := rfl
@[simp] theorem State.rtv_setObj (s : State) (o : Nat) (v : SyncObj) (k : Nat) : (s.setObj o v).rtv k = s.rtv k := rfl

/-! ## arb reads arbs -/

@[simp] theorem State.arb_setReg (s : State) (i a v : Nat) (k : Nat) : (s.setReg i a v).arb k = s.arb k := rfl
@[simp] theorem State.arb_setFld (s : State) (i a hi lo v : Nat) (k : Nat) : (s.setFld i a hi lo v).arb k = s.arb k := rfl
@[simp] theorem State.arb_count (s : State) (i a n : Nat) (k : Nat) : (s.count i a n).arb k = s.arb k := rfl
@[simp] theorem State.arb_setSel (s : State) (rq a v : Nat) (k : Nat) : (s.setSel rq a v).arb k = s.arb k := rfl
@[simp] theorem State.arb_setFn (s : State) (f : Nat) (v : Fn) (k : Nat) : (s.setFn f v).arb k = s.arb k := rfl
@[simp] theorem State.arb_send (s : State) (m : OutMsg) (k : Nat) : (s.send m).arb k = s.arb k := rfl
@[simp] theorem State.arb_setRing (s : State) (r : Nat) (v : Ring) (k : Nat) : (s.setRing r v).arb k = s.arb k := rfl
@[simp] theorem State.arb_fresh (s : State) (k : Nat) : (s.fresh).arb k = s.arb k := rfl
@[simp] theorem State.arb_setPanel (s : State) (p : Nat) (v : Panel) (k : Nat) : (s.setPanel p v).arb k = s.arb k := rfl
@[simp] theorem State.arb_setRtv (s : State) (n : Nat) (v : Retriever) (k : Nat) : (s.setRtv n v).arb k = s.arb k := rfl
@[simp] theorem State.arb_setLoom (s : State) (n : Nat) (v : Loom) (k : Nat) : (s.setLoom n v).arb k = s.arb k := rfl
@[simp] theorem State.arb_setCore (s : State) (n r c : Nat) (v : Core) (k : Nat) : (s.setCore n r c v).arb k = s.arb k := rfl
@[simp] theorem State.arb_setCluster (s : State) (c : Nat) (v : Cluster) (k : Nat) : (s.setCluster c v).arb k = s.arb k := rfl
@[simp] theorem State.arb_setQuad (s : State) (q : Nat) (v : Quad) (k : Nat) : (s.setQuad q v).arb k = s.arb k := rfl
@[simp] theorem State.arb_setPort (s : State) (p : Nat) (v : Port) (k : Nat) : (s.setPort p v).arb k = s.arb k := rfl
@[simp] theorem State.arb_setAccount (s : State) (n : Nat) (v : Account) (k : Nat) : (s.setAccount n v).arb k = s.arb k := rfl
@[simp] theorem State.arb_setObj (s : State) (o : Nat) (v : SyncObj) (k : Nat) : (s.setObj o v).arb k = s.arb k := rfl
@[simp] theorem State.arb_setChan (s : State) (n c : Nat) (v : Channel) (k : Nat) : (s.setChan n c v).arb k = s.arb k := rfl
@[simp] theorem State.arb_setTrickle (s : State) (n f : Nat) (v : Trickle) (k : Nat) : (s.setTrickle n f v).arb k = s.arb k := rfl

/-! ## loom reads looms -/

@[simp] theorem State.loom_setReg (s : State) (i a v : Nat) (k : Nat) : (s.setReg i a v).loom k = s.loom k := rfl
@[simp] theorem State.loom_setFld (s : State) (i a hi lo v : Nat) (k : Nat) : (s.setFld i a hi lo v).loom k = s.loom k := rfl
@[simp] theorem State.loom_count (s : State) (i a n : Nat) (k : Nat) : (s.count i a n).loom k = s.loom k := rfl
@[simp] theorem State.loom_setSel (s : State) (rq a v : Nat) (k : Nat) : (s.setSel rq a v).loom k = s.loom k := rfl
@[simp] theorem State.loom_setFn (s : State) (f : Nat) (v : Fn) (k : Nat) : (s.setFn f v).loom k = s.loom k := rfl
@[simp] theorem State.loom_send (s : State) (m : OutMsg) (k : Nat) : (s.send m).loom k = s.loom k := rfl
@[simp] theorem State.loom_setRing (s : State) (r : Nat) (v : Ring) (k : Nat) : (s.setRing r v).loom k = s.loom k := rfl
@[simp] theorem State.loom_fresh (s : State) (k : Nat) : (s.fresh).loom k = s.loom k := rfl
@[simp] theorem State.loom_setPanel (s : State) (p : Nat) (v : Panel) (k : Nat) : (s.setPanel p v).loom k = s.loom k := rfl
@[simp] theorem State.loom_setRtv (s : State) (n : Nat) (v : Retriever) (k : Nat) : (s.setRtv n v).loom k = s.loom k := rfl
@[simp] theorem State.loom_setArb (s : State) (a : Nat) (v : Arb) (k : Nat) : (s.setArb a v).loom k = s.loom k := rfl
@[simp] theorem State.loom_setCore (s : State) (n r c : Nat) (v : Core) (k : Nat) : (s.setCore n r c v).loom k = s.loom k := rfl
@[simp] theorem State.loom_setCluster (s : State) (c : Nat) (v : Cluster) (k : Nat) : (s.setCluster c v).loom k = s.loom k := rfl
@[simp] theorem State.loom_setQuad (s : State) (q : Nat) (v : Quad) (k : Nat) : (s.setQuad q v).loom k = s.loom k := rfl
@[simp] theorem State.loom_setPort (s : State) (p : Nat) (v : Port) (k : Nat) : (s.setPort p v).loom k = s.loom k := rfl
@[simp] theorem State.loom_setAccount (s : State) (n : Nat) (v : Account) (k : Nat) : (s.setAccount n v).loom k = s.loom k := rfl
@[simp] theorem State.loom_setObj (s : State) (o : Nat) (v : SyncObj) (k : Nat) : (s.setObj o v).loom k = s.loom k := rfl
@[simp] theorem State.loom_setChan (s : State) (n c : Nat) (v : Channel) (k : Nat) : (s.setChan n c v).loom k = s.loom k := rfl
@[simp] theorem State.loom_setTrickle (s : State) (n f : Nat) (v : Trickle) (k : Nat) : (s.setTrickle n f v).loom k = s.loom k := rfl

/-! ## core reads cores -/

@[simp] theorem State.core_setReg (s : State) (i a v : Nat) (x y z : Nat) : (s.setReg i a v).core x y z = s.core x y z := rfl
@[simp] theorem State.core_setFld (s : State) (i a hi lo v : Nat) (x y z : Nat) : (s.setFld i a hi lo v).core x y z = s.core x y z := rfl
@[simp] theorem State.core_count (s : State) (i a n : Nat) (x y z : Nat) : (s.count i a n).core x y z = s.core x y z := rfl
@[simp] theorem State.core_setSel (s : State) (rq a v : Nat) (x y z : Nat) : (s.setSel rq a v).core x y z = s.core x y z := rfl
@[simp] theorem State.core_setFn (s : State) (f : Nat) (v : Fn) (x y z : Nat) : (s.setFn f v).core x y z = s.core x y z := rfl
@[simp] theorem State.core_send (s : State) (m : OutMsg) (x y z : Nat) : (s.send m).core x y z = s.core x y z := rfl
@[simp] theorem State.core_setRing (s : State) (r : Nat) (v : Ring) (x y z : Nat) : (s.setRing r v).core x y z = s.core x y z := rfl
@[simp] theorem State.core_fresh (s : State) (x y z : Nat) : (s.fresh).core x y z = s.core x y z := rfl
@[simp] theorem State.core_setPanel (s : State) (p : Nat) (v : Panel) (x y z : Nat) : (s.setPanel p v).core x y z = s.core x y z := rfl
@[simp] theorem State.core_setRtv (s : State) (n : Nat) (v : Retriever) (x y z : Nat) : (s.setRtv n v).core x y z = s.core x y z := rfl
@[simp] theorem State.core_setArb (s : State) (a : Nat) (v : Arb) (x y z : Nat) : (s.setArb a v).core x y z = s.core x y z := rfl
@[simp] theorem State.core_setLoom (s : State) (n : Nat) (v : Loom) (x y z : Nat) : (s.setLoom n v).core x y z = s.core x y z := rfl
@[simp] theorem State.core_setCluster (s : State) (c : Nat) (v : Cluster) (x y z : Nat) : (s.setCluster c v).core x y z = s.core x y z := rfl
@[simp] theorem State.core_setQuad (s : State) (q : Nat) (v : Quad) (x y z : Nat) : (s.setQuad q v).core x y z = s.core x y z := rfl
@[simp] theorem State.core_setPort (s : State) (p : Nat) (v : Port) (x y z : Nat) : (s.setPort p v).core x y z = s.core x y z := rfl
@[simp] theorem State.core_setAccount (s : State) (n : Nat) (v : Account) (x y z : Nat) : (s.setAccount n v).core x y z = s.core x y z := rfl
@[simp] theorem State.core_setObj (s : State) (o : Nat) (v : SyncObj) (x y z : Nat) : (s.setObj o v).core x y z = s.core x y z := rfl
@[simp] theorem State.core_setChan (s : State) (n c : Nat) (v : Channel) (x y z : Nat) : (s.setChan n c v).core x y z = s.core x y z := rfl
@[simp] theorem State.core_setTrickle (s : State) (n f : Nat) (v : Trickle) (x y z : Nat) : (s.setTrickle n f v).core x y z = s.core x y z := rfl

/-! ## cluster reads power -/

@[simp] theorem State.cluster_setReg (s : State) (i a v : Nat) (k : Nat) : (s.setReg i a v).cluster k = s.cluster k := rfl
@[simp] theorem State.cluster_setFld (s : State) (i a hi lo v : Nat) (k : Nat) : (s.setFld i a hi lo v).cluster k = s.cluster k := rfl
@[simp] theorem State.cluster_count (s : State) (i a n : Nat) (k : Nat) : (s.count i a n).cluster k = s.cluster k := rfl
@[simp] theorem State.cluster_setSel (s : State) (rq a v : Nat) (k : Nat) : (s.setSel rq a v).cluster k = s.cluster k := rfl
@[simp] theorem State.cluster_setFn (s : State) (f : Nat) (v : Fn) (k : Nat) : (s.setFn f v).cluster k = s.cluster k := rfl
@[simp] theorem State.cluster_send (s : State) (m : OutMsg) (k : Nat) : (s.send m).cluster k = s.cluster k := rfl
@[simp] theorem State.cluster_setRing (s : State) (r : Nat) (v : Ring) (k : Nat) : (s.setRing r v).cluster k = s.cluster k := rfl
@[simp] theorem State.cluster_fresh (s : State) (k : Nat) : (s.fresh).cluster k = s.cluster k := rfl
@[simp] theorem State.cluster_setPanel (s : State) (p : Nat) (v : Panel) (k : Nat) : (s.setPanel p v).cluster k = s.cluster k := rfl
@[simp] theorem State.cluster_setRtv (s : State) (n : Nat) (v : Retriever) (k : Nat) : (s.setRtv n v).cluster k = s.cluster k := rfl
@[simp] theorem State.cluster_setArb (s : State) (a : Nat) (v : Arb) (k : Nat) : (s.setArb a v).cluster k = s.cluster k := rfl
@[simp] theorem State.cluster_setLoom (s : State) (n : Nat) (v : Loom) (k : Nat) : (s.setLoom n v).cluster k = s.cluster k := rfl
@[simp] theorem State.cluster_setCore (s : State) (n r c : Nat) (v : Core) (k : Nat) : (s.setCore n r c v).cluster k = s.cluster k := rfl
@[simp] theorem State.cluster_setPort (s : State) (p : Nat) (v : Port) (k : Nat) : (s.setPort p v).cluster k = s.cluster k := rfl
@[simp] theorem State.cluster_setAccount (s : State) (n : Nat) (v : Account) (k : Nat) : (s.setAccount n v).cluster k = s.cluster k := rfl
@[simp] theorem State.cluster_setObj (s : State) (o : Nat) (v : SyncObj) (k : Nat) : (s.setObj o v).cluster k = s.cluster k := rfl
@[simp] theorem State.cluster_setChan (s : State) (n c : Nat) (v : Channel) (k : Nat) : (s.setChan n c v).cluster k = s.cluster k := rfl
@[simp] theorem State.cluster_setTrickle (s : State) (n f : Nat) (v : Trickle) (k : Nat) : (s.setTrickle n f v).cluster k = s.cluster k := rfl

/-! ## quad reads power -/

@[simp] theorem State.quad_setReg (s : State) (i a v : Nat) (k : Nat) : (s.setReg i a v).quad k = s.quad k := rfl
@[simp] theorem State.quad_setFld (s : State) (i a hi lo v : Nat) (k : Nat) : (s.setFld i a hi lo v).quad k = s.quad k := rfl
@[simp] theorem State.quad_count (s : State) (i a n : Nat) (k : Nat) : (s.count i a n).quad k = s.quad k := rfl
@[simp] theorem State.quad_setSel (s : State) (rq a v : Nat) (k : Nat) : (s.setSel rq a v).quad k = s.quad k := rfl
@[simp] theorem State.quad_setFn (s : State) (f : Nat) (v : Fn) (k : Nat) : (s.setFn f v).quad k = s.quad k := rfl
@[simp] theorem State.quad_send (s : State) (m : OutMsg) (k : Nat) : (s.send m).quad k = s.quad k := rfl
@[simp] theorem State.quad_setRing (s : State) (r : Nat) (v : Ring) (k : Nat) : (s.setRing r v).quad k = s.quad k := rfl
@[simp] theorem State.quad_fresh (s : State) (k : Nat) : (s.fresh).quad k = s.quad k := rfl
@[simp] theorem State.quad_setPanel (s : State) (p : Nat) (v : Panel) (k : Nat) : (s.setPanel p v).quad k = s.quad k := rfl
@[simp] theorem State.quad_setRtv (s : State) (n : Nat) (v : Retriever) (k : Nat) : (s.setRtv n v).quad k = s.quad k := rfl
@[simp] theorem State.quad_setArb (s : State) (a : Nat) (v : Arb) (k : Nat) : (s.setArb a v).quad k = s.quad k := rfl
@[simp] theorem State.quad_setLoom (s : State) (n : Nat) (v : Loom) (k : Nat) : (s.setLoom n v).quad k = s.quad k := rfl
@[simp] theorem State.quad_setCore (s : State) (n r c : Nat) (v : Core) (k : Nat) : (s.setCore n r c v).quad k = s.quad k := rfl
@[simp] theorem State.quad_setPort (s : State) (p : Nat) (v : Port) (k : Nat) : (s.setPort p v).quad k = s.quad k := rfl
@[simp] theorem State.quad_setAccount (s : State) (n : Nat) (v : Account) (k : Nat) : (s.setAccount n v).quad k = s.quad k := rfl
@[simp] theorem State.quad_setObj (s : State) (o : Nat) (v : SyncObj) (k : Nat) : (s.setObj o v).quad k = s.quad k := rfl
@[simp] theorem State.quad_setChan (s : State) (n c : Nat) (v : Channel) (k : Nat) : (s.setChan n c v).quad k = s.quad k := rfl
@[simp] theorem State.quad_setTrickle (s : State) (n f : Nat) (v : Trickle) (k : Nat) : (s.setTrickle n f v).quad k = s.quad k := rfl

/-! ## port reads pack -/

@[simp] theorem State.port_setReg (s : State) (i a v : Nat) (k : Nat) : (s.setReg i a v).port k = s.port k := rfl
@[simp] theorem State.port_setFld (s : State) (i a hi lo v : Nat) (k : Nat) : (s.setFld i a hi lo v).port k = s.port k := rfl
@[simp] theorem State.port_count (s : State) (i a n : Nat) (k : Nat) : (s.count i a n).port k = s.port k := rfl
@[simp] theorem State.port_setSel (s : State) (rq a v : Nat) (k : Nat) : (s.setSel rq a v).port k = s.port k := rfl
@[simp] theorem State.port_setFn (s : State) (f : Nat) (v : Fn) (k : Nat) : (s.setFn f v).port k = s.port k := rfl
@[simp] theorem State.port_send (s : State) (m : OutMsg) (k : Nat) : (s.send m).port k = s.port k := rfl
@[simp] theorem State.port_setRing (s : State) (r : Nat) (v : Ring) (k : Nat) : (s.setRing r v).port k = s.port k := rfl
@[simp] theorem State.port_fresh (s : State) (k : Nat) : (s.fresh).port k = s.port k := rfl
@[simp] theorem State.port_setPanel (s : State) (p : Nat) (v : Panel) (k : Nat) : (s.setPanel p v).port k = s.port k := rfl
@[simp] theorem State.port_setRtv (s : State) (n : Nat) (v : Retriever) (k : Nat) : (s.setRtv n v).port k = s.port k := rfl
@[simp] theorem State.port_setArb (s : State) (a : Nat) (v : Arb) (k : Nat) : (s.setArb a v).port k = s.port k := rfl
@[simp] theorem State.port_setLoom (s : State) (n : Nat) (v : Loom) (k : Nat) : (s.setLoom n v).port k = s.port k := rfl
@[simp] theorem State.port_setCore (s : State) (n r c : Nat) (v : Core) (k : Nat) : (s.setCore n r c v).port k = s.port k := rfl
@[simp] theorem State.port_setCluster (s : State) (c : Nat) (v : Cluster) (k : Nat) : (s.setCluster c v).port k = s.port k := rfl
@[simp] theorem State.port_setQuad (s : State) (q : Nat) (v : Quad) (k : Nat) : (s.setQuad q v).port k = s.port k := rfl
@[simp] theorem State.port_setAccount (s : State) (n : Nat) (v : Account) (k : Nat) : (s.setAccount n v).port k = s.port k := rfl
@[simp] theorem State.port_setObj (s : State) (o : Nat) (v : SyncObj) (k : Nat) : (s.setObj o v).port k = s.port k := rfl
@[simp] theorem State.port_setChan (s : State) (n c : Nat) (v : Channel) (k : Nat) : (s.setChan n c v).port k = s.port k := rfl
@[simp] theorem State.port_setTrickle (s : State) (n f : Nat) (v : Trickle) (k : Nat) : (s.setTrickle n f v).port k = s.port k := rfl

/-! ## account reads ledger -/

@[simp] theorem State.account_setReg (s : State) (i a v : Nat) (k : Nat) : (s.setReg i a v).account k = s.account k := rfl
@[simp] theorem State.account_setFld (s : State) (i a hi lo v : Nat) (k : Nat) : (s.setFld i a hi lo v).account k = s.account k := rfl
@[simp] theorem State.account_count (s : State) (i a n : Nat) (k : Nat) : (s.count i a n).account k = s.account k := rfl
@[simp] theorem State.account_setSel (s : State) (rq a v : Nat) (k : Nat) : (s.setSel rq a v).account k = s.account k := rfl
@[simp] theorem State.account_setFn (s : State) (f : Nat) (v : Fn) (k : Nat) : (s.setFn f v).account k = s.account k := rfl
@[simp] theorem State.account_send (s : State) (m : OutMsg) (k : Nat) : (s.send m).account k = s.account k := rfl
@[simp] theorem State.account_setRing (s : State) (r : Nat) (v : Ring) (k : Nat) : (s.setRing r v).account k = s.account k := rfl
@[simp] theorem State.account_fresh (s : State) (k : Nat) : (s.fresh).account k = s.account k := rfl
@[simp] theorem State.account_setPanel (s : State) (p : Nat) (v : Panel) (k : Nat) : (s.setPanel p v).account k = s.account k := rfl
@[simp] theorem State.account_setRtv (s : State) (n : Nat) (v : Retriever) (k : Nat) : (s.setRtv n v).account k = s.account k := rfl
@[simp] theorem State.account_setArb (s : State) (a : Nat) (v : Arb) (k : Nat) : (s.setArb a v).account k = s.account k := rfl
@[simp] theorem State.account_setLoom (s : State) (n : Nat) (v : Loom) (k : Nat) : (s.setLoom n v).account k = s.account k := rfl
@[simp] theorem State.account_setCore (s : State) (n r c : Nat) (v : Core) (k : Nat) : (s.setCore n r c v).account k = s.account k := rfl
@[simp] theorem State.account_setCluster (s : State) (c : Nat) (v : Cluster) (k : Nat) : (s.setCluster c v).account k = s.account k := rfl
@[simp] theorem State.account_setQuad (s : State) (q : Nat) (v : Quad) (k : Nat) : (s.setQuad q v).account k = s.account k := rfl
@[simp] theorem State.account_setPort (s : State) (p : Nat) (v : Port) (k : Nat) : (s.setPort p v).account k = s.account k := rfl
@[simp] theorem State.account_setObj (s : State) (o : Nat) (v : SyncObj) (k : Nat) : (s.setObj o v).account k = s.account k := rfl
@[simp] theorem State.account_setChan (s : State) (n c : Nat) (v : Channel) (k : Nat) : (s.setChan n c v).account k = s.account k := rfl
@[simp] theorem State.account_setTrickle (s : State) (n f : Nat) (v : Trickle) (k : Nat) : (s.setTrickle n f v).account k = s.account k := rfl

/-! ## obj reads sync -/

@[simp] theorem State.obj_setReg (s : State) (i a v : Nat) (k : Nat) : (s.setReg i a v).obj k = s.obj k := rfl
@[simp] theorem State.obj_setFld (s : State) (i a hi lo v : Nat) (k : Nat) : (s.setFld i a hi lo v).obj k = s.obj k := rfl
@[simp] theorem State.obj_count (s : State) (i a n : Nat) (k : Nat) : (s.count i a n).obj k = s.obj k := rfl
@[simp] theorem State.obj_setSel (s : State) (rq a v : Nat) (k : Nat) : (s.setSel rq a v).obj k = s.obj k := rfl
@[simp] theorem State.obj_setFn (s : State) (f : Nat) (v : Fn) (k : Nat) : (s.setFn f v).obj k = s.obj k := rfl
@[simp] theorem State.obj_send (s : State) (m : OutMsg) (k : Nat) : (s.send m).obj k = s.obj k := rfl
@[simp] theorem State.obj_setRing (s : State) (r : Nat) (v : Ring) (k : Nat) : (s.setRing r v).obj k = s.obj k := rfl
@[simp] theorem State.obj_fresh (s : State) (k : Nat) : (s.fresh).obj k = s.obj k := rfl
@[simp] theorem State.obj_setPanel (s : State) (p : Nat) (v : Panel) (k : Nat) : (s.setPanel p v).obj k = s.obj k := rfl
@[simp] theorem State.obj_setRtv (s : State) (n : Nat) (v : Retriever) (k : Nat) : (s.setRtv n v).obj k = s.obj k := rfl
@[simp] theorem State.obj_setArb (s : State) (a : Nat) (v : Arb) (k : Nat) : (s.setArb a v).obj k = s.obj k := rfl
@[simp] theorem State.obj_setLoom (s : State) (n : Nat) (v : Loom) (k : Nat) : (s.setLoom n v).obj k = s.obj k := rfl
@[simp] theorem State.obj_setCore (s : State) (n r c : Nat) (v : Core) (k : Nat) : (s.setCore n r c v).obj k = s.obj k := rfl
@[simp] theorem State.obj_setCluster (s : State) (c : Nat) (v : Cluster) (k : Nat) : (s.setCluster c v).obj k = s.obj k := rfl
@[simp] theorem State.obj_setQuad (s : State) (q : Nat) (v : Quad) (k : Nat) : (s.setQuad q v).obj k = s.obj k := rfl
@[simp] theorem State.obj_setPort (s : State) (p : Nat) (v : Port) (k : Nat) : (s.setPort p v).obj k = s.obj k := rfl
@[simp] theorem State.obj_setAccount (s : State) (n : Nat) (v : Account) (k : Nat) : (s.setAccount n v).obj k = s.obj k := rfl
@[simp] theorem State.obj_setChan (s : State) (n c : Nat) (v : Channel) (k : Nat) : (s.setChan n c v).obj k = s.obj k := rfl
@[simp] theorem State.obj_setTrickle (s : State) (n f : Nat) (v : Trickle) (k : Nat) : (s.setTrickle n f v).obj k = s.obj k := rfl

/-! ## chan reads rtvs -/

@[simp] theorem State.chan_setReg (s : State) (i a v : Nat) (k d : Nat) : (s.setReg i a v).chan k d = s.chan k d := rfl
@[simp] theorem State.chan_setFld (s : State) (i a hi lo v : Nat) (k d : Nat) : (s.setFld i a hi lo v).chan k d = s.chan k d := rfl
@[simp] theorem State.chan_count (s : State) (i a n : Nat) (k d : Nat) : (s.count i a n).chan k d = s.chan k d := rfl
@[simp] theorem State.chan_setSel (s : State) (rq a v : Nat) (k d : Nat) : (s.setSel rq a v).chan k d = s.chan k d := rfl
@[simp] theorem State.chan_setFn (s : State) (f : Nat) (v : Fn) (k d : Nat) : (s.setFn f v).chan k d = s.chan k d := rfl
@[simp] theorem State.chan_send (s : State) (m : OutMsg) (k d : Nat) : (s.send m).chan k d = s.chan k d := rfl
@[simp] theorem State.chan_setRing (s : State) (r : Nat) (v : Ring) (k d : Nat) : (s.setRing r v).chan k d = s.chan k d := rfl
@[simp] theorem State.chan_fresh (s : State) (k d : Nat) : (s.fresh).chan k d = s.chan k d := rfl
@[simp] theorem State.chan_setPanel (s : State) (p : Nat) (v : Panel) (k d : Nat) : (s.setPanel p v).chan k d = s.chan k d := rfl
@[simp] theorem State.chan_setArb (s : State) (a : Nat) (v : Arb) (k d : Nat) : (s.setArb a v).chan k d = s.chan k d := rfl
@[simp] theorem State.chan_setLoom (s : State) (n : Nat) (v : Loom) (k d : Nat) : (s.setLoom n v).chan k d = s.chan k d := rfl
@[simp] theorem State.chan_setCore (s : State) (n r c : Nat) (v : Core) (k d : Nat) : (s.setCore n r c v).chan k d = s.chan k d := rfl
@[simp] theorem State.chan_setCluster (s : State) (c : Nat) (v : Cluster) (k d : Nat) : (s.setCluster c v).chan k d = s.chan k d := rfl
@[simp] theorem State.chan_setQuad (s : State) (q : Nat) (v : Quad) (k d : Nat) : (s.setQuad q v).chan k d = s.chan k d := rfl
@[simp] theorem State.chan_setPort (s : State) (p : Nat) (v : Port) (k d : Nat) : (s.setPort p v).chan k d = s.chan k d := rfl
@[simp] theorem State.chan_setAccount (s : State) (n : Nat) (v : Account) (k d : Nat) : (s.setAccount n v).chan k d = s.chan k d := rfl
@[simp] theorem State.chan_setObj (s : State) (o : Nat) (v : SyncObj) (k d : Nat) : (s.setObj o v).chan k d = s.chan k d := rfl

/-! ## trickle reads rtvs -/

@[simp] theorem State.trickle_setReg (s : State) (i a v : Nat) (k g : Nat) : (s.setReg i a v).trickle k g = s.trickle k g := rfl
@[simp] theorem State.trickle_setFld (s : State) (i a hi lo v : Nat) (k g : Nat) : (s.setFld i a hi lo v).trickle k g = s.trickle k g := rfl
@[simp] theorem State.trickle_count (s : State) (i a n : Nat) (k g : Nat) : (s.count i a n).trickle k g = s.trickle k g := rfl
@[simp] theorem State.trickle_setSel (s : State) (rq a v : Nat) (k g : Nat) : (s.setSel rq a v).trickle k g = s.trickle k g := rfl
@[simp] theorem State.trickle_setFn (s : State) (f : Nat) (v : Fn) (k g : Nat) : (s.setFn f v).trickle k g = s.trickle k g := rfl
@[simp] theorem State.trickle_send (s : State) (m : OutMsg) (k g : Nat) : (s.send m).trickle k g = s.trickle k g := rfl
@[simp] theorem State.trickle_setRing (s : State) (r : Nat) (v : Ring) (k g : Nat) : (s.setRing r v).trickle k g = s.trickle k g := rfl
@[simp] theorem State.trickle_fresh (s : State) (k g : Nat) : (s.fresh).trickle k g = s.trickle k g := rfl
@[simp] theorem State.trickle_setPanel (s : State) (p : Nat) (v : Panel) (k g : Nat) : (s.setPanel p v).trickle k g = s.trickle k g := rfl
@[simp] theorem State.trickle_setArb (s : State) (a : Nat) (v : Arb) (k g : Nat) : (s.setArb a v).trickle k g = s.trickle k g := rfl
@[simp] theorem State.trickle_setLoom (s : State) (n : Nat) (v : Loom) (k g : Nat) : (s.setLoom n v).trickle k g = s.trickle k g := rfl
@[simp] theorem State.trickle_setCore (s : State) (n r c : Nat) (v : Core) (k g : Nat) : (s.setCore n r c v).trickle k g = s.trickle k g := rfl
@[simp] theorem State.trickle_setCluster (s : State) (c : Nat) (v : Cluster) (k g : Nat) : (s.setCluster c v).trickle k g = s.trickle k g := rfl
@[simp] theorem State.trickle_setQuad (s : State) (q : Nat) (v : Quad) (k g : Nat) : (s.setQuad q v).trickle k g = s.trickle k g := rfl
@[simp] theorem State.trickle_setPort (s : State) (p : Nat) (v : Port) (k g : Nat) : (s.setPort p v).trickle k g = s.trickle k g := rfl
@[simp] theorem State.trickle_setAccount (s : State) (n : Nat) (v : Account) (k g : Nat) : (s.setAccount n v).trickle k g = s.trickle k g := rfl
@[simp] theorem State.trickle_setObj (s : State) (o : Nat) (v : SyncObj) (k g : Nat) : (s.setObj o v).trickle k g = s.trickle k g := rfl

/-! ## A part read after it was set -/

@[simp] theorem State.ring_setRing (s : State) (r : Nat) (v : Ring) : (s.setRing r v).ring r = v := mget_mset _ _ _ _
theorem State.ring_setRing_ne (s : State) {r k : Nat} (v : Ring) (h : k ≠ r) : (s.setRing r v).ring k = s.ring k :=
  mget_mset_ne _ _ _ _ h
@[simp] theorem State.panel_setPanel (s : State) (p : Nat) (v : Panel) : (s.setPanel p v).panel p = v := mget_mset _ _ _ _
theorem State.panel_setPanel_ne (s : State) {p k : Nat} (v : Panel) (h : k ≠ p) : (s.setPanel p v).panel k = s.panel k :=
  mget_mset_ne _ _ _ _ h
@[simp] theorem State.rtv_setRtv (s : State) (n : Nat) (v : Retriever) : (s.setRtv n v).rtv n = v := mget_mset _ _ _ _
theorem State.rtv_setRtv_ne (s : State) {n k : Nat} (v : Retriever) (h : k ≠ n) : (s.setRtv n v).rtv k = s.rtv k :=
  mget_mset_ne _ _ _ _ h
@[simp] theorem State.arb_setArb (s : State) (a : Nat) (v : Arb) : (s.setArb a v).arb a = v := mget_mset _ _ _ _
theorem State.arb_setArb_ne (s : State) {a k : Nat} (v : Arb) (h : k ≠ a) : (s.setArb a v).arb k = s.arb k :=
  mget_mset_ne _ _ _ _ h
@[simp] theorem State.fn_setFn (s : State) (f : Nat) (v : Fn) : (s.setFn f v).fn f = v := mget_mset _ _ _ _
theorem State.fn_setFn_ne (s : State) {f k : Nat} (v : Fn) (h : k ≠ f) : (s.setFn f v).fn k = s.fn k :=
  mget_mset_ne _ _ _ _ h
@[simp] theorem State.loom_setLoom (s : State) (n : Nat) (v : Loom) : (s.setLoom n v).loom n = v := mget_mset _ _ _ _
theorem State.loom_setLoom_ne (s : State) {n k : Nat} (v : Loom) (h : k ≠ n) : (s.setLoom n v).loom k = s.loom k :=
  mget_mset_ne _ _ _ _ h
@[simp] theorem State.core_setCore (s : State) (n r c : Nat) (v : Core) : (s.setCore n r c v).core n r c = v :=
  mget_mset _ _ _ _
@[simp] theorem State.cluster_setCluster (s : State) (c : Nat) (v : Cluster) : (s.setCluster c v).cluster c = v :=
  mget_mset _ _ _ _
theorem State.cluster_setCluster_ne (s : State) {c k : Nat} (v : Cluster) (h : k ≠ c) :
    (s.setCluster c v).cluster k = s.cluster k := mget_mset_ne _ _ _ _ h
@[simp] theorem State.cluster_setQuad (s : State) (q : Nat) (v : Quad) (k : Nat) : (s.setQuad q v).cluster k = s.cluster k :=
  rfl
@[simp] theorem State.quad_setCluster (s : State) (c : Nat) (v : Cluster) (k : Nat) : (s.setCluster c v).quad k = s.quad k :=
  rfl
@[simp] theorem State.quad_setQuad (s : State) (q : Nat) (v : Quad) : (s.setQuad q v).quad q = v := mget_mset _ _ _ _
theorem State.quad_setQuad_ne (s : State) {q k : Nat} (v : Quad) (h : k ≠ q) : (s.setQuad q v).quad k = s.quad k :=
  mget_mset_ne _ _ _ _ h
@[simp] theorem State.port_setPort (s : State) (p : Nat) (v : Port) : (s.setPort p v).port p = v := mget_mset _ _ _ _
theorem State.port_setPort_ne (s : State) {p k : Nat} (v : Port) (h : k ≠ p) : (s.setPort p v).port k = s.port k :=
  mget_mset_ne _ _ _ _ h
@[simp] theorem State.account_setAccount (s : State) (n : Nat) (v : Account) : (s.setAccount n v).account n = v :=
  mget_mput _ _ _ _
@[simp] theorem State.obj_setObj (s : State) (o : Nat) (v : SyncObj) : (s.setObj o v).obj o = v := mget_mset _ _ _ _
theorem State.obj_setObj_ne (s : State) {o k : Nat} (v : SyncObj) (h : k ≠ o) : (s.setObj o v).obj k = s.obj k :=
  mget_mset_ne _ _ _ _ h
@[simp] theorem State.chan_setChan (s : State) (n c : Nat) (v : Channel) : (s.setChan n c v).chan n c = v := by
  simp [State.chan, State.setChan]
@[simp] theorem State.trickle_setTrickle (s : State) (n f : Nat) (v : Trickle) : (s.setTrickle n f v).trickle n f = v := by
  simp [State.trickle, State.setTrickle]
@[simp] theorem State.sel_setSel (s : State) (rq a v : Nat) : (s.setSel rq a v).sel rq a = v % 2 ^ 64 := by
  simp [State.sel, State.setSel]

/-! ## Registers -/

theorem State.reg_lt (s : State) (i a : Nat) : s.reg i a < 2 ^ 64 := BitVec.isLt _

@[simp] theorem State.reg_setReg (s : State) (i a v : Nat) : (s.setReg i a v).reg i a = v % 2 ^ 64 := by
  simp [State.reg, State.setReg]

/-- A register of another index or offset keeps its value. -/
theorem State.reg_setReg_ne (s : State) {i a j b : Nat} (v : Nat) (h : regKey j b ≠ regKey i a) :
    (s.setReg i a v).reg j b = s.reg j b := by
  simp [State.reg, State.setReg, mget_mset_ne _ _ _ _ h]

@[simp] theorem State.reg_count (s : State) (i a n : Nat) : (s.count i a n).reg i a = (s.reg i a + n) % 2 ^ 64 :=
  State.reg_setReg s i a _

theorem State.reg_count_ne (s : State) {i a j b : Nat} (n : Nat) (h : regKey j b ≠ regKey i a) :
    (s.count i a n).reg j b = s.reg j b := State.reg_setReg_ne s _ h

theorem State.reg_setFld_ne (s : State) {i a j b : Nat} (hi lo v : Nat) (h : regKey j b ≠ regKey i a) :
    (s.setFld i a hi lo v).reg j b = s.reg j b := State.reg_setReg_ne s _ h

theorem regKey_inj {i a j b : Nat} (ha : a < 2 ^ 32) (hb : b < 2 ^ 32) : regKey i a = regKey j b ↔ i = j ∧ a = b := by
  unfold regKey
  constructor
  · intro h; omega
  · rintro ⟨rfl, rfl⟩; rfl

end Sys2Proof.Machine
end

