-- ==== Sys2Proof/Laws/Ops.lean ====
section
/-! SUPPORT. Sys2Proof/Laws/Ops.lean: what each shared operation can do to the state, said once for each: the parts of the
state that it may replace, and what it puts into a ring or an object. -/

set_option Elab.async false

namespace Sys2Proof.Machine

open Sys2Proof

/-! ## Commands on units -/

/-- A command on a unit answers its state where the unit exists, and faults where it does not. -/
theorem onUnit_eq_next {ok : Bool} {t u : State} : onUnit ok t = .next u ↔ ok = true ∧ t = u := by
  cases ok <;> simp [onUnit]

theorem onUnit_eq_fault {ok : Bool} {t : State} {e : Fault} : onUnit ok t = .fault e ↔ ok = false ∧ e = .noSuchUnit := by
  cases ok <;> simp [onUnit, eq_comm]

theorem onUnit_ne_refused {ok : Bool} {t : State} {e : Refusal} : onUnit ok t ≠ .refused e := by
  cases ok <;> simp [onUnit]

/-! ## Interrupts, errors, trace and activity -/

/-- A state that differs from another in its registers alone. -/
def RegsOnly (s t : State) : Prop := ∃ rg, t = { s with regs := rg }

theorem RegsOnly.refl (s : State) : RegsOnly s s := ⟨s.regs, rfl⟩

theorem RegsOnly.setReg {s t : State} (h : RegsOnly s t) (i a v : Nat) : RegsOnly s (t.setReg i a v) := by
  obtain ⟨rg, rfl⟩ := h
  exact ⟨_, rfl⟩

theorem RegsOnly.count {s t : State} (h : RegsOnly s t) (i a n : Nat) : RegsOnly s (t.count i a n) := by
  obtain ⟨rg, rfl⟩ := h
  exact ⟨_, rfl⟩

/-- A set pending bit changes the function alone. -/
theorem setPending_shape (s : State) (f v : Nat) : ∃ pc, setPending s f v = { s with pci := pc } := ⟨_, rfl⟩

/-- An MSI-X message is sent, pends, or is counted. -/
theorem sendVector_shape (s : State) (f v : Nat) :
    ∃ rg pc ou, sendVector s f v = { s with regs := rg, pci := pc, out := ou } := by
  unfold sendVector
  split
  · exact ⟨_, _, _, rfl⟩
  · split
    · exact ⟨_, _, _, rfl⟩
    · split <;> exact ⟨_, _, _, rfl⟩

/-- An error event that has passed its crossing is a vector, a pending bit or a count. -/
theorem errVector_shape (s : State) (part : Nat) :
    ∃ rg pc ou, errVector s part = { s with regs := rg, pci := pc, out := ou } := by
  unfold errVector
  split
  · exact ⟨_, _, _, rfl⟩
  · split
    · split
      · exact ⟨_, _, _, rfl⟩
      · exact sendVector_shape s 0 0
    · exact sendVector_shape s part 0

/-- An error event changes registers, the functions and what leaves the package, whether its crossing lets it pass or not. -/
theorem errEvent_shape (s : State) (part : Nat) :
    ∃ rg pc ou, errEvent s part = { s with regs := rg, pci := pc, out := ou } := by
  unfold errEvent crossing
  split
  · exact ⟨_, _, _, rfl⟩
  · obtain ⟨rg, pc, ou, h⟩ := errVector_shape (crossEnter s 1) part
    exact ⟨rg, pc, ou, h⟩

/-- A trace record changes the records in flight alone. -/
theorem trace_shape (s : State) (source kind status data : Nat) (who : Who) :
    ∃ fl, trace s source kind status data who = { s with monitor := { s.monitor with fly := s.monitor.fly ++ fl } } := by
  unfold trace
  simp only
  split
  · exact ⟨_, rfl⟩
  · exact ⟨[], by simp⟩

/-- A filtered counter advances or stands. -/
theorem filterCount_shape (s : State) (filt : Bool) (off n : Nat) :
    ∃ rg, filterCount s filt off n = { s with regs := rg } := by
  unfold filterCount
  split
  · exact ⟨_, rfl⟩
  · exact ⟨s.regs, rfl⟩

/-- An error changes registers, trace records, interrupts and what leaves the package, and nothing else. -/
theorem raiseErr_shape (s : State) (page b : Nat) (who : Who) (part : Nat) :
    ∃ rg pc mo ou, raiseErr s page b who part = { s with regs := rg, pci := pc, monitor := mo, out := ou } := by
  unfold raiseErr
  simp only
  generalize s.reg 0 (page + 0x18) ||| 2 ^ b = new
  have base : RegsOnly s ((if s.reg 0 (page + 0x18) = 0 then s.setReg 0 (page + 0x20) (who.layer * 2 ^ 16 + who.oper) else s).setReg 0
      (page + 0x18) new) := by
    apply RegsOnly.setReg
    split
    · exact (RegsOnly.refl s).setReg ..
    · exact .refl s
  obtain ⟨rg, h⟩ := base
  rw [h]
  split
  · exact ⟨rg, s.pci, s.monitor, s.out, rfl⟩
  · obtain ⟨fl, h1⟩ := trace_shape ({ s with regs := rg } : State) (blockId page) 4 0 new who
    rw [h1]
    split
    · exact ⟨_, _, _, _, rfl⟩
    · obtain ⟨rg', pc, ou, h2⟩ := errEvent_shape
          ({ s with regs := rg, monitor := { s.monitor with fly := s.monitor.fly ++ fl } } : State) part
      exact ⟨rg', pc, _, ou, h2⟩

/-- The same from a state that differs in registers alone. -/
theorem raiseErr_after {s t : State} (h : RegsOnly s t) (page b : Nat) (who : Who) (part : Nat) :
    ∃ rg pc mo ou, raiseErr t page b who part = { s with regs := rg, pci := pc, monitor := mo, out := ou } := by
  obtain ⟨rg0, rfl⟩ := h
  obtain ⟨rg, pc, mo, ou, h⟩ := raiseErr_shape ({ s with regs := rg0 } : State) page b who part
  exact ⟨rg, pc, mo, ou, h⟩

/-- The refusals of a register write are errors of its page. -/
theorem errState_shape (s : State) (page : Nat) :
    ∃ rg pc mo ou, errState s page = { s with regs := rg, pci := pc, monitor := mo, out := ou } := raiseErr_shape ..

theorem errKey_shape (s : State) (page : Nat) :
    ∃ rg pc mo ou, errKey s page = { s with regs := rg, pci := pc, monitor := mo, out := ou } := raiseErr_shape ..

theorem errAccess_shape (s : State) (page : Nat) :
    ∃ rg pc mo ou, errAccess s page = { s with regs := rg, pci := pc, monitor := mo, out := ou } := raiseErr_shape ..

/-- Activity is entered in the ledger's estimates and in the counts of the estimate window. -/
theorem activityAt_shape (s : State) (quad source cls n : Nat) (ring : Option Nat) :
    ∃ a b c, activityAt s quad source cls n ring =
      { s with ledger := { s.ledger with est := a, est4 := b }, power := { s.power with counts := c } } := ⟨_, _, _, rfl⟩

theorem activity_shape (s : State) (source cls n : Nat) (ring : Option Nat) :
    ∃ a b c, activity s source cls n ring =
      { s with ledger := { s.ledger with est := a, est4 := b }, power := { s.power with counts := c } } := ⟨_, _, _, rfl⟩

/-! ## Memory -/

/-- A failed sector is an error of its stack's page. -/
theorem recordSector_shape (s : State) (a kind : Nat) (patrol : Bool) (who : Who) :
    ∃ rg pc mo ou, recordSector s a kind patrol who = { s with regs := rg, pci := pc, monitor := mo, out := ou } := by
  unfold recordSector
  simp only
  apply raiseErr_after
  split
  · exact .refl s
  · exact ((RegsOnly.refl s).setReg ..).setReg ..

/-- An uncorrectable access is an error of its stack's page. -/
theorem hbmEcc_shape (s : State) (a kind : Nat) (patrol : Bool) (who : Who) :
    ∃ rg pc mo ou, hbmEcc s a kind patrol who = { s with regs := rg, pci := pc, monitor := mo, out := ou } := by
  obtain ⟨rg, pc, mo, ou, h⟩ := recordSector_shape (s.count 0 (stackPage (stackOf s a) + 0x58) 1) a kind patrol who
  exact ⟨rg, pc, mo, ou, h⟩

/-- The failures of an access are errors of its stacks' pages. -/
theorem failAccess_shape (who : Who) (xs : List (Nat × Nat)) : ∀ (s : State) (counted : List Nat),
    ∃ rg pc mo ou, failAccess s who xs counted = { s with regs := rg, pci := pc, monitor := mo, out := ou } := by
  induction xs with
  | nil => exact fun s _ => ⟨_, _, _, _, rfl⟩
  | cons x r ih =>
    intro s counted
    unfold failAccess
    simp only
    split
    · obtain ⟨rg, pc, mo, ou, h⟩ := recordSector_shape s (32 * x.1) x.2 false who
      rw [h]
      obtain ⟨rg', pc', mo', ou', h'⟩ := ih ({ s with regs := rg, pci := pc, monitor := mo, out := ou } : State) counted
      exact ⟨rg', pc', mo', ou', h'⟩
    · obtain ⟨rg, pc, mo, ou, h⟩ := hbmEcc_shape s (32 * x.1) x.2 false who
      rw [h]
      obtain ⟨rg', pc', mo', ou', h'⟩ := ih ({ s with regs := rg, pci := pc, monitor := mo, out := ou } : State)
        (stackOf s (32 * x.1) :: counted)
      exact ⟨rg', pc', mo', ou', h'⟩

/-- A store into stage memory by another agent writes its bytes and notes the race in the Loom commands. -/
theorem stageStore_shape (s : State) (a : Nat) (bs : List Byte) :
    ∃ pn, s.stageStore a bs = { s with stage := s.stage.write a bs, panels := pn } := ⟨_, rfl⟩

/-- The bytes of a store into HBM change HBM and its failed sectors. -/
theorem hbmSectors_shape (lost : List Nat) (a : Nat) (bs : List Byte) (xs : List Nat) : ∀ s : State,
    ∃ hb st, hbmSectors s lost a bs xs = { s with hbm := hb, stackSet := st } := by
  induction xs with
  | nil => exact fun s => ⟨_, _, rfl⟩
  | cons x r ih =>
    intro s
    simp only [hbmSectors]
    split
    · exact ih s
    · split
      · split
        · obtain ⟨hb, st, h⟩ := ih _
          exact ⟨hb, st, h⟩
        · exact ih s
      · obtain ⟨hb, st, h⟩ := ih _
        exact ⟨hb, st, h⟩

/-- A sector that moves is counted, as activity too, and its page is open or closed after it. -/
theorem moveSector_shape (s : State) (a : Nat) (win partialWrite : Bool) (ring : Option Nat) :
    ∃ st rg le po, moveSector s a win partialWrite ring = { s with stackSet := st, regs := rg, ledger := le, power := po } := by
  unfold moveSector usePage
  simp only
  cases win <;> exact ⟨_, _, _, _, rfl⟩

theorem moveBursts_shape (s : State) (a n : Nat) (write : Bool) (win : Nat → Bool) (ring : Option Nat) :
    ∃ st rg le po, moveBursts s a n write win ring = { s with stackSet := st, regs := rg, ledger := le, power := po } := by
  unfold moveBursts
  generalize sectorsOf a n = xs
  induction xs generalizing s with
  | nil => exact ⟨_, _, _, _, rfl⟩
  | cons x r ih =>
    rw [List.foldl_cons]
    obtain ⟨st, rg, le, po, h⟩ := moveSector_shape s (32 * x) (win (32 * x)) (write && !coversSector a n x) ring
    rw [h]
    obtain ⟨st', rg', le', po', h'⟩ := ih ({ s with stackSet := st, regs := rg, ledger := le, power := po } : State)
    exact ⟨st', rg', le', po', h'⟩

/-- A store into HBM changes HBM, the stacks, what traffic counts and what an error changes. -/
theorem hbmStore_shape (s : State) (a : Nat) (bs : List Byte) (who : Who) (ring : Option Nat) :
    ∃ hb st rg le po pc mo ou, s.hbmStore a bs who ring =
      { s with hbm := hb, stackSet := st, regs := rg, ledger := le, power := po, pci := pc, monitor := mo, out := ou } := by
  unfold State.hbmStore
  simp only
  obtain ⟨st, rg, le, po, h⟩ := moveBursts_shape s a bs.length true (inWindow s) ring
  rw [h]
  obtain ⟨hb, st', h'⟩ := hbmSectors_shape s.stackSet.lost a bs (sectorsOf a bs.length)
    ({ s with stackSet := st, regs := rg, ledger := le, power := po } : State)
  rw [h']
  obtain ⟨rg', pc, mo, ou, h2⟩ := failAccess_shape who (storeFailures s s.stackSet.lost a bs.length)
    (dropLost ({ s with stackSet := st', regs := rg, ledger := le, power := po, hbm := hb } : State) a bs.length true) []
  exact ⟨hb, _, rg', le, po, pc, mo, ou, h2⟩

/-- A read of HBM changes the stacks, what traffic counts and what an error changes. -/
theorem hbmLoad_shape (s : State) (a n : Nat) (who : Who) (ring : Option Nat) :
    ∃ st rg le po pc mo ou, s.hbmLoad a n who ring =
      { s with stackSet := st, regs := rg, ledger := le, power := po, pci := pc, monitor := mo, out := ou } := by
  unfold State.hbmLoad
  obtain ⟨st, rg, le, po, h⟩ := moveBursts_shape s a n false (inWindow s) ring
  rw [h]
  obtain ⟨rg', pc, mo, ou, h2⟩ := failAccess_shape who (readFailures s s.stackSet.lost a n)
    (dropLost ({ s with stackSet := st, regs := rg, ledger := le, power := po } : State) a n false) []
  exact ⟨_, rg', le, po, pc, mo, ou, h2⟩

/-- The bytes of a store keep the canonical form of HBM. -/
theorem hbmSectors_wf (lost : List Nat) (a : Nat) (bs : List Byte) (xs : List Nat) : ∀ s : State, s.hbm.wf = true →
    (hbmSectors s lost a bs xs).hbm.wf = true := by
  induction xs with
  | nil => exact fun s h => h
  | cons x r ih =>
    intro s h
    simp only [hbmSectors]
    split
    · exact ih s h
    · split
      · split
        · exact ih _ (Memory.wf_write _ _ _ h)
        · exact ih s h
      · exact ih _ (Memory.wf_write _ _ _ h)

/-- A store into HBM keeps its canonical form. -/
theorem hbmStore_wf (s : State) (a : Nat) (bs : List Byte) (who : Who) (ring : Option Nat) (h : s.hbm.wf = true) :
    (s.hbmStore a bs who ring).hbm.wf = true := by
  unfold State.hbmStore
  simp only
  obtain ⟨st, rg, le, po, h1⟩ := moveBursts_shape s a bs.length true (inWindow s) ring
  rw [h1]
  have w := hbmSectors_wf s.stackSet.lost a bs (sectorsOf a bs.length)
    ({ s with stackSet := st, regs := rg, ledger := le, power := po } : State) h
  obtain ⟨rg', pc, mo, ou, h2⟩ := failAccess_shape who (storeFailures s s.stackSet.lost a bs.length)
    (dropLost (hbmSectors ({ s with stackSet := st, regs := rg, ledger := le, power := po } : State) s.stackSet.lost a bs
      (sectorsOf a bs.length)) a bs.length true) []
  rw [h2]
  exact w

/-! ## Traffic -/

/-- A request joins the queue of one arbiter. -/
theorem arbEnqueue_shape (s : State) (a : Nat) (q : ArbReq) : ∃ ar, arbEnqueue s a q = { s with arbs := ar } := ⟨_, rfl⟩

theorem bridgePacket_shape (s : State) (die dir len input who tag : Nat) (ring : Option Nat) :
    ∃ ar, bridgePacket s die dir len input who tag ring = { s with arbs := ar } := by
  unfold bridgePacket
  split <;> exact ⟨_, rfl⟩

theorem crossDies_shape (s : State) (e d len input who tag : Nat) (ring : Option Nat) :
    ∃ ar, crossDies s e d len input who tag ring = { s with arbs := ar } := by
  unfold crossDies
  split
  · exact ⟨_, rfl⟩
  · obtain ⟨ar, h⟩ := bridgePacket_shape s e 0 len input who tag ring
    rw [h]
    obtain ⟨ar', h'⟩ := bridgePacket_shape ({ s with arbs := ar } : State) d 1 len input who tag ring
    exact ⟨ar', h'⟩

/-- A restarted clock is counted, and its stack leaves self-refresh. -/
theorem wakeIsland_shape (s : State) (i : Nat) : ∃ rg st po, wakeIsland s i = { s with regs := rg, stackSet := st, power := po } := by
  unfold wakeIsland
  split
  · exact ⟨_, _, _, rfl⟩
  · simp only
    split <;> exact ⟨_, _, _, rfl⟩

theorem hbmPieces_shape (fuel : Nat) : ∀ (s : State) (a len input who tag : Nat) (demoted : Bool) (ring : Option Nat),
    ∃ ar rg st po, hbmPieces fuel s a len input who tag demoted ring =
      { s with arbs := ar, regs := rg, stackSet := st, power := po } := by
  induction fuel with
  | zero => exact fun s _ _ _ _ _ _ _ => ⟨_, _, _, _, rfl⟩
  | succ k ih =>
    intro s a len input who tag demoted ring
    unfold hbmPieces
    simp only
    generalize inWindow s a = win
    split
    · exact ⟨_, _, _, _, rfl⟩
    · obtain ⟨rg, st, po, h⟩ := wakeIsland_shape s (stackOf s a)
      rw [h]
      obtain ⟨ar', rg', st', po', h'⟩ := ih (arbEnqueue ({ s with regs := rg, stackSet := st, power := po } : State) (hbmArb s a) _)
        (a + min len (if win = true then 32 - a % 32 else 256 - a % 256))
        (len - min len (if win = true then 32 - a % 32 else 256 - a % 256)) input who tag demoted ring
      exact ⟨ar', rg', st', po', h'⟩

/-- The traffic of an access waits at arbiters, and wakes the stacks that it goes to. -/
theorem hbmTraffic_shape (s : State) (die a len bridgeIn hbmIn who : Nat) (write : Bool) (ring : Option Nat) :
    ∃ ar rg st po, hbmTraffic s die a len bridgeIn hbmIn who write ring =
      { s with arbs := ar, regs := rg, stackSet := st, power := po } := by
  unfold hbmTraffic
  simp only
  have one : ∃ ar, (if write then crossDies s die (a / 2 ^ 39) len bridgeIn who 0 ring
      else crossDies s (a / 2 ^ 39) die len bridgeIn who 0 ring) = { s with arbs := ar } := by
    split <;> exact crossDies_shape ..
  obtain ⟨ar, h⟩ := one
  rw [h]
  obtain ⟨ar', rg, st, po, h'⟩ := hbmPieces_shape (len / 32 + 2) ({ s with arbs := ar } : State) a len hbmIn who 0 false ring
  exact ⟨ar', rg, st, po, h'⟩

/-! ## Messages -/

/-- A message's flits wait at the egress of its route, if there is one. -/
theorem queueBytes_shape (s : State) (dst vc input tag : Nat) (ring : Option Nat) (bs : List Byte) :
    ∃ ar, queueBytes s dst vc input tag ring bs = { s with arbs := ar } := by
  unfold queueBytes
  split <;> exact ⟨_, rfl⟩

/-- A message changes the pack's records and one arbiter's queue. -/
theorem sendMsgAt_shape (s : State) (kind : PackKind) (dst : Nat) (args : List Nat) (input tag : Nat) (ring : Option Nat) :
    ∃ pk ar, sendMsgAt s kind dst args input tag ring = { s with pack := pk, arbs := ar } := by
  have q : ∀ (pk : Pack) (bs : List Byte), ∃ pk' ar, queueBytes { s with pack := pk } dst (kindVc kind) input tag ring bs =
      { s with pack := pk', arbs := ar } := by
    intro pk bs
    obtain ⟨ar, h⟩ := queueBytes_shape { s with pack := pk } dst (kindVc kind) input tag ring bs
    exact ⟨pk, ar, h⟩
  unfold sendMsgAt
  simp only
  split <;> exact q _ _

theorem sendMsg_shape (s : State) (kind : PackKind) (dst : Nat) (args : List Nat) :
    ∃ pk ar, sendMsg s kind dst args = { s with pack := pk, arbs := ar } := sendMsgAt_shape ..

/-- The message sent is the last of those sent. -/
theorem sendMsg_last (s : State) (kind : PackKind) (dst : Nat) (args : List Nat) :
    ((sendMsg s kind dst args).pack.out.getLast?.map fun m => (m.kind, m.dst, m.args)) = some (kind, dst, args) := by
  have q : ∀ (t : State) (i : Nat) (bs : List Byte), (queueBytes t dst (kindVc kind) i 0 none bs).pack = t.pack := by
    intro t i bs
    obtain ⟨ar, h⟩ := queueBytes_shape t dst (kindVc kind) i 0 none bs
    rw [h]
  unfold sendMsg sendMsgAt
  simp only
  split <;> simp [q]

/-! ## Ring entries -/

/-- A read of the next slot is traffic and a read of memory. -/
theorem fetchSlot_shape (s : State) (r : Nat) : ∃ ar st rg le po pc mo ou, fetchSlot s r =
    { s with arbs := ar, stackSet := st, regs := rg, ledger := le, power := po, pci := pc, monitor := mo, out := ou } := by
  unfold fetchSlot
  simp only
  split
  · exact ⟨_, _, _, _, _, _, _, _, rfl⟩
  · split
    · exact ⟨_, _, _, _, _, _, _, _, rfl⟩
    · obtain ⟨ar, rg, st, po, h⟩ := hbmTraffic_shape s (ringDie r (s.ring r)) ((s.ring r).slotAddr (s.ring r).issue) 64 5 5 1023
        false (some r)
      rw [h]
      obtain ⟨st', rg', le, po', pc, mo, ou, h'⟩ := hbmLoad_shape ({ s with arbs := ar, regs := rg, stackSet := st, power := po } : State)
        ((s.ring r).slotAddr (s.ring r).issue) 64 Who.none (some r)
      exact ⟨ar, st', rg', le, po', pc, mo, ou, h'⟩

theorem takeRung_shape (s : State) (r : Nat) : ∃ pc, takeRung s r = { s with pci := pc } := by
  unfold takeRung
  simp only
  split <;> exact ⟨_, rfl⟩

theorem syncBeat_shape (s : State) (r dir op : Nat) : ∃ ar, syncBeat s r dir op = { s with arbs := ar } := by
  unfold syncBeat
  split
  · exact bridgePacket_shape ..
  · exact ⟨_, rfl⟩

/-- What an entry's start does before its ring changes: traffic, a read of its slot, and the doorbell's marks. -/
theorem beforeEntry_shape (s : State) (r op : Nat) : ∃ ar st rg le po pc mo ou,
    syncBeat (takeRung (fetchSlot s r) r) r 0 op =
      { s with arbs := ar, stackSet := st, regs := rg, ledger := le, power := po, pci := pc, monitor := mo, out := ou } := by
  obtain ⟨ar, st, rg, le, po, pc, mo, ou, h⟩ := fetchSlot_shape s r
  obtain ⟨pc', h'⟩ := takeRung_shape (fetchSlot s r) r
  obtain ⟨ar', h2⟩ := syncBeat_shape (takeRung (fetchSlot s r) r) r 0 op
  rw [h2, h', h]
  exact ⟨ar', st, rg, le, po, pc', mo, ou, rfl⟩

/-- The start of an entry changes its ring, traffic, and what a read of its slot changes. -/
theorem beginEntry_shape (s : State) (r : Nat) (b : List Byte) (w : EntryWait) :
    ∃ ri ar st rg le po pc mo ou, beginEntry s r b w =
      { s with rings := ri, arbs := ar, stackSet := st, regs := rg, ledger := le, power := po, pci := pc, monitor := mo, out := ou } := by
  unfold beginEntry
  obtain ⟨ar, st, rg, le, po, pc, mo, ou, h⟩ := beforeEntry_shape s r (entryOp b)
  simp only
  rw [h]
  generalize hu : State.setRing _ r _ = u
  obtain ⟨fl, h'⟩ := trace_shape u (blockId (servePage s r b)) 1 0 (entryOp b) _
  rw [h', ← hu]
  exact ⟨_, ar, st, rg, le, po, pc, _, ou, rfl⟩

/-- The ring of an entry that starts: ISSUE has moved past it, and it is the last one started. -/
theorem beginEntry_ring (s : State) (r : Nat) (b : List Byte) (w : EntryWait) :
    ((beginEntry s r b w).ring r).issue = add32 (s.ring r).issue 1 ∧
      ∃ filt us grant, ((beginEntry s r b w).ring r).fly = (s.ring r).fly ++ [⟨(s.ring r).issue, b, w, none, filt, us, grant⟩] := by
  have q : ∀ (t : State) (a c d e : Nat) (wh : Who), (trace t a c d e wh).ring r = t.ring r := by
    intro t a c d e wh
    obtain ⟨fl, h⟩ := trace_shape t a c d e wh
    rw [h]
    rfl
  have hr : (syncBeat (takeRung (fetchSlot s r) r) r 0 (entryOp b)).ring r = s.ring r := by
    obtain ⟨ar, st, rg, le, po, pc, mo, ou, h⟩ := beforeEntry_shape s r (entryOp b)
    rw [h]
    rfl
  unfold beginEntry
  simp [q, hr]

/-- Every other ring stands. -/
theorem beginEntry_ring_ne (s : State) (r : Nat) (b : List Byte) (w : EntryWait) {k : Nat} (hk : k ≠ r) :
    (beginEntry s r b w).ring k = s.ring k := by
  have q : ∀ (t : State) (a c d e : Nat) (wh : Who), (trace t a c d e wh).ring k = t.ring k := by
    intro t a c d e wh
    obtain ⟨fl, h⟩ := trace_shape t a c d e wh
    rw [h]
    rfl
  have hr : (syncBeat (takeRung (fetchSlot s r) r) r 0 (entryOp b)).ring k = s.ring k := by
    obtain ⟨ar, st, rg, le, po, pc, mo, ou, h⟩ := beforeEntry_shape s r (entryOp b)
    rw [h]
    rfl
  unfold beginEntry
  simp only
  rw [q, ← hr]
  simp [State.ring, State.setRing, mget_mset_ne _ _ _ _ hk]

/-- An entry's error bits change what an error changes. -/
theorem entryError_shape (s : State) (page status : Nat) (who : Who) (part : Nat) :
    ∃ rg pc mo ou, entryError s page status who part = { s with regs := rg, pci := pc, monitor := mo, out := ou } := by
  unfold entryError
  split
  · obtain ⟨rg, pc, mo, ou, h⟩ := raiseErr_shape s page status who part
    simp only [h]
    split
    · obtain ⟨rg', pc', mo', ou', h'⟩ :=
        raiseErr_shape ({ s with regs := rg, pci := pc, monitor := mo, out := ou } : State) syncPage status who part
      exact ⟨rg', pc', mo', ou', h'⟩
    · exact ⟨rg, pc, mo, ou, rfl⟩
  · exact ⟨_, _, _, _, rfl⟩

/-- A completion of an entry changes rings, and what an error changes. -/
theorem finishWith_shape (s : State) (r seq page : Nat) (c : Completion) :
    ∃ ri rg pc mo ou, finishWith s r seq page c = { s with rings := ri, regs := rg, pci := pc, monitor := mo, out := ou } := by
  unfold finishWith
  simp only
  split
  · exact ⟨_, _, _, _, _, rfl⟩
  · next f hf =>
    have one : ∀ t : State, (∃ ri rg, t = { s with rings := ri, regs := rg }) → ∀ (p : Prop) [Decidable p],
        ∃ ri rg pc mo ou, entryError (if p then t else filterCount t f.filt 0x130 1) page c.status (f.who r) (s.ring r).part =
          { s with rings := ri, regs := rg, pci := pc, monitor := mo, out := ou } := by
      rintro t ⟨ri, rg, rfl⟩ p _
      split
      · obtain ⟨rg', pc, mo, ou, h⟩ := entryError_shape ({ s with rings := ri, regs := rg } : State) page c.status (f.who r) (s.ring r).part
        exact ⟨ri, rg', pc, mo, ou, h⟩
      · obtain ⟨rg1, h1⟩ := filterCount_shape ({ s with rings := ri, regs := rg } : State) f.filt 0x130 1
        rw [h1]
        obtain ⟨rg', pc, mo, ou, h⟩ := entryError_shape ({ s with rings := ri, regs := rg1 } : State) page c.status (f.who r) (s.ring r).part
        exact ⟨ri, rg', pc, mo, ou, h⟩
    apply one
    generalize hR : s.setRing r _ = u
    obtain ⟨rg1, h1⟩ := filterCount_shape (u.count 0 (pciPage + 0x60)
      (flag ((s.ring r).rsEn && decide ((s.ring r).slots ≤ sub32 seq (s.ring r).released)))) f.filt 0x128 1
    rw [h1, ← hR]
    exact ⟨_, _, rfl⟩

/-- A Loom command that completes is counted in a register. -/
theorem countLoomCommand_shape (s : State) (r : Nat) (b : List Byte) : ∃ rg, countLoomCommand s r b = { s with regs := rg } := by
  unfold countLoomCommand
  split
  · split <;> exact ⟨_, rfl⟩
  · exact ⟨_, rfl⟩

/-- What a completion does before its ring changes: traffic and a count. -/
theorem beforeFinish_shape (s : State) (r op : Nat) (b : List Byte) :
    ∃ ar rg, countLoomCommand (syncBeat s r 1 op) r b = { s with arbs := ar, regs := rg } := by
  obtain ⟨ar, h⟩ := syncBeat_shape s r 1 op
  obtain ⟨rg, h'⟩ := countLoomCommand_shape (syncBeat s r 1 op) r b
  rw [h', h]
  exact ⟨_, _, rfl⟩

theorem finishEntry_shape (s : State) (r seq status res0 res1 res2 : Nat) :
    ∃ ri ar rg pc mo ou, finishEntry s r seq status res0 res1 res2 =
      { s with rings := ri, arbs := ar, regs := rg, pci := pc, monitor := mo, out := ou } := by
  unfold finishEntry
  split
  · exact ⟨_, _, _, _, _, _, rfl⟩
  · next f _ =>
    simp only
    obtain ⟨ar, rg, h⟩ := beforeFinish_shape s r (entryOp f.bytes) f.bytes
    rw [h]
    obtain ⟨ri, rg', pc, mo, ou, h'⟩ := finishWith_shape ({ s with arbs := ar, regs := rg } : State) r seq (servePage s r f.bytes)
      (completionFor (s.ring r) f.bytes status res0 res1 res2)
    exact ⟨ri, ar, rg', pc, mo, ou, h'⟩

/-- A refusal or an instant completion changes its ring, traffic, and what a read of its slot changes. -/
theorem actEntry_shape (s : State) (r : Nat) (b : List Byte) (status res0 res1 res2 : Nat) :
    ∃ ri ar st rg le po pc mo ou, actEntry s r b status res0 res1 res2 =
      { s with rings := ri, arbs := ar, stackSet := st, regs := rg, ledger := le, power := po, pci := pc, monitor := mo, out := ou } := by
  unfold actEntry
  obtain ⟨ri0, ar0, st, rg0, le, po, pc0, mo0, ou0, h0⟩ := beginEntry_shape s r b .running
  rw [h0]
  obtain ⟨ri, ar, rg, pc, mo, ou, h⟩ := finishEntry_shape ({ s with rings := ri0, arbs := ar0, stackSet := st, regs := rg0, ledger := le, power := po, pci := pc0, monitor := mo0, out := ou0 } : State) r (s.ring r).issue status
    res0 res1 res2
  exact ⟨ri, ar, st, rg, le, po, pc, mo, ou, h⟩

/-- A completion changes the rings map only at its ring. -/
theorem finishWith_ring_ne (s : State) (r seq page : Nat) (c : Completion) {k : Nat} (hk : k ≠ r) :
    (finishWith s r seq page c).ring k = s.ring k := by
  unfold finishWith
  simp only
  split
  · rfl
  · next f hf =>
    have q1 : ∀ (t : State) (fl : Bool) (o n : Nat), (filterCount t fl o n).ring k = t.ring k := by
      intro t fl o n
      obtain ⟨rg, h⟩ := filterCount_shape t fl o n
      rw [h]
      rfl
    have q2 : ∀ (t : State) (p st : Nat) (wh : Who) (pt : Nat), (entryError t p st wh pt).ring k = t.ring k := by
      intro t p st wh pt
      obtain ⟨rg, pc, mo, ou, h⟩ := entryError_shape t p st wh pt
      rw [h]
      rfl
    rw [q2]
    have q3 : ∀ R : Ring, (s.setRing r R).ring k = s.ring k := by
      intro R
      simp [State.ring, State.setRing, mget_mset_ne _ _ _ _ hk]
    split
    · rw [q1]
      exact q3 _
    · rw [q1, q1]
      exact q3 _

theorem finishEntry_ring_ne (s : State) (r seq status res0 res1 res2 : Nat) {k : Nat} (hk : k ≠ r) :
    (finishEntry s r seq status res0 res1 res2).ring k = s.ring k := by
  unfold finishEntry
  split
  · rfl
  · next f _ =>
    simp only
    obtain ⟨ar, rg, h⟩ := beforeFinish_shape s r (entryOp f.bytes) f.bytes
    rw [h, finishWith_ring_ne _ r seq _ _ hk]
    rfl

theorem actEntry_ring_ne (s : State) (r : Nat) (b : List Byte) (status res0 res1 res2 : Nat) {k : Nat} (hk : k ≠ r) :
    (actEntry s r b status res0 res1 res2).ring k = s.ring k := by
  unfold actEntry
  rw [finishEntry_ring_ne _ _ _ _ _ _ _ hk, beginEntry_ring_ne _ _ _ _ hk]

/-- The ring of an open entry that completes. -/
theorem finishWith_fly (s : State) (r seq page : Nat) (c : Completion) (f : Flight) (hf : openFlight (s.ring r) seq = some f) :
    ((finishWith s r seq page c).ring r).fly = putDone seq c (s.ring r).fly := by
  unfold finishWith
  simp only [hf]
  have q1 : ∀ (t : State) (fl : Bool) (o n : Nat), (filterCount t fl o n).ring r = t.ring r := by
    intro t fl o n
    obtain ⟨rg, h⟩ := filterCount_shape t fl o n
    rw [h]
    rfl
  have q2 : ∀ (t : State) (p st : Nat) (wh : Who) (pt : Nat), (entryError t p st wh pt).ring r = t.ring r := by
    intro t p st wh pt
    obtain ⟨rg, pc, mo, ou, h⟩ := entryError_shape t p st wh pt
    rw [h]
    rfl
  rw [q2]
  split
  · rw [q1]
    simp
  · rw [q1, q1]
    simp

theorem finishEntry_fly (s : State) (r seq status res0 res1 res2 : Nat) (f : Flight) (hf : openFlight (s.ring r) seq = some f) :
    ((finishEntry s r seq status res0 res1 res2).ring r).fly =
      putDone seq (completionFor (s.ring r) f.bytes status res0 res1 res2) (s.ring r).fly := by
  unfold finishEntry
  simp only [hf]
  obtain ⟨ar, rg, h⟩ := beforeFinish_shape s r (entryOp f.bytes) f.bytes
  rw [h]
  exact finishWith_fly _ _ _ _ _ f hf

/-- A completion that does not find its entry open changes nothing. -/
theorem finishEntry_none (s : State) (r seq status res0 res1 res2 : Nat) (hf : openFlight (s.ring r) seq = none) :
    finishEntry s r seq status res0 res1 res2 = s := by
  unfold finishEntry
  simp [hf]

/-- A replaced wait changes the ring alone. -/
theorem setWait_shape (s : State) (r seq : Nat) (w : EntryWait) : ∃ ri, setWait s r seq w = { s with rings := ri } := ⟨_, rfl⟩

/-! ## The sync store -/

/-- A counter of the sync page changes registers alone. -/
theorem syncCount_shape (s : State) (off n : Nat) : ∃ rg, syncCount s off n = { s with regs := rg } := ⟨_, rfl⟩

/-- Messages for a list of members change the pack's records and arbiter queues. -/
theorem sendEach_shape {α : Type} (kind : PackKind) (dst : α → Nat) (args : α → List Nat) (xs : List α) : ∀ s : State,
    ∃ pk ar, xs.foldl (fun t x => sendMsg t kind (dst x) (args x)) s = { s with pack := pk, arbs := ar } := by
  induction xs with
  | nil => exact fun s => ⟨_, _, rfl⟩
  | cons x r ih =>
    intro s
    rw [List.foldl_cons]
    obtain ⟨pk0, ar0, h0⟩ := sendMsg_shape s kind (dst x) (args x)
    rw [h0]
    obtain ⟨pk, ar, h⟩ := ih ({ s with pack := pk0, arbs := ar0 } : State)
    exact ⟨pk, ar, h⟩

/-- Publishing an object sends messages alone. -/
theorem forwardObj_shape (s : State) (o : Nat) (was : Bool) : ∃ pk ar, forwardObj s o was = { s with pack := pk, arbs := ar } := by
  unfold forwardObj
  split
  · exact sendMsg_shape ..
  · exact ⟨_, _, rfl⟩

theorem publish_shape (s : State) (o : Nat) : ∃ pk ar, publish s o = { s with pack := pk, arbs := ar } := by
  unfold publish
  simp only
  obtain ⟨pk, ar, h⟩ := sendEach_shape .push (fun m : Nat => m)
    (fun _ => [o, (s.obj o).value, (s.obj o).gen, flag (s.obj o).broken]) (s.obj o).subs s
  rw [h]
  obtain ⟨pk', ar', h'⟩ := forwardObj_shape ({ s with pack := pk, arbs := ar } : State) o false
  exact ⟨pk', ar', h'⟩

/-- A released entry completes, and is counted where its status is OK. -/
theorem release_shape (s : State) (w : Waiter) (status res0 res1 : Nat) :
    ∃ ri ar rg pc mo ou, release s w status res0 res1 =
      { s with rings := ri, arbs := ar, regs := rg, pci := pc, monitor := mo, out := ou } := by
  unfold release
  simp only
  obtain ⟨ri, ar, rg, pc, mo, ou, h⟩ := finishEntry_shape s w.ring w.seq status res0 res1 0
  rw [h]
  split <;> exact ⟨_, _, _, _, _, _, rfl⟩

theorem release_ring_ne (s : State) (w : Waiter) (status res0 res1 : Nat) {k : Nat} (hk : k ≠ w.ring) :
    (release s w status res0 res1).ring k = s.ring k := by
  unfold release
  simp only
  split <;> exact finishEntry_ring_ne s w.ring w.seq status res0 res1 0 hk

/-- Released entries, one after the other. -/
theorem releaseEach_shape (status : Nat) (a b : Waiter → Nat) (ws : List Waiter) : ∀ s : State,
    ∃ ri ar rg pc mo ou, ws.foldl (fun t w => release t w status (a w) (b w)) s =
      { s with rings := ri, arbs := ar, regs := rg, pci := pc, monitor := mo, out := ou } := by
  induction ws with
  | nil => exact fun s => ⟨_, _, _, _, _, _, rfl⟩
  | cons w r ih =>
    intro s
    rw [List.foldl_cons]
    obtain ⟨ri0, ar0, rg0, pc0, mo0, ou0, h0⟩ := release_shape s w status (a w) (b w)
    rw [h0]
    obtain ⟨ri, ar, rg, pc, mo, ou, h⟩ := ih ({ s with rings := ri0, arbs := ar0, regs := rg0, pci := pc0, monitor := mo0, out := ou0 } : State)
    exact ⟨ri, ar, rg, pc, mo, ou, h⟩

theorem releaseEach_ring_ne (status : Nat) (a b : Waiter → Nat) {k : Nat} (ws : List Waiter) :
    (∀ w ∈ ws, k ≠ w.ring) → ∀ s : State,
      (ws.foldl (fun t w => release t w status (a w) (b w)) s).ring k = s.ring k := by
  induction ws with
  | nil => exact fun _ s => rfl
  | cons w r ih =>
    intro h s
    rw [List.foldl_cons, ih (fun x hx => h x (List.mem_cons_of_mem w hx)),
      release_ring_ne s w status (a w) (b w) (h w List.mem_cons_self)]

/-- The record of an operation is activity and a trace record. -/
theorem syncOpRecord_shape (s : State) (o data : Nat) (who : Who) :
    ∃ le po mo, syncOpRecord s o data who = { s with ledger := le, power := po, monitor := mo } := by
  unfold syncOpRecord
  simp only
  obtain ⟨a, b, c, h⟩ := activity_shape s 111 0 1 (if who.ring = 0xFFFF then none else some who.ring)
  rw [h]
  obtain ⟨fl, h'⟩ := trace_shape ({ s with ledger := { s.ledger with est := a, est4 := b }, power := { s.power with counts := c } } : State)
    (blockId syncPage) 3 0 (o + data * 2 ^ 16) who
  exact ⟨_, _, _, h'⟩

/-- A SIGNAL at the store changes its object, rings, messages and traffic, the ledger, and what an error changes. -/
theorem signalObj_shape (s : State) (o n : Nat) (who : Who) :
    ∃ ri rg pc mo ou le po pk ar, signalObj s o n who =
      { s with
          sync := mset s.sync o { s.obj o with
            value := add32 (s.obj o).value n
            waiters := (s.obj o).waiters.filter fun w => !waitSatisfied (add32 (s.obj o).value n) w.target } SyncObj.zero
          rings := ri, regs := rg, pci := pc, monitor := mo, out := ou, ledger := le, power := po, pack := pk, arbs := ar } := by
  unfold signalObj
  simp only
  generalize hX : ({ s.obj o with
            value := add32 (s.obj o).value n
            waiters := (s.obj o).waiters.filter fun w => !waitSatisfied (add32 (s.obj o).value n) w.target } : SyncObj) = x
  obtain ⟨rg1, h1⟩ := syncCount_shape (s.setObj o x) 0x40 1
  rw [h1]
  obtain ⟨le, po, mo1, h2⟩ := syncOpRecord_shape ({ s.setObj o x with regs := rg1 } : State) o (add32 (s.obj o).value n) who
  rw [h2]
  obtain ⟨ri, ar0, rg, pc, mo, ou, h3⟩ := releaseEach_shape 0 (fun _ => add32 (s.obj o).value n) (fun _ => 0)
    ((s.obj o).waiters.filter fun w => waitSatisfied (add32 (s.obj o).value n) w.target)
    ({ s.setObj o x with regs := rg1, ledger := le, power := po, monitor := mo1 } : State)
  rw [h3]
  obtain ⟨pk, ar, h4⟩ := publish_shape
    ({ s.setObj o x with regs := rg, ledger := le, power := po, monitor := mo, rings := ri, pci := pc, out := ou, arbs := ar0 } : State) o
  exact ⟨ri, rg, pc, mo, ou, le, po, pk, ar, h4⟩

end Sys2Proof.Machine
end

