-- ==== Sys2Proof/Laws/PerInstr.lean ====
section
/-! SUPPORT. Sys2Proof/Laws/PerInstr.lean: what holds of every command as syntax, one lemma for each constructor: a command that
a requester gives names one of the 50 requesters where it is well formed. -/

set_option Elab.async false

namespace Sys2Proof.Laws.RequesterExists

open Sys2Proof

/-- The requester that a command names, where a requester gives it: functions are 0 to 15, the management core is 16, the
control cores are 17 to 48 and the monitor is 49. -/
def requesterOf : Instr → Option Nat
  | .loomGemm _ => none
  | .loomFence _ => none
  | .loomSetPanels _ => none
  | .drainComplete _ => none
  | .loomCommandDone _ => none
  | .coreFire _ _ _ _ => none
  | .warpLoad _ _ _ _ => none
  | .fellSumEntry _ _ _ => none
  | .fellRowTake _ _ => none
  | .gaugeTick _ _ _ _ => none
  | .faultDrainDone _ => none
  | .pnlResume rq _ => some rq
  | .wedgeDetect _ => none
  | .drainInterval _ => none
  | .wait _ => none
  | .signal _ => none
  | .arrive _ => none
  | .reqOpen _ => none
  | .reqClose _ => none
  | .pwrPhase _ => none
  | .pwrRestore _ => none
  | .flush _ => none
  | .rtvCopy _ => none
  | .rtvFill _ => none
  | .rtvKick _ => none
  | .dataRingClaim _ _ => none
  | .requestIssue _ _ => none
  | .requestLand _ _ _ => none
  | .rtvChArm rq _ _ => some rq
  | .rtvChCancel rq _ _ => some rq
  | .trickleWrite _ _ _ => none
  | .trickleWordWrite _ _ => none
  | .trickleTimeout _ _ => none
  | .trickleFlush rq _ _ => some rq
  | .trickleDisable rq _ _ => some rq
  | .trickleGetWrite rq _ _ => some rq
  | .ringConfigWrite rq _ _ _ => some rq
  | .ringTailWrite rq _ _ => some rq
  | .ringStart rq _ _ => some rq
  | .ringStop rq _ _ => some rq
  | .ringCancel rq _ _ => some rq
  | .cancelComplete _ => none
  | .completionPost _ _ => none
  | .syncObjOpSignal rq _ => some rq
  | .syncObjOpArrive rq _ => some rq
  | .syncObjWrite rq _ _ => some rq
  | .syncBreak rq => some rq
  | .syncBrokenClear rq => some rq
  | .mirrorSubscribe _ => none
  | .mirrorPush _ _ _ _ => none
  | .packSyncOp _ _ _ _ _ _ => none
  | .standbySyncForward _ _ _ _ _ _ _ _ _ => none
  | .queueWatchdog _ => none
  | .arbGrant _ _ => none
  | .arbUnitDone _ => none
  | .arbFreeze rq _ => some rq
  | .arbUnfreeze rq _ => some rq
  | .arbWaitClear rq _ => some rq
  | .admissionRequest rq _ => some rq
  | .admissionDecide => none
  | .admissionRelease rq _ => some rq
  | .estimateWindow _ => none
  | .governorLoop => none
  | .profile850 rq _ => some rq
  | .junctionSensorRead _ _ => none
  | .thermalHoldEnd => none
  | .regulatorFault _ => none
  | .regulatorShutdown _ => none
  | .clusterGate _ => none
  | .clusterStartRequest _ => none
  | .rampWave _ => none
  | .hbmSelfRefreshEnter _ => none
  | .islandClockStop _ => none
  | .islandWake _ => none
  | .monitorSample _ _ _ _ _ _ => none
  | .ledgerWindowClose _ => none
  | .closeNow rq _ => some rq
  | .blockSigned => none
  | .ledgerRecordWrite => none
  | .ldgOutGetWrite rq _ => some rq
  | .hbmAccess _ _ _ _ _ _ _ => none
  | .patrolRead _ _ => none
  | .hbmRefresh _ _ => none
  | .hbmTempRead _ _ => none
  | .hbmWinCfgWrite rq _ _ => some rq
  | .hbmTempPeakClear rq _ => some rq
  | .bridgeBeat _ _ _ _ => none
  | .heartbeatCheck _ => none
  | .scheduleDigestCheck _ _ _ _ => none
  | .coreWatchdogExpiry _ => none
  | .portUp _ _ _ => none
  | .portTrainRetry _ => none
  | .flitReceive _ _ _ _ _ _ _ _ _ _ _ => none
  | .nak _ _ => none
  | .idleFlitTimer _ => none
  | .livenessTimeout _ => none
  | .fecLockLost _ => none
  | .replayFullTimeout _ => none
  | .plkPortDownWrite rq _ => some rq
  | .portDownMsg _ _ _ _ => none
  | .heartbeatTimer => none
  | .heartbeat _ _ _ => none
  | .memberLost _ => none
  | .lost _ _ _ _ => none
  | .takeover _ _ _ => none
  | .takeoverAccept _ _ _ => none
  | .takeoverRefuse _ _ _ => none
  | .takeoverTimeout => none
  | .managerStepDown => none
  | .joinRetry => none
  | .join _ _ _ _ _ _ _ _ _ => none
  | .joinReply _ _ _ _ _ _ _ _ => none
  | .routeTable _ _ _ _ _ _ => none
  | .mseqAck _ _ _ _ _ => none
  | .lossScaleDecision _ _ _ _ _ _ => none
  | .peerRequest _ _ _ _ _ _ => none
  | .peerResponse _ _ _ _ => none
  | .plkStopReq rq => some rq
  | .stop _ _ _ _ => none
  | .stopMarker _ _ _ _ => none
  | .quiescent => none
  | .cut _ _ _ _ => none
  | .stopLimitExpiry => none
  | .plkStopResume rq => some rq
  | .resume _ _ _ _ _ => none
  | .swatchCapture rq => some rq
  | .swatchIntervalTimer => none
  | .swatch _ _ _ _ _ _ => none
  | .swatchCopyDone _ => none
  | .swatchDone _ _ _ _ _ => none
  | .swatchCapLimit => none
  | .restore _ _ _ _ _ _ _ _ => none
  | .restored _ _ _ _ _ => none
  | .restoreHost rq => some rq
  | .fill _ _ _ _ _ _ _ _ => none
  | .swtRateReset rq => some rq
  | .swtDurableWrite rq _ => some rq
  | .dbTail _ _ _ _ => none
  | .dbRelease _ _ _ _ => none
  | .apertureWrite _ _ _ => none
  | .apertureRead _ _ _ _ => none
  | .rsCfgWrite rq _ => some rq
  | .functionLevelReset _ => none
  | .flrDrainDone _ => none
  | .d3hotEntry _ => none
  | .d0Entry _ => none
  | .getCerts _ => none
  | .getEvidence _ => none
  | .setUnlock _ => none
  | .doeAbort => none
  | .powerOn => none
  | .powerDown => none
  | .perstAssert => none
  | .perstDeassert => none
  | .hotReset => none
  | .linkDown => none
  | .deviceReset rq => some rq
  | .mgmtWatchdogExpiry => none
  | .managerReset _ _ _ => none
  | .resetEnd _ _ _ => none
  | .releaseWaveDone _ => none
  | .startStep _ _ _ _ _ _ => none
  | .startStepTimeout => none
  | .loadDone rq => some rq
  | .clearSteps rq => some rq
  | .blockReset rq _ _ => some rq
  | .blockResetDone => none
  | .svnCommit rq => some rq
  | .secLock rq => some rq
  | .monHelp => none
  | .monStatus => none
  | .monPeek _ _ => none
  | .monPeek64 _ => none
  | .monPoke _ _ => none
  | .monDump _ => none
  | .monCounters _ => none
  | .monJournal _ => none
  | .monLedger => none
  | .monReset => none
  | .monBaud _ => none
  | .monLoad _ _ => none
  | .monRxOverrun => none
  | .traceRecord _ _ _ => none
  | .traceWrite => none
  | .monTrcTrigger rq _ => some rq
  | .monTrcEnable rq _ => some rq
  | .monFiltClear rq _ => some rq
  | .smbusBoardCap _ _ _ => none
  | .smbusPkgPower _ => none
  | .smbusTempMax _ => none
  | .smbusThrottle _ => none
  | .smbusStartState _ => none
  | .wrtValidWrite rq _ _ => some rq
  | .wrtUnbind rq _ _ => some rq
  | .errInject rq _ _ => some rq
  | .registerWrite rq _ _ _ => some rq
  | .reservedOpcode _ => none
  | .slotReadFailure _ => none
  | .regulatorFaultClear _ => none
  | .scrubLate _ => none
  | .doeDiscovery _ => none
  | .configurationRequest _ _ _ => none
  | .unexpectedCompletion _ => none
  | .unknownCommand => none

/-- A well-formed command that a requester gives names one that the package has. -/
def Statement (i : Instr) : Prop := i.wf = true → ∀ q, requesterOf i = some q → q < 50

theorem loomGemm (panel : Nat) : Statement (.loomGemm panel) := fun _ _ e => nomatch e

theorem loomFence (panel : Nat) : Statement (.loomFence panel) := fun _ _ e => nomatch e

theorem loomSetPanels (panel : Nat) : Statement (.loomSetPanels panel) := fun _ _ e => nomatch e

theorem drainComplete (panel : Nat) : Statement (.drainComplete panel) := fun _ _ e => nomatch e

theorem loomCommandDone (panel : Nat) : Statement (.loomCommandDone panel) := fun _ _ e => nomatch e

theorem coreFire (loom row col fault : Nat) : Statement (.coreFire loom row col fault) := fun _ _ e => nomatch e

theorem warpLoad (loom pair col fault : Nat) : Statement (.warpLoad loom pair col fault) := fun _ _ e => nomatch e

theorem fellSumEntry (loom col fault : Nat) : Statement (.fellSumEntry loom col fault) := fun _ _ e => nomatch e

theorem fellRowTake (panel fault : Nat) : Statement (.fellRowTake panel fault) := fun _ _ e => nomatch e

theorem gaugeTick (loom starved : Nat) (own others : List (Nat × Nat)) : Statement (.gaugeTick loom starved own others) := fun _ _ e => nomatch e

theorem faultDrainDone (panel : Nat) : Statement (.faultDrainDone panel) := fun _ _ e => nomatch e

theorem pnlResume (rq panel : Nat) : Statement (.pnlResume rq panel) := fun h _ e => Option.some.inj e ▸ (of_decide_eq_true h).1

theorem wedgeDetect (panel : Nat) : Statement (.wedgeDetect panel) := fun _ _ e => nomatch e

theorem drainInterval (loom : Nat) : Statement (.drainInterval loom) := fun _ _ e => nomatch e

theorem wait (ring : Nat) : Statement (.wait ring) := fun _ _ e => nomatch e

theorem signal (ring : Nat) : Statement (.signal ring) := fun _ _ e => nomatch e

theorem arrive (ring : Nat) : Statement (.arrive ring) := fun _ _ e => nomatch e

theorem reqOpen (ring : Nat) : Statement (.reqOpen ring) := fun _ _ e => nomatch e

theorem reqClose (ring : Nat) : Statement (.reqClose ring) := fun _ _ e => nomatch e

theorem pwrPhase (ring : Nat) : Statement (.pwrPhase ring) := fun _ _ e => nomatch e

theorem pwrRestore (ring : Nat) : Statement (.pwrRestore ring) := fun _ _ e => nomatch e

theorem flush (ring : Nat) : Statement (.flush ring) := fun _ _ e => nomatch e

theorem rtvCopy (ring : Nat) : Statement (.rtvCopy ring) := fun _ _ e => nomatch e

theorem rtvFill (ring : Nat) : Statement (.rtvFill ring) := fun _ _ e => nomatch e

theorem rtvKick (ring : Nat) : Statement (.rtvKick ring) := fun _ _ e => nomatch e

theorem dataRingClaim (rtv desc : Nat) : Statement (.dataRingClaim rtv desc) := fun _ _ e => nomatch e

theorem requestIssue (rtv desc : Nat) : Statement (.requestIssue rtv desc) := fun _ _ e => nomatch e

theorem requestLand (rtv req : Nat) (data : List Byte) : Statement (.requestLand rtv req data) := fun _ _ e => nomatch e

theorem rtvChArm (rq rtv acct : Nat) : Statement (.rtvChArm rq rtv acct) := fun h _ e => Option.some.inj e ▸ (of_decide_eq_true h).1

theorem rtvChCancel (rq rtv acct : Nat) : Statement (.rtvChCancel rq rtv acct) := fun h _ e => Option.some.inj e ▸ (of_decide_eq_true h).1

theorem trickleWrite (loom off : Nat) (data : List Byte) : Statement (.trickleWrite loom off data) := fun _ _ e => nomatch e

theorem trickleWordWrite (rtv fifo : Nat) : Statement (.trickleWordWrite rtv fifo) := fun _ _ e => nomatch e

theorem trickleTimeout (rtv fifo : Nat) : Statement (.trickleTimeout rtv fifo) := fun _ _ e => nomatch e

theorem trickleFlush (rq rtv us : Nat) : Statement (.trickleFlush rq rtv us) := fun h _ e => Option.some.inj e ▸ (of_decide_eq_true h).1

theorem trickleDisable (rq rtv v : Nat) : Statement (.trickleDisable rq rtv v) := fun h _ e => Option.some.inj e ▸ (of_decide_eq_true h).1

theorem trickleGetWrite (rq rtv v : Nat) : Statement (.trickleGetWrite rq rtv v) := fun h _ e => Option.some.inj e ▸ (of_decide_eq_true h).1

theorem ringConfigWrite (rq die off v : Nat) : Statement (.ringConfigWrite rq die off v) := fun h _ e => Option.some.inj e ▸ (of_decide_eq_true h).1

theorem ringTailWrite (rq die v : Nat) : Statement (.ringTailWrite rq die v) := fun h _ e => Option.some.inj e ▸ (of_decide_eq_true h).1

theorem ringStart (rq die ovr : Nat) : Statement (.ringStart rq die ovr) := fun h _ e => Option.some.inj e ▸ (of_decide_eq_true h).1

theorem ringStop (rq die ovr : Nat) : Statement (.ringStop rq die ovr) := fun h _ e => Option.some.inj e ▸ (of_decide_eq_true h).1

theorem ringCancel (rq die ovr : Nat) : Statement (.ringCancel rq die ovr) := fun h _ e => Option.some.inj e ▸ (of_decide_eq_true h).1

theorem cancelComplete (ring : Nat) : Statement (.cancelComplete ring) := fun _ _ e => nomatch e

theorem completionPost (ring : Nat) (full : Bool) : Statement (.completionPost ring full) := fun _ _ e => nomatch e

theorem syncObjOpSignal (rq count : Nat) : Statement (.syncObjOpSignal rq count) := fun h _ e => Option.some.inj e ▸ of_decide_eq_true h

theorem syncObjOpArrive (rq gen : Nat) : Statement (.syncObjOpArrive rq gen) := fun h _ e => Option.some.inj e ▸ of_decide_eq_true h

theorem syncObjWrite (rq off v : Nat) : Statement (.syncObjWrite rq off v) := fun h _ e => Option.some.inj e ▸ (of_decide_eq_true h).1

theorem syncBreak (rq : Nat) : Statement (.syncBreak rq) := fun h _ e => Option.some.inj e ▸ of_decide_eq_true h

theorem syncBrokenClear (rq : Nat) : Statement (.syncBrokenClear rq) := fun h _ e => Option.some.inj e ▸ of_decide_eq_true h

theorem mirrorSubscribe (ring : Nat) : Statement (.mirrorSubscribe ring) := fun _ _ e => nomatch e

theorem mirrorPush (obj : SyncMsg) (value gen : Nat) (broken : Bool) : Statement (.mirrorPush obj value gen broken) := fun _ _ e => nomatch e

theorem packSyncOp (src mseq op obj arg ring : Nat) : Statement (.packSyncOp src mseq op obj arg ring) := fun _ _ e => nomatch e

theorem standbySyncForward (obj : SyncMsg) (kind part count value gen arrived early : Nat) (broken : ObjFlags) : Statement (.standbySyncForward obj kind part count value gen arrived early broken) := fun _ _ e => nomatch e

theorem queueWatchdog (ring : Nat) : Statement (.queueWatchdog ring) := fun _ _ e => nomatch e

theorem arbGrant (arb ns : Nat) : Statement (.arbGrant arb ns) := fun _ _ e => nomatch e

theorem arbUnitDone (arb : Nat) : Statement (.arbUnitDone arb) := fun _ _ e => nomatch e

theorem arbFreeze (rq page : Nat) : Statement (.arbFreeze rq page) := fun h _ e =>
  Option.some.inj e ▸ of_decide_eq_true (Bool.and_eq_true_iff.mp h).1

theorem arbUnfreeze (rq page : Nat) : Statement (.arbUnfreeze rq page) := fun h _ e =>
  Option.some.inj e ▸ of_decide_eq_true (Bool.and_eq_true_iff.mp h).1

theorem arbWaitClear (rq page : Nat) : Statement (.arbWaitClear rq page) := fun h _ e =>
  Option.some.inj e ▸ of_decide_eq_true (Bool.and_eq_true_iff.mp h).1

theorem admissionRequest (rq die : Nat) : Statement (.admissionRequest rq die) := fun h _ e => Option.some.inj e ▸ (of_decide_eq_true h).1

theorem admissionDecide : Statement (.admissionDecide) := fun _ _ e => nomatch e

theorem admissionRelease (rq die : Nat) : Statement (.admissionRelease rq die) := fun h _ e => Option.some.inj e ▸ (of_decide_eq_true h).1

theorem estimateWindow (others : List (Nat × Nat × Nat)) : Statement (.estimateWindow others) := fun _ _ e => nomatch e

theorem governorLoop : Statement (.governorLoop) := fun _ _ e => nomatch e

theorem profile850 (rq cap : Nat) : Statement (.profile850 rq cap) := fun h _ e => Option.some.inj e ▸ of_decide_eq_true h

theorem junctionSensorRead (quad : Nat) (readings : List Nat) : Statement (.junctionSensorRead quad readings) := fun _ _ e => nomatch e

theorem thermalHoldEnd : Statement (.thermalHoldEnd) := fun _ _ e => nomatch e

theorem regulatorFault (quad : Nat) : Statement (.regulatorFault quad) := fun _ _ e => nomatch e

theorem regulatorShutdown (quad : Nat) : Statement (.regulatorShutdown quad) := fun _ _ e => nomatch e

theorem clusterGate (cluster : Nat) : Statement (.clusterGate cluster) := fun _ _ e => nomatch e

theorem clusterStartRequest (cluster : Nat) : Statement (.clusterStartRequest cluster) := fun _ _ e => nomatch e

theorem rampWave (quad : Nat) : Statement (.rampWave quad) := fun _ _ e => nomatch e

theorem hbmSelfRefreshEnter (die : Nat) : Statement (.hbmSelfRefreshEnter die) := fun _ _ e => nomatch e

theorem islandClockStop (island : Nat) : Statement (.islandClockStop island) := fun _ _ e => nomatch e

theorem islandWake (island : Nat) : Statement (.islandWake island) := fun _ _ e => nomatch e

theorem monitorSample (uw : List Nat) (missing faults : Nat) (amps : List Nat) (droop : Nat) (full : Bool) : Statement (.monitorSample uw missing faults amps droop full) := fun _ _ e => nomatch e

theorem ledgerWindowClose (pout : List (Option Nat)) : Statement (.ledgerWindowClose pout) := fun _ _ e => nomatch e

theorem closeNow (rq v : Nat) : Statement (.closeNow rq v) := fun h _ e => Option.some.inj e ▸ of_decide_eq_true h

theorem blockSigned : Statement (.blockSigned) := fun _ _ e => nomatch e

theorem ledgerRecordWrite : Statement (.ledgerRecordWrite) := fun _ _ e => nomatch e

theorem ldgOutGetWrite (rq v : Nat) : Statement (.ldgOutGetWrite rq v) := fun h _ e => Option.some.inj e ▸ of_decide_eq_true h

theorem hbmAccess (addr write retries kind corrected agent who : Nat) : Statement (.hbmAccess addr write retries kind corrected agent who) := fun _ _ e => nomatch e

theorem patrolRead (addr result : Nat) : Statement (.patrolRead addr result) := fun _ _ e => nomatch e

theorem hbmRefresh (stack : Nat) (bank : Nat × Nat) : Statement (.hbmRefresh stack bank) := fun _ _ e => nomatch e

theorem hbmTempRead (stack : Nat) (reading : Option Nat) : Statement (.hbmTempRead stack reading) := fun _ _ e => nomatch e

theorem hbmWinCfgWrite (rq die v : Nat) : Statement (.hbmWinCfgWrite rq die v) := fun h _ e => Option.some.inj e ▸ (of_decide_eq_true h).1

theorem hbmTempPeakClear (rq stack : Nat) : Statement (.hbmTempPeakClear rq stack) := fun h _ e => Option.some.inj e ▸ (of_decide_eq_true h).1

theorem bridgeBeat (die dir group : Nat) (bad : Bool) : Statement (.bridgeBeat die dir group bad) := fun _ _ e => nomatch e

theorem heartbeatCheck (alive : Nat) : Statement (.heartbeatCheck alive) := fun _ _ e => nomatch e

theorem scheduleDigestCheck (core ring : Nat) (table digest : List Byte) : Statement (.scheduleDigestCheck core ring table digest) := fun _ _ e => nomatch e

theorem coreWatchdogExpiry (core : Nat × Nat) : Statement (.coreWatchdogExpiry core) := fun _ _ e => nomatch e

theorem portUp (port member peer : Nat) : Statement (.portUp port member peer) := fun _ _ e => nomatch e

theorem portTrainRetry (port : Nat) : Statement (.portTrainRetry port) := fun _ _ e => nomatch e

theorem flitReceive (port type vc seq ack cvc credits corrected uncorrectable : Nat) (payload : List Byte) (crc : Nat) : Statement (.flitReceive port type vc seq ack cvc credits corrected uncorrectable payload crc) := fun _ _ e => nomatch e

theorem nak (port ack : Nat) : Statement (.nak port ack) := fun _ _ e => nomatch e

theorem idleFlitTimer (port : Nat) : Statement (.idleFlitTimer port) := fun _ _ e => nomatch e

theorem livenessTimeout (port : Nat) : Statement (.livenessTimeout port) := fun _ _ e => nomatch e

theorem fecLockLost (port : Nat) : Statement (.fecLockLost port) := fun _ _ e => nomatch e

theorem replayFullTimeout (port : Nat) : Statement (.replayFullTimeout port) := fun _ _ e => nomatch e

theorem plkPortDownWrite (rq port : Nat) : Statement (.plkPortDownWrite rq port) := fun h _ e => Option.some.inj e ▸ (of_decide_eq_true h).1

theorem portDownMsg (src epoch mseq port : Nat) : Statement (.portDownMsg src epoch mseq port) := fun _ _ e => nomatch e

theorem heartbeatTimer : Statement (.heartbeatTimer) := fun _ _ e => nomatch e

theorem heartbeat (src : Nat × Nat) (epoch mseq : Nat) : Statement (.heartbeat src epoch mseq) := fun _ _ e => nomatch e

theorem memberLost (member : Nat) : Statement (.memberLost member) := fun _ _ e => nomatch e

theorem lost (src epoch mseq member : Nat) : Statement (.lost src epoch mseq member) := fun _ _ e => nomatch e

theorem takeover (src epoch mseq : Nat) : Statement (.takeover src epoch mseq) := fun _ _ e => nomatch e

theorem takeoverAccept (src epoch mseq : Nat) : Statement (.takeoverAccept src epoch mseq) := fun _ _ e => nomatch e

theorem takeoverRefuse (src epoch mseq : Nat) : Statement (.takeoverRefuse src epoch mseq) := fun _ _ e => nomatch e

theorem takeoverTimeout : Statement (.takeoverTimeout) := fun _ _ e => nomatch e

theorem managerStepDown : Statement (.managerStepDown) := fun _ _ e => nomatch e

theorem joinRetry : Statement (.joinRetry) := fun _ _ e => nomatch e

theorem join (src mseq serial devEpoch feed rack : Nat) (evidence version : Bool) (config : List Byte) : Statement (.join src mseq serial devEpoch feed rack evidence version config) := fun _ _ e => nomatch e

theorem joinReply (src epoch mseq code member standby partner : Nat) (coFed : Nat × RouteTable) : Statement (.joinReply src epoch mseq code member standby partner coFed) := fun _ _ e => nomatch e

theorem routeTable (src epoch mseq : Nat) (routes : List (Nat × Nat × Nat)) (upward : PackMap) (feeds : List (Nat × Nat)) : Statement (.routeTable src epoch mseq routes upward feeds) := fun _ _ e => nomatch e

theorem mseqAck (dst mseq status res0 res1 : Nat) : Statement (.mseqAck dst mseq status res0 res1) := fun _ _ e => nomatch e

theorem lossScaleDecision (src epoch mseq scale c1 : Nat) (overflow : Bool) : Statement (.lossScaleDecision src epoch mseq scale c1 overflow) := fun _ _ e => nomatch e

theorem peerRequest (src id : Nat) (write : Nat × Nat) (addr len : Nat) (data : List Byte) : Statement (.peerRequest src id write addr len data) := fun _ _ e => nomatch e

theorem peerResponse (src id status : Nat) (data : List Byte) : Statement (.peerResponse src id status data) := fun _ _ e => nomatch e

theorem plkStopReq (rq : Nat) : Statement (.plkStopReq rq) := fun h _ e => Option.some.inj e ▸ of_decide_eq_true h

theorem stop (src epoch mseq n : Nat) : Statement (.stop src epoch mseq n) := fun _ _ e => nomatch e

theorem stopMarker (port n epoch src : Nat) : Statement (.stopMarker port n epoch src) := fun _ _ e => nomatch e

theorem quiescent : Statement (.quiescent) := fun _ _ e => nomatch e

theorem cut (src epoch mseq n : Nat) : Statement (.cut src epoch mseq n) := fun _ _ e => nomatch e

theorem stopLimitExpiry : Statement (.stopLimitExpiry) := fun _ _ e => nomatch e

theorem plkStopResume (rq : Nat) : Statement (.plkStopResume rq) := fun h _ e => Option.some.inj e ▸ of_decide_eq_true h

theorem resume (src epoch mseq n last : Nat) : Statement (.resume src epoch mseq n last) := fun _ _ e => nomatch e

theorem swatchCapture (rq : Nat) : Statement (.swatchCapture rq) := fun h _ e => Option.some.inj e ▸ of_decide_eq_true h

theorem swatchIntervalTimer : Statement (.swatchIntervalTimer) := fun _ _ e => nomatch e

theorem swatch (src epoch mseq n sw bytes : Nat) : Statement (.swatch src epoch mseq n sw bytes) := fun _ _ e => nomatch e

theorem swatchCopyDone (result : Nat) : Statement (.swatchCopyDone result) := fun _ _ e => nomatch e

theorem swatchDone (src epoch mseq sw result : Nat) : Statement (.swatchDone src epoch mseq sw result) := fun _ _ e => nomatch e

theorem swatchCapLimit : Statement (.swatchCapLimit) := fun _ _ e => nomatch e

theorem restore (src epoch mseq sw source check extCheck : Nat) (ext : Option SwatchImage) : Statement (.restore src epoch mseq sw source check extCheck ext) := fun _ _ e => nomatch e

theorem restored (src epoch mseq sw result : Nat) : Statement (.restored src epoch mseq sw result) := fun _ _ e => nomatch e

theorem restoreHost (rq : Nat) : Statement (.restoreHost rq) := fun h _ e => Option.some.inj e ▸ of_decide_eq_true h

theorem fill (src epoch mseq x sw p : Nat) (check : Nat × Nat) (ext : Option SwatchImage × Option SwatchImage) : Statement (.fill src epoch mseq x sw p check ext) := fun _ _ e => nomatch e

theorem swtRateReset (rq : Nat) : Statement (.swtRateReset rq) := fun h _ e => Option.some.inj e ▸ of_decide_eq_true h

theorem swtDurableWrite (rq v : Nat) : Statement (.swtDurableWrite rq v) := fun h _ e => Option.some.inj e ▸ of_decide_eq_true h

theorem dbTail (f off size v : Nat) : Statement (.dbTail f off size v) := fun _ _ e => nomatch e

theorem dbRelease (f off size v : Nat) : Statement (.dbRelease f off size v) := fun _ _ e => nomatch e

theorem apertureWrite (f off : Nat) (data : List Byte) : Statement (.apertureWrite f off data) := fun _ _ e => nomatch e

theorem apertureRead (f off len : Nat) (late : Bool) : Statement (.apertureRead f off len late) := fun _ _ e => nomatch e

theorem rsCfgWrite (rq v : Nat) : Statement (.rsCfgWrite rq v) := fun h _ e => Option.some.inj e ▸ of_decide_eq_true h

theorem functionLevelReset (f : Nat) : Statement (.functionLevelReset f) := fun _ _ e => nomatch e

theorem flrDrainDone (f : Nat) : Statement (.flrDrainDone f) := fun _ _ e => nomatch e

theorem d3hotEntry (f : Nat) : Statement (.d3hotEntry f) := fun _ _ e => nomatch e

theorem d0Entry (f : Nat) : Statement (.d0Entry f) := fun _ _ e => nomatch e

theorem getCerts (payload : List Byte) : Statement (.getCerts payload) := fun _ _ e => nomatch e

theorem getEvidence (payload : List Byte) : Statement (.getEvidence payload) := fun _ _ e => nomatch e

theorem setUnlock (payload : List Byte) : Statement (.setUnlock payload) := fun _ _ e => nomatch e

theorem doeAbort : Statement (.doeAbort) := fun _ _ e => nomatch e

theorem powerOn : Statement (.powerOn) := fun _ _ e => nomatch e

theorem powerDown : Statement (.powerDown) := fun _ _ e => nomatch e

theorem perstAssert : Statement (.perstAssert) := fun _ _ e => nomatch e

theorem perstDeassert : Statement (.perstDeassert) := fun _ _ e => nomatch e

theorem hotReset : Statement (.hotReset) := fun _ _ e => nomatch e

theorem linkDown : Statement (.linkDown) := fun _ _ e => nomatch e

theorem deviceReset (rq : Nat) : Statement (.deviceReset rq) := fun h _ e => Option.some.inj e ▸ of_decide_eq_true h

theorem mgmtWatchdogExpiry : Statement (.mgmtWatchdogExpiry) := fun _ _ e => nomatch e

theorem managerReset (serial epoch : Nat) (verifies : Bool) : Statement (.managerReset serial epoch verifies) := fun _ _ e => nomatch e

theorem resetEnd (boot clk feed : Nat) : Statement (.resetEnd boot clk feed) := fun _ _ e => nomatch e

theorem releaseWaveDone (region : Nat) : Statement (.releaseWaveDone region) := fun _ _ e => nomatch e

theorem startStep (ok : Bool) (result detail ms : Nat) (image : List Byte) (facts : List Finding) : Statement (.startStep ok result detail ms image facts) := fun _ _ e => nomatch e

theorem startStepTimeout : Statement (.startStepTimeout) := fun _ _ e => nomatch e

theorem loadDone (rq : Nat) : Statement (.loadDone rq) := fun h _ e => Option.some.inj e ▸ of_decide_eq_true h

theorem clearSteps (rq : Nat) : Statement (.clearSteps rq) := fun h _ e => Option.some.inj e ▸ of_decide_eq_true h

theorem blockReset (rq type inst : Nat) : Statement (.blockReset rq type inst) := fun h _ e => Option.some.inj e ▸ (of_decide_eq_true h).1

theorem blockResetDone : Statement (.blockResetDone) := fun _ _ e => nomatch e

theorem svnCommit (rq : Nat) : Statement (.svnCommit rq) := fun h _ e => Option.some.inj e ▸ of_decide_eq_true h

theorem secLock (rq : Nat) : Statement (.secLock rq) := fun h _ e => Option.some.inj e ▸ of_decide_eq_true h

theorem monHelp : Statement (.monHelp) := fun _ _ e => nomatch e

theorem monStatus : Statement (.monStatus) := fun _ _ e => nomatch e

theorem monPeek (addr n : Nat) : Statement (.monPeek addr n) := fun _ _ e => nomatch e

theorem monPeek64 (addr : Nat) : Statement (.monPeek64 addr) := fun _ _ e => nomatch e

theorem monPoke (addr v : Nat) : Statement (.monPoke addr v) := fun _ _ e => nomatch e

theorem monDump (page : Nat) : Statement (.monDump page) := fun _ _ e => nomatch e

theorem monCounters (page : Nat) : Statement (.monCounters page) := fun _ _ e => nomatch e

theorem monJournal (n : Nat) : Statement (.monJournal n) := fun _ _ e => nomatch e

theorem monLedger : Statement (.monLedger) := fun _ _ e => nomatch e

theorem monReset : Statement (.monReset) := fun _ _ e => nomatch e

theorem monBaud (rate : Nat) : Statement (.monBaud rate) := fun _ _ e => nomatch e

theorem monLoad (n : Nat) (data : List Byte) : Statement (.monLoad n data) := fun _ _ e => nomatch e

theorem monRxOverrun : Statement (.monRxOverrun) := fun _ _ e => nomatch e

theorem traceRecord (record ns : Nat) (overrun : Bool) : Statement (.traceRecord record ns overrun) := fun _ _ e => nomatch e

theorem traceWrite : Statement (.traceWrite) := fun _ _ e => nomatch e

theorem monTrcTrigger (rq v : Nat) : Statement (.monTrcTrigger rq v) := fun h _ e => Option.some.inj e ▸ of_decide_eq_true h

theorem monTrcEnable (rq v : Nat) : Statement (.monTrcEnable rq v) := fun h _ e => Option.some.inj e ▸ of_decide_eq_true h

theorem monFiltClear (rq v : Nat) : Statement (.monFiltClear rq v) := fun h _ e => Option.some.inj e ▸ of_decide_eq_true h

theorem smbusBoardCap (write : Bool) (v : Nat) (pec : Bool) : Statement (.smbusBoardCap write v pec) := fun _ _ e => nomatch e

theorem smbusPkgPower (pec : Bool) : Statement (.smbusPkgPower pec) := fun _ _ e => nomatch e

theorem smbusTempMax (pec : Bool) : Statement (.smbusTempMax pec) := fun _ _ e => nomatch e

theorem smbusThrottle (pec : Bool) : Statement (.smbusThrottle pec) := fun _ _ e => nomatch e

theorem smbusStartState (pec : Bool) : Statement (.smbusStartState pec) := fun _ _ e => nomatch e

theorem wrtValidWrite (rq loom v : Nat) : Statement (.wrtValidWrite rq loom v) := fun h _ e => Option.some.inj e ▸ (of_decide_eq_true h).1

theorem wrtUnbind (rq loom v : Nat) : Statement (.wrtUnbind rq loom v) := fun h _ e => Option.some.inj e ▸ (of_decide_eq_true h).1

theorem errInject (rq page v : Nat) : Statement (.errInject rq page v) := fun h _ e => Option.some.inj e ▸ (of_decide_eq_true h).1

theorem registerWrite (rq off size v : Nat) : Statement (.registerWrite rq off size v) := fun h _ e => Option.some.inj e ▸ of_decide_eq_true h

theorem reservedOpcode (ring : Nat) : Statement (.reservedOpcode ring) := fun _ _ e => nomatch e

theorem slotReadFailure (ring : Nat) : Statement (.slotReadFailure ring) := fun _ _ e => nomatch e

theorem regulatorFaultClear (quad : Nat) : Statement (.regulatorFaultClear quad) := fun _ _ e => nomatch e

theorem scrubLate (stack : Nat) : Statement (.scrubLate stack) := fun _ _ e => nomatch e

theorem doeDiscovery (payload : List Byte) : Statement (.doeDiscovery payload) := fun _ _ e => nomatch e

theorem configurationRequest (f field v : Nat) : Statement (.configurationRequest f field v) := fun _ _ e => nomatch e

theorem unexpectedCompletion (f : Nat) : Statement (.unexpectedCompletion f) := fun _ _ e => nomatch e

theorem unknownCommand : Statement (.unknownCommand) := fun _ _ e => nomatch e

end Sys2Proof.Laws.RequesterExists
end

