-- ==== Sys2Proof/Laws/Registers.lean ====
section
/-! SUPPORT. Sys2Proof/Laws/Registers.lean: the page map: a page's address gives its region, its instance and an offset, and
pages do not overlap. -/

set_option Elab.async false

namespace Sys2Proof.Machine

open Sys2Proof

theorem regionOf_page {region inst off : Nat} (hi : inst < 256) (ho : off < 4096) :
    regionOf (pageAddr region inst + off) = region := by
  unfold regionOf pageAddr
  omega

theorem instOf_page {region inst off : Nat} (hi : inst < 256) (ho : off < 4096) :
    instOf (pageAddr region inst + off) = inst := by
  unfold instOf pageAddr
  omega

theorem offOf_page {region inst off : Nat} (ho : off < 4096) : offOf (pageAddr region inst + off) = off := by
  unfold offOf pageAddr
  omega

/-- Registers of two different pages have different addresses. -/
theorem page_ne {r i o r' i' o' : Nat} (hi : i < 256) (ho : o < 4096) (hi' : i' < 256) (ho' : o' < 4096)
    (h : r ≠ r' ∨ i ≠ i' ∨ o ≠ o') : pageAddr r i + o ≠ pageAddr r' i' + o' := by
  intro e
  have hr := congrArg regionOf e
  have hn := congrArg instOf e
  have hf := congrArg offOf e
  rw [regionOf_page hi ho, regionOf_page hi' ho'] at hr
  rw [instOf_page hi ho, instOf_page hi' ho'] at hn
  rw [offOf_page ho, offOf_page ho'] at hf
  omega

end Sys2Proof.Machine
end

