-- ==== Sys2Proof/Tests/Slice0.lean ====
section
/-! SUPPORT. Sys2Proof/Tests/Slice0.lean: small tests of the model. Expected values come from the spec's rules, tables and worked
examples; each `witness` theorem shows operands and states that meet the hypotheses of the claim it names. -/

set_option Elab.async false

namespace Sys2Proof.Tests

open Sys2Proof Sys2Proof.Machine

set_option maxRecDepth 8000

/-! ## Small states -/

/-- The package READY, with both memories written all zero. -/
def ready : State :=
  { State.reset with start := { Start.zero with step := 0, state := 1 }, stage := ⟨[], []⟩, hbm := ⟨[], []⟩ }

/-- Fields (offset, bytes, value) of a record laid over n zero bytes. -/
def bytesOf (n : Nat) (fs : List (Nat × Nat × Nat)) : List Byte :=
  fs.foldl (fun b f => b.take f.1 ++ leBytes f.2.1 f.2.2 ++ b.drop (f.1 + f.2.1)) (List.replicate n 0)

/-- A 64-byte entry or descriptor. -/
def entry (fs : List (Nat × Nat × Nat)) : List Byte := bytesOf 64 fs

/-- A command ring of a server in stage memory of Loom 0 at 0, with one entry posted. -/
def commandRing (server : Nat) : Ring :=
  { Ring.zero with kind := 1, server := server, mode := .on, tail := 1 }

/-- The package with an entry posted on ring r. -/
def posted (r server : Nat) (b : List Byte) : State :=
  { ready.setRing r (commandRing server) with stage := Memory.write ⟨[], []⟩ 0 b }

/-! ## The whole block, and Looms -/

theorem witness_WellFormedCommandsAnswer : (Instr.signal 65535).wf = true ∧ (Instr.signal 65536).wf = false := by decide +kernel

theorem witness_StepKeepsMemoryCanonical : MemoryOk ready ∧ ∃ t, step ready = .next t :=
  ⟨⟨by decide, by decide⟩, ⟨_, rfl⟩⟩

theorem witness_CommandsLeaveQueue : ∃ t, exec .powerDown ready = .next t := ⟨_, rfl⟩

/-- A 4 × 4 tile descriptor of a format in stage memory of Loom 0. -/
def tileBytes (fmt base : Nat) : List Byte :=
  entry [(0, 1, 1), (1, 1, fmt), (4, 4, base), (8, 4, 64), (12, 4, 4), (16, 4, 4)]

/-- A LOOM_GEMM of 1 × 1 × k in a mode: X and W in the format of code 5, Y in FP32. -/
def gemmBytes (mode k : Nat) : List Byte :=
  entry [(0, 1, 0x10), (6, 1, 64 * mode + 7), (7, 1, 0x55), (0x0A, 2, 0xFFFF), (0x0C, 4, 1), (0x10, 4, 1), (0x14, 4, k),
    (0x1A, 2, 1), (0x1C, 2, 2), (0x1E, 2, 0xFFFF), (0x20, 2, 1), (0x22, 2, 1)]

/-- The package with an entry posted on the ring of panel 0, and the three descriptors of `gemmBytes` in Loom 0's table. -/
def gemmPosted (b : List Byte) : State :=
  let s := posted 0 1 b
  { s with
    stage := ((s.stage.write 65536 (tileBytes 5 4096)).write 65600 (tileBytes 5 8192)).write 65664 (tileBytes 7 12288) }.setReg 0
      (loomPage 0 + 0x118) (3 * 2 ^ 20 + 1024)

/-- The same with a valid READ_ONLY entry of the weight-region table over Y. -/
def gemmGuarded : State :=
  let s := (gemmPosted (gemmBytes 0 1)).setReg 0 (loomPage 0 + 0x174) (3 * 2 ^ 30)
  (s.setReg 0 (loomPage 0 + 0x178) 192).setReg 0 (loomPage 0 + 0x17C) 1

/-- What a command answers, or the state that it was given. -/
def after (i : Instr) (s : State) : State :=
  match exec i s with
  | .next t => t
  | _ => s

theorem witness_LoomGemmStarts :
    let b := gemmBytes 0 1
    let s := gemmPosted b
    let bad := entry [(0, 1, 0x10)]
    (panelEntry (gemmPosted bad) 0 0x10 = some bad ∧ (ready.panel 0).state = .idle ∧
      streamRoom ((gemmPosted bad).ring (panelRing (gemmPosted bad) 0)) = true ∧ gemmSound (gemmPosted bad) 0 bad = false ∧
      openFlight (s.ring (panelRing s 0)) (s.ring (panelRing s 0)).issue = none) ∧
    (panelEntry gemmGuarded 0 0x10 = some b ∧ gemmSound gemmGuarded 0 b = true ∧
      wrtConflict gemmGuarded (tileOf (tdtBytes gemmGuarded 0 (gemmY b))) 1 1 0 = true) ∧
    (panelEntry s 0 0x10 = some b ∧ gemmSound s 0 b = true ∧ needsDrain (s.panel 0) b = false ∧
      wrtConflict s (tileOf (tdtBytes s 0 (gemmY b))) 1 1 0 = false) := by decide +kernel

/-- The same with the GEMM running, a FENCE posted behind it, and cluster 0 running. -/
def streaming (mode k : Nat) : State :=
  let s := after (.loomGemm 0) (gemmPosted (gemmBytes mode k))
  ({ s with stage := s.stage.write 64 (entry [(0, 1, 0x11)]) }.setRing 0 { s.ring 0 with tail := 2 }).setCluster 0
    { Cluster.zero with running := true }

theorem witness_LoomFenceAndSetPanels :
    let f := entry [(0, 1, 0x11)]
    let c := entry [(0, 1, 0x12), (6, 1, 0x7F)]
    (panelEntry (streaming 0 1) 0 0x11 = some f ∧ ((streaming 0 1).panel 0).state = .running ∧
      streamRoom ((streaming 0 1).ring 0) = true ∧ fenceForm f = true ∧ ((streaming 0 1).panel 0).cmds ≠ []) ∧
    (panelEntry (gemmPosted f) 0 0x11 = some f ∧ streamRoom ((gemmPosted f).ring 0) = true ∧
      ((gemmPosted f).panel 0).cmds = [] ∧ openFlight ((gemmPosted f).ring 0) 0 = none) ∧
    (panelEntry (gemmPosted c) 0 0x12 = some c ∧ ((gemmPosted c).ring 0).quiet = true ∧ setPanelsForm c = true ∧
      cutsWide (gemmPosted c) 0 0x7F = true ∧ cutsConflict (gemmPosted c) 0 = false) ∧
    (let d := entry [(0, 1, 0x12), (6, 1, 0xFF)];
      panelEntry (gemmPosted d) 0 0x12 = some d ∧ ((gemmPosted d).ring 0).quiet = true ∧ setPanelsForm d = false) := by
  decide +kernel

/-- The GEMM's stationary values have been loaded in rows 0 and 1 of column 0. -/
def loaded : State := after (.warpLoad 0 0 0 0) (streaming 0 1)

/-- An output-stationary core that has taken the first of three products. -/
def second : State := (streaming 2 3).setCore 0 0 0 { Core.zero with fired := 1 }

theorem witness_CoreFires :
    ((firing (streaming 0 1) 0 1 0).map Firing.step = some none) ∧
    (((firing loaded 0 0 0).map fun f => (f.step, f.p)) = some (some 0, 0) ∧
      ((locate (loaded.panel 0) 0).map fun l => (l.cmd.mode, l.t)) = some (0, 0) ∧
      (loaded.core 0 0 0).shadow.map Prod.fst = some 0) ∧
    (((firing second 0 0 0).map fun f => (f.step, f.p)) = some (some 1, 0) ∧
      ((locate (second.panel 0) 1).map fun l => (l.cmd.mode, l.t, l.len)) = some (2, 1, 3)) := by decide +kernel

/-- A sum stands at the bottom of column 0; it and that of the panel's rightmost column have entered the fell. -/
def bottom : State := (streaming 0 1).setCore 0 511 0 { Core.zero with down := some ⟨some 0, [some (.fin false 3 0)]⟩ }
def entered : State :=
  after (.fellSumEntry 0 255 0)
    ((after (.fellSumEntry 0 0 0) bottom).setCore 0 511 255 { Core.zero with down := some ⟨some 0, []⟩ })

theorem witness_WarpAndFell :
    (colLive (streaming 0 1) 0 0 = true ∧ panelAt (streaming 0 1) 0 0 = 0 ∧ ((streaming 0 1).panel 0).faulting = none ∧
      pathRuns (streaming 0 1) 0 0 0 0 = true ∧ warpDue (streaming 0 1) 0 0 0 0 = true ∧
      warpDue (streaming 0 1) 0 0 1 0 = true ∧ (locate ((streaming 0 1).panel 0) 0).isSome = true ∧
      (takeWarp (streaming 0 1) 0 0).isSome = true) ∧
    ((bottom.core 0 511 0).down = some ⟨some 0, [some (.fin false 3 0)]⟩ ∧ ((locate (bottom.panel 0) 0).bind fun l =>
      enterHalf (bottom.panel 0) l (tokenSums l (panelWidth bottom 0) (liveIndex bottom 0 0)
        [some (.fin false 3 0)]) (l.lastPass && decide (liveIndex bottom 0 0 + 1 = panelWidth bottom 0))).isSome = true) ∧
    ((oldestHalf (entered.panel 0)).isSome = true ∧ (entered.panel 0).faulting = none ∧
      ((oldestHalf (entered.panel 0)).map fun p => rowArrived p.1 p.2) = some true ∧
      ((oldestHalf (entered.panel 0)).map fun p => writesReady entered (rowResult entered p.1 p.2).ws) = some true ∧
      ((oldestHalf (entered.panel 0)).map fun p => rowIsLast p.1 p.2) = some true) := by decide +kernel

/-- Panel 0 with changes to its record. -/
def panelWith (s : State) (f : Panel → Panel) : State := s.setPanel 0 (f (s.panel 0))

/-- The GEMM's one tile is done. -/
def tilesOver : State := after (.fellRowTake 0 0) entered

theorem witness_PanelsGaugeAndWedge :
    (let s := panelWith ready fun P => { P with state := .draining };
      (s.panel 0).state = .draining ∧ (s.panel 0).faulting = none ∧ (s.panel 0).cmds = []) ∧
    (((tilesOver.panel 0).cmds.map fun c => (c.tilesDone, c.tiles)) = [(1, 1)] ∧ (tilesOver.panel 0).faulting = none ∧
      ((tilesOver.panel 0).cmds.map fun c => writesReady tilesOver (histWrites tilesOver c ++ colWrites tilesOver c)) =
        [true]) ∧
    ((panelWith (streaming 0 1) fun P => { P with faulting := some 1 }).panel 0).faulting.isSome = true ∧
    (pfMayWrite ready 16 (pnlPage 0) = true ∧ ((panelWith ready fun P => { P with state := .faulted }).panel 0).state = .faulted) ∧
    (let s := panelWith (streaming 0 1) fun P => { P with stuckUs := 65535 };
      wedgeLimit s 0 ≤ (s.panel 0).stuckUs ∧ panelWorks s 0 = true ∧ (s.panel 0).state = .running) ∧
    ((ready.loom 7).waits = [] ∧ bankOf 0 = 0) ∧
    (let s := { ready with hubUs := 5 }.setLoom 0 { Loom.zero with drainUs := 6 };
      (s.loom 0).drainUs ≠ 0 ∧ (s.loom 0).drainUs ≤ s.hubUs + 1 ∧ bit (s.reg 0 (loomPage 0 + 0x114)) 31 = false ∧
        (s.panel 0).state = .idle) := by decide +kernel

/-! ## Ring entries -/

/-- A counter, and a barrier for a number of arrivals. -/
def counterAt (v : Nat) : SyncObj := { SyncObj.zero with kind := 1, value := v }
def barrierOf (n : Nat) : SyncObj := { SyncObj.zero with kind := 2, count := n }

/-- The package as a worker whose manager is member 3. -/
def asWorker (s : State) : State :=
  (s.setReg 0 (packPage + 0x100) (2 ^ 30 + 7)).setReg 0 (packPage + 0x108) (3 * 2 ^ 16)

/-- The package as manager of a pack with member 3. -/
def asManager (s : State) : State :=
  { s.setReg 0 (packPage + 0x100) (3 * 2 ^ 30 + 7) with pack := { s.pack with members := [(3, ⟨0, 0, 1, 1024, false, false, 0⟩)] } }

/-- A SIGNAL, WAIT or ARRIVE of object 9, with or without SCOPE. -/
def syncBytes (op scope arg : Nat) : List Byte := entry [(0, 1, op), (1, 1, 64 * scope), (6, 2, 9), (8, 4, arg)]

theorem witness_SignalEntry :
    let b := syncBytes 2 0 1
    let g := syncBytes 2 1 1
    let s := (posted 65535 0 b).setObj 9 { counterAt (2 ^ 32 - 1) with waiters := [⟨4, 0, 0, 0, 0⟩] }
    let w := asWorker (posted 65535 0 g)
    (nextActing (posted 65535 0 b) 65535 2 = some b ∧ syncEntryCheck (posted 65535 0 b) 65535 b (waitFormat b) 1 = 1) ∧
    (nextActing s 65535 2 = some b ∧ syncEntryCheck s 65535 b (waitFormat b) 1 = 0 ∧ actsRemote s b = false ∧
      waitSatisfied (add32 (2 ^ 32 - 1) 1) 0 = true) ∧
    (nextActing w 65535 2 = some g ∧ syncEntryCheck w 65535 g (waitFormat g) 1 = 0 ∧ actsRemote w g = true) := by
  decide +kernel

theorem witness_WaitEntry :
    let b := syncBytes 1 0 5
    let g := syncBytes 1 1 5
    let s (v : Nat) := (posted 0 0 b).setObj 9 (counterAt v)
    let w := asWorker (posted 0 0 g)
    let m (kind value : Nat) := { w with mirrors := [⟨9, kind, true, value, 0, []⟩] }
    (nextActing (posted 0 0 b) 0 1 = some b ∧ syncEntryCheck (posted 0 0 b) 0 b (waitFormat b) 1 = 1) ∧
    (nextActing (s 5) 0 1 = some b ∧ syncEntryCheck (s 5) 0 b (waitFormat b) 1 = 0 ∧ actsRemote (s 5) b = false ∧
      waitSatisfied ((s 5).obj 9).value 5 = true) ∧
    (nextActing (s 4) 0 1 = some b ∧ syncEntryCheck (s 4) 0 b (waitFormat b) 1 = 0 ∧ waitSatisfied ((s 4).obj 9).value 5 = false) ∧
    (nextActing w 0 1 = some g ∧ syncEntryCheck w 0 g (waitFormat g) 1 = 0 ∧ actsRemote w g = true ∧ w.mirrors = []) ∧
    (nextActing (m 2 0) 0 1 = some g ∧ syncEntryCheck (m 2 0) 0 g (waitFormat g) 1 = 0 ∧ mirrorKind (m 2 0) 9 = 2) ∧
    (nextActing (m 1 5) 0 1 = some g ∧ syncEntryCheck (m 1 5) 0 g (waitFormat g) 1 = 0 ∧ mirrorKind (m 1 5) 9 ≠ 2 ∧
      mirrorBlocks (m 1 5) 9 false ⟨0, 0, 5, 0, 0⟩ = false) := by
  decide +kernel

theorem witness_ArriveEntry :
    let b := syncBytes 3 0 0
    let g := syncBytes 3 1 0
    let h := entry [(0, 1, 3), (1, 1, 32), (6, 2, 9)]
    let m := syncBytes 3 0 2
    let s (b : List Byte) (n : Nat) := (posted 0 0 b).setObj 9 (barrierOf n)
    (nextActing (s b 1) 0 3 = some b ∧ syncEntryCheck (s b 1) 0 b (arriveFormat b) 2 = 0 ∧ ((s b 1).obj 9).gen < 256 ∧
      actsRemote (s b 1) b = false ∧ arrivalKind (barrierOf 1) 0 = .current ∧ arriveWaits b = false) ∧
    (nextActing (s h 2) 0 3 = some h ∧ syncEntryCheck (s h 2) 0 h (arriveFormat h) 2 = 0 ∧ arriveWaits h = true ∧
      rollsOver (barrierOf 2) 0 = false) ∧
    (nextActing (s m 2) 0 3 = some m ∧ syncEntryCheck (s m 2) 0 m (arriveFormat m) 2 = 0 ∧
      arrivalKind (barrierOf 2) 2 = .misuse ∧ arrivalKind (barrierOf 1) 1 = .saturated) ∧
    (nextActing (asWorker (s g 1)) 0 3 = some g ∧ syncEntryCheck (asWorker (s g 1)) 0 g (arriveFormat g) 2 = 0 ∧
      actsRemote (asWorker (s g 1)) g = true) := by decide +kernel

/-- A ring whose request 5 is open, and a ledger that has no room. -/
def asked (b : List Byte) : State := (posted 0 0 b).setRing 0 { commandRing 0 with req := some ⟨5, 0, 0, 1⟩ }
def crowded (s : State) : State :=
  { s with ledger := { s.ledger with closed := [Block.zero, Block.zero]
                                     openBlk := { Block.zero with receipts := List.replicate 4096 [] } } }

/-- Ring 0's admission has been refused. -/
def unadmitted (s : State) : State := s.setRing 0 { s.ring 0 with admState := 3 }

theorem witness_AdmissionRefusedEntries :
    let o := entry [(0, 1, 4), (8, 8, 5)]
    let c := entry [(0, 1, 5), (8, 8, 5)]
    let p := entry [(0, 1, 6), (6, 1, 7)]
    let r := entry [(0, 1, 7)]
    let f := entry [(0, 1, 8), (6, 1, 9), (7, 1, 7)]
    let u (b : List Byte) := unadmitted (posted 0 0 b)
    (nextActing (u o) 0 4 = some o ∧ reqFormat o = true ∧ ((u o).ring 0).req = none ∧ orRefused (u o) 0 0 = 9) ∧
    (nextActing (u c) 0 5 = some c ∧ reqFormat c = true ∧ orRefused (u c) 0 0 = 9) ∧
    (nextActing (u p) 0 6 = some p ∧ phaseFormat p = true ∧ orRefused (u p) 0 0 = 9) ∧
    (nextActing (u r) 0 7 = some r ∧ phaseFormat r = true ∧ field r 6 1 = 0 ∧ orRefused (u r) 0 0 = 9) ∧
    (nextActing (u f) 0 8 = some f ∧ flushFormat f = true ∧ orRefused (u f) 0 0 = 9) := by decide +kernel

theorem witness_LedgerPhaseAndFailedEntries :
    let o := entry [(0, 1, 4), (8, 8, 5)]
    let c := entry [(0, 1, 5), (8, 8, 5)]
    let bad (op : Nat) := entry [(0, 1, op), (1, 1, 1)]
    (nextActing (posted 0 0 (bad 4)) 0 4 = some (bad 4) ∧ reqFormat (bad 4) = false) ∧
    (nextActing (asked o) 0 4 = some o ∧ reqFormat o = true ∧ ((asked o).ring 0).req ≠ none) ∧
    (nextActing (posted 0 0 o) 0 4 = some o ∧ ((posted 0 0 o).ring 0).req = none ∧
      orRefused (posted 0 0 o) 0 0 = 0) ∧
    (nextActing (posted 0 0 (bad 5)) 0 5 = some (bad 5) ∧ reqFormat (bad 5) = false) ∧
    (nextActing (crowded (asked c)) 0 5 = some c ∧ reqFormat c = true ∧ orRefused (crowded (asked c)) 0 0 = 0 ∧
      ledgerFull (crowded (asked c)) = true) ∧
    (nextActing (posted 0 0 c) 0 5 = some c ∧ ledgerFull (posted 0 0 c) = false ∧ ((posted 0 0 c).ring 0).req = none) ∧
    (nextActing (asked c) 0 5 = some c ∧ ledgerFull (asked c) = false ∧
      ((asked c).ring 0).req.map OpenReq.id = some (field c 8 8)) ∧
    (let p := entry [(0, 1, 6), (6, 1, 7)];
      nextActing (posted 0 0 p) 0 6 = some p ∧ phaseFormat p = true) ∧
    (nextActing (posted 0 0 (bad 6)) 0 6 = some (bad 6) ∧ phaseFormat (bad 6) = false) ∧
    (let p := entry [(0, 1, 7)];
      nextActing (posted 0 0 p) 0 7 = some p ∧ phaseFormat p = true ∧ field p 6 1 = 0) ∧
    (nextActing (posted 0 0 (bad 7)) 0 7 = some (bad 7) ∧ phaseFormat (bad 7) = false) ∧
    (let p := entry [(0, 1, 0x10)];
      nextEntry (posted 0 0 p) 0 = some p ∧ opServed ((posted 0 0 p).ring 0) 0x10 = false ∧ ((posted 0 0 p).ring 0).quiet = true) ∧
    (let s := ready.setRing 0 { commandRing 0 with base := 2 ^ 41 };
      ringMayStart (s.ring 0) = true ∧ ringServed s 0 (s.ring 0) = true ∧ slotReached s 0 (s.ring 0) = true ∧
        (s.ring 0).quiet = true ∧ (s.ring 0).slotInside 0 = false) ∧
    (let s := { ready.setRing 0 { commandRing 0 with space := 1 } with stackSet := { Stacks.zero with badSectors := [0] } };
      ringMayStart (s.ring 0) = true ∧ ringServed s 0 (s.ring 0) = true ∧ slotReached s 0 (s.ring 0) = true ∧
        (s.ring 0).quiet = true ∧ (s.ring 0).slotInside 0 = true ∧ slotEcc s (s.ring 0) 0 = true) := by decide +kernel

theorem witness_FlushAndKickEntries :
    let b := entry [(0, 1, 8), (6, 1, 9), (7, 1, 7)]
    let bad := entry [(0, 1, 8), (6, 1, 10)]
    let fed := (posted 0 0 b).setTrickle 9 7 { Trickle.zero with part := [1, 2, 3, 4], unitsIn := 1 }
    let k := entry [(0, 1, 0x22), (6, 1, 63)]
    let badK := entry [(0, 1, 0x22), (6, 1, 64)]
    let fill := entry [(0, 1, 0x21), (6, 1, 1), (7, 1, 1), (16, 8, 4096), (24, 4, 64), (28, 4, 1)]
    let s := (span 0 16).foldl (fun t i => t.setReg 63 (rtvPage 0 + 0x140 + 4 * i) (field fill (4 * i) 4))
      ((posted 0 2 k).setReg 0 (pciPage + 0x114) (2 ^ 31))
    (nextActing (posted 0 0 bad) 0 8 = some bad ∧ flushFormat bad = false) ∧
    (nextActing fed 0 8 = some b ∧ flushFormat b = true ∧ (fed.ring 0).fly = [] ∧
      (fed.trickle 9 7).unitsOut < (fed.trickle 9 7).unitsIn) ∧
    ((posted 0 0 b).trickle 9 7).unitsIn ≤ ((posted 0 0 b).trickle 9 7).unitsOut ∧
    (nextActing (posted 0 2 badK) 0 0x22 = some badK ∧ kickCheck (posted 0 2 badK) 0 badK ≠ 0) ∧
    (let r := s.setChan 0 63 { Channel.zero with active := some [] };
      nextActing r 0 0x22 = some k ∧ kickCheck r 0 k = 0 ∧ orRefused r 0 0 = 0 ∧ (r.chan 0 63).active ≠ none) ∧
    (nextActing (unadmitted s) 0 0x22 = some k ∧ kickCheck (unadmitted s) 0 k = 0 ∧ orRefused (unadmitted s) 0 0 = 9) ∧
    (nextActing s 0 0x22 = some k ∧ kickCheck s 0 k = 0 ∧ (s.chan 0 63).active = none ∧
      chanCheck s 0 63 (stagingBytes s 0 63) = 0) := by decide +kernel

/-! ## Retrievers and trickle FIFOs -/

/-- An RTV_FILL of n bytes at an HBM address, and the package with partition 0 permitted all of HBM's first GiB. -/
def fillBytesAt (dst n : Nat) : List Byte :=
  entry [(0, 1, 0x21), (6, 1, 1), (7, 1, 1), (8, 8, 0x1122334455667788), (16, 8, dst), (24, 4, n), (28, 4, 1)]
def permitted (s : State) : State := s.setReg 0 (pciPage + 0x114) (2 ^ 31)

/-- The package with the staging words of a channel of Retriever 0 set. -/
def staged (s : State) (c : Nat) (b : List Byte) : State :=
  (span 0 16).foldl (fun t i => t.setReg c (rtvPage 0 + 0x140 + 4 * i) (field b (4 * i) 4)) s

theorem witness_DescriptorsStart :
    let bad := entry [(0, 1, 0x20)]
    let b := fillBytesAt 4096 2048
    let s := permitted (posted 0 2 b)
    (nextDesc (posted 0 2 bad) 0 0x20 = some bad ∧ descCheck (posted 0 2 bad) 0 bad ≠ 0 ∧
      openFlight ((posted 0 2 bad).ring 0) 0 = none) ∧
    (nextDesc s 0 0x21 = some b ∧ descCheck s 0 b = 0) := by decide +kernel

/-- A descriptor in flight on Retriever 0 for entry 0 of ring 0. -/
def descWith (b : List Byte) (waiting : Bool) (reqs : List Request) : Desc :=
  { id := 0, owner := .entry 0 0, bytes := b, src := descSrc b, dst := descDst b, waiting := waiting, slot := 0, row := 0,
    col := 0, reqs := reqs, read := 0, written := 0, status := 0, cut := none, landed := false, seed := 5, tagWait := 0,
    cutReq := 0, cutWin := 0, stillUs := 0, availUs := none }
/-- Request 9, of a number of bytes between an HBM address and a peer or nowhere, that has gone out. -/
def reqWith (dst len : Nat) (srcBad : Bool) : Request :=
  { id := 9, src := 0, dst := dst, len := len, input := 1, data := none, fail := 0, lost := [], sent := false, parts := [],
    wrote := 0, srcBad := srcBad, via := none, kept := none, srcWin := (false, false), dstWin := (false, false) }
def moving (s : State) (d : Desc) : State := s.setRtv 0 { Retriever.zero with descs := [d], nextDesc := 1 }

/-- A data ring of two slots in HBM, filled up to counter 1's value, its slots freed up to counter 2's. -/
def dataRing : Ring := { Ring.zero with kind := 2, space := 1, slotsM1 := 1, mode := .on, fillSync := 1, freeSync := 2 }

theorem witness_RequestsIssue :
    let w := entry [(0, 1, 0x20), (1, 1, 32), (6, 1, 1), (7, 1, 0x11), (24, 4, 64), (28, 4, 1), (48, 2, 7)]
    let r := entry [(0, 1, 0x20), (1, 1, 16), (6, 1, 1), (7, 1, 0x11), (24, 4, 64), (28, 4, 1), (48, 2, 7)]
    let D := descWith w true []
    let E := descWith r true []
    let F := descWith (fillBytesAt 4096 2048) false []
    let s := (moving ready D).setRing 7 { dataRing with issue := 1 }
    let u := ((moving ready E).setRing 7 dataRing).setObj 1 (counterAt 1)
    (descOf s 0 0 = some D ∧ D.waiting = true ∧ D.cut = none ∧ descToRing D.bytes = true ∧
      creditsOf s (s.ring (descRing D.bytes)) = 1 ∧ ∀ p ∈ earlierOn s true (descRing D.bytes) D.seed, p.2.waiting = false) ∧
    (descOf u 0 0 = some E ∧ descToRing E.bytes = false ∧ E.cut = none ∧
      add32 (freedOf u (u.ring 7)) (earlierOn u false (descRing E.bytes) E.seed).length = 0 ∧
      sub32 (filledOf u (u.ring (descRing E.bytes))) 0 = 1 ∧ E.waiting = true) ∧
    (descOf (moving ready F) 0 0 = some F ∧ mayIssue (moving ready F) 0 F = true ∧ tagFree (moving ready F) 0 F = true ∧
      F.reqs = []) ∧
    (let v := (moving ready F).setRing 0 { commandRing 2 with outMode := 1, tagQuota := 0 };
      descOf v 0 0 = some F ∧ mayIssue v 0 F = true ∧ tagFree v 0 F = false ∧ F.tagWait = 0) := by decide +kernel

theorem witness_RequestLands :
    let q := reqWith 4096 2048 false
    let d := descWith (fillBytesAt 4096 2048) false [q]
    let s := moving ready d
    (s.rtv 0).descs.find? (fun d => d.reqs.any fun q => q.id == 9) = some d ∧ d.reqs.find? (fun q => q.id == 9) = some q ∧
      requestDown s 0 d q = false ∧ requestReady s 0 d q [] = true ∧ q.fail = 0 ∧ d.cut = none ∧ q.lost = [] ∧ q.len ≤ 2048 ∧
      q.len % 32 = 0 ∧ q.dst % 32 = 0 ∧ (∀ i, i < 2048 → inWindow s (4096 + i) =
        if (4096 + i) / 2 ^ 30 = 4096 / 2 ^ 30 then q.dstWin.1 else q.dstWin.2) ∧ dstSpaceOf s d.bytes = 1 ∧
      descFill d.bytes = true ∧ s.stackSet.badSectors = [] ∧ (sourceBytes s d q []).length = q.len := by decide +kernel

theorem witness_ChannelWrites :
    let b := fillBytesAt 4096 64
    let s := staged (permitted (ready.setSel 16 (rtvPage 0 + 0x104) 63)) 63 b
    let s1 := s.setFld 63 (rtvPage 0 + 0x108) 15 0 65535
    pfMayWrite s 16 (rtvPage 0) = true ∧ s.sel 16 (rtvPage 0 + 0x104) = 63 ∧ (s.chan 0 63).active = none ∧ stagingBytes s 0 63 = b ∧
      chanCheck s1 0 63 b = 0 ∧ ((s.setChan 0 63 { Channel.zero with active := some b }).chan 0 63).active ≠ none ∧
      armed (s.setSel 16 (rtvPage 0 + 0x28) 0xA5) 16 (rtvPage 0) = true := by decide +kernel

/-- FIFO 7 of Retriever 7 watches line 1 of Loom 7's stage memory and writes to a ring of 64 words. -/
def watching : State :=
  ((ready.setReg 7 (rtvPage 7 + 0x184) (2 ^ 31 + 7 * 2 ^ 27 + 6 * 2 ^ 21 + 0xFFFF)).setReg 7 (rtvPage 7 + 0x188) 1).setReg 7
    (rtvPage 7 + 0x18C) 1

theorem witness_TrickleFifos :
    let a := 7 * 2 ^ 26
    let word : List Byte × Nat := (List.replicate 64 1, 2 ^ 64 - 1)
    let held (p : List Byte) (ws : List (List Byte × Nat)) := watching.setTrickle 7 7 { Trickle.zero with part := p, words := ws }
    (inSpace 0 (a + 128) 64 = true ∧ ∀ p ∈ piecesOf (a + 128) (List.replicate 64 1), trickleAt watching p.1 = none) ∧
    (trickleAt watching (a + 64) = some 63 ∧ trickleAt watching (a + 127) = some 63 ∧ trickleAt watching (a + 63) = none ∧
      stageReady watching (a + 64) (List.replicate 64 1) = true) ∧
    stageReady (held [] (List.replicate 65 word)) (a + 64) [1] = false ∧
    (((held [] [word]).trickle 7 7).words = [word] ∧
      sub32 (trkPut (held [] [word]) 7 7) (trkGet (held [] [word]) 7 7) ≠ 2 ^ trkLog2 (held [] [word]) 7 7) ∧
    (let s := watching.setTrickle 7 7 { Trickle.zero with part := [1, 2, 3, 4], quietUs := 16383 };
      (s.trickle 7 7).part ≠ [] ∧ trkFlushUs s 7 7 ≤ (s.trickle 7 7).quietUs) ∧
    (let s := watching.setSel 16 (rtvPage 7 + 0x180) 7;
      pfMayWrite s 16 (rtvPage 7) = true ∧ s.sel 16 (rtvPage 7 + 0x180) = 7 ∧ trkEn s 7 7 = true ∧
        (s.trickle 7 7).pad.words = [] ∧ (s.trickle 7 7).rest = [] ∧
        sub32 (trkPut s 7 7) 0 < 2 ^ 31 ∧ 2 ^ 31 ≤ sub32 (trkPut s 7 7) 1) ∧
    (let s := (held [1, 2, 3, 4] []).setSel 16 (rtvPage 7 + 0x180) 7;
      pfMayWrite s 16 (rtvPage 7) = true ∧ trkEn s 7 7 = true ∧ (s.trickle 7 7).pad.words ≠ []) ∧
    (let s := (ready.setReg 7 (rtvPage 9 + 0x184) (2 ^ 31 + 2 ^ 30 + 6 * 2 ^ 21)).setTrickle 9 7 { Trickle.zero with words := [word] };
      trkHost s 9 7 = true ∧ sub32 (trkPut s 9 7) (trkGet s 9 7) ≠ 2 ^ trkLog2 s 9 7) := by decide +kernel

/-! ## Rings, objects, arbiters and admission -/

/-- The ring window of die 3 of the management core (requester 16) shows ring 65535. -/
def shown (R : Ring) : State := (ready.setSel 16 (ringPage 3 + 0x100) 16383).setRing 65535 R
def keyed (s : State) (page : Nat) : State := s.setSel 16 (page + 0x28) 0xA5

theorem witness_RingWindowWrites :
    let on := { Ring.zero with kind := 1, server := 1, mode := .on }
    let cfg := 2 ^ 30 + 2 * 2 ^ 12 + 0x100
    (mayWrite (shown on) 16 (ringPageOf 16 3) = true ∧ ringShown (shown on) 16 3 = true ∧ selectedRing (shown on) 16 3 = 65535) ∧
    (let s := shown Ring.zero;
      mayWrite s 16 (ringPageOf 16 3) = true ∧ ringShown s 16 3 = true ∧ (s.ring 65535).mode = .off ∧
        (s.ring 65535).holds = [] ∧ wedged s = false ∧ ringCfgRange 65535 cfg = true ∧ bits cfg 29 29 = 0 ∧
          bits cfg 31 30 ≠ 0 ∧ isVf 16 = false) ∧
    (((shown on).ring 65535).mode = .on ∧ ((shown on).ring 65535).kind ≠ 2 ∧ ((shown on).ring 65535).slots = 3 ∧
      sub32 3 0 < 2 ^ 31 ∧ sub32 3 0 ≤ 3 ∧ 3 < sub32 4 0 ∧ 2 ^ 31 ≤ sub32 0 1) ∧
    (let s := shown { on with mode := .stopped, classOvr := 5 };
      (s.ring 65535).classOvr = 5 ∧ (s.ring 65535).mode = .stopped) ∧
    (let f : Flight := ⟨0, List.replicate 64 0, .counter 9 5 false, none, false, 0, 0⟩;
      let s := shown { on with fly := [f] };
      openFlight (s.ring 65535) 0 = some f ∧ f.wait.withdrawn = true) ∧
    armed (keyed (shown on) (ringPage 3)) 16 (ringPage 3) = true ∧ armed (shown on) 16 (ringPage 3) = false := by
  decide +kernel

/-- An entry of sequence number q that waits, and one that has completed. -/
def held (q : Nat) (b : List Byte) (w : EntryWait) : Flight := ⟨q, b, w, none, false, 0, 0⟩
def complete (q : Nat) (b : List Byte) (c : Completion) : Flight := ⟨q, b, .running, some c, false, 0, 0⟩

theorem witness_CompletionsPost :
    let b := entry [(0, 1, 2)]
    let c := completionOf b 0 1 0 0
    let R := { commandRing 0 with fly := [complete 0 b c], rsEn := true, issue := 1 }
    let s := ready.setRing 0 R
    let full := ready.setRing 0 { R with head := 3, released := 0 }
    let x := ready.setRing 0 { commandRing 0 with mode := .cancelling, tail := 4096, cancelTail := 4096 }
    ((s.ring 0).fly = [complete 0 b c] ∧ postReady s (s.ring 0) = true ∧ (s.ring 0).rsEn = true ∧ (s.ring 0).rsSpace = 0 ∧
      (s.fn (s.ring 0).part).draining = false) ∧
    ((full.ring 0).fly = [complete 0 b c] ∧ (full.ring 0).slots = 3 ∧ postReady full (full.ring 0) = false) ∧
    ((x.ring 0).mode = .cancelling ∧ (x.ring 0).quiet = true ∧ ringDescs x 0 = [] ∧
      (x.ring 0).issue < 2 ^ 32 ∧ (x.ring 0).cancelTail < 2 ^ 32 ∧
      sub32 (x.ring 0).cancelTail (x.ring 0).issue ≤ 4096) := by decide +kernel

/-- The sync window of the management core shows object 65535. -/
def objectAt (x : SyncObj) : State := (ready.setSel 16 (syncPage + 0x100) 65535).setObj 65535 x

theorem witness_ObjectOperationsAndWrites :
    let s := objectAt { counterAt (2 ^ 32 - 1) with waiters := [⟨0, 0, 0, 0, 0⟩] }
    let s1 := s.setRing 0 { commandRing 0 with fly := [held 0 (syncBytes 1 0 0) (.counter 65535 0 false)] }
    let n := objectAt (barrierOf 1)
    let b := objectAt { counterAt 7 with broken := true }
    (selectedObj s 16 = 65535 ∧ mayWrite s 16 (syncPageOf 16) = true ∧ objShown s 16 = true ∧ storeCheck s false 65535 1 none = 0 ∧
      waitSatisfied (add32 (2 ^ 32 - 1) 1) 0 = true ∧ (openFlight (s1.ring 0) 0).isSome = true ∧ (s.obj 65535).waiting ≠ 0) ∧
    (storeCheck n false 65535 1 none ≠ 0 ∧ storeCheck n false 65535 2 none = 0 ∧ (n.obj 65535).gen < 256 ∧
      arrivalKind (n.obj 65535) 0 = .current ∧ storeCheck s false 65535 2 none ≠ 0 ∧ (n.obj 65535).waiting = 0 ∧
      (n.obj 65535).broken = false ∧ (n.obj 65535).kind ≠ 1) ∧
    ((objectAt (counterAt 7)).obj 65535).kind ≠ 2 ∧ bits (2 ^ 31 + 65535) 31 30 = 2 ∧ bits (2 ^ 31 + 65535) 15 0 ≠ 0 ∧
    (armed (keyed s syncPage) 16 syncPage = true ∧ armed s 16 syncPage = false ∧ (b.obj 65535).broken = true) := by
  decide +kernel

theorem witness_MirrorsAndPackSyncOps :
    let w : Waiter := ⟨0, 0, 5, 4, 0⟩
    let f := held 0 (syncBytes 1 1 5) (.counter 9 5 true)
    let s := { (asWorker ready).setRing 0 { commandRing 0 with fly := [f] } with mirrorWait := [⟨9, w, false⟩] }
    let m (value : Nat) (ws : List Waiter) := { s with mirrors := [⟨9, 1, true, value, 0, ws⟩] }
    let full := { s with mirrors := List.replicate 1024 ⟨8, 1, false, 0, 0, []⟩ }
    let old := { m 4 [w] with pack := { s.pack with seen := [3 * 2 ^ 32 + 1] } }
    ((ready.mirrorWait.find? fun p => p.waiter.ring == 0) = none ∧
      (s.mirrorWait.find? fun p => p.waiter.ring == 0) = some ⟨9, w, false⟩ ∧ (s.mirrors.any fun m => m.obj == 9) = false ∧
      s.mirrors.length < 1024) ∧
    (((m 4 []).mirrors.find? fun m => m.obj == 9) = some ⟨9, 1, true, 4, 0, []⟩ ∧
      mirrorDecides ⟨9, 1, true, 4, 0, []⟩ (waitsOnBarrier (m 4 []) w) false w = none) ∧
    ((full.mirrorWait.find? fun p => p.waiter.ring == 0) = some ⟨9, w, false⟩ ∧
      (full.mirrors.any fun m => m.obj == 9) = false ∧ 1024 ≤ full.mirrors.length) ∧
    (3 * 2 ^ 32 + 1 ∈ old.pack.seen ∧ 3 * 2 ^ 32 + 1 ∉ s.pack.seen ∧ (s.mirrors.find? fun m => m.obj == 9) = none) ∧
    (((m 4 [w]).mirrors.find? fun m => m.obj == 9) = some ⟨9, 1, true, 4, 0, [w]⟩ ∧
      mirrorDecides ⟨9, 1, true, 4, 7, [w]⟩ (waitsOnBarrier (m 4 [w]) w) false w = none ∧
      openFlight ((m 4 [w]).ring 0) 0 = some f ∧ waitsOnBarrier (m 4 [w]) w = false ∧ waitSatisfied (5 % 2 ^ 32) w.target = true) :=
  by decide +kernel

theorem witness_PackSyncOpsAndForwards :
    let g := (asManager ready).setObj 9 { counterAt 7 with pack := true }
    let h := (asManager ready).setObj 9 { barrierOf 1 with pack := true }
    let k := { g with pack := { g.pack with seen := [3 * 2 ^ 32 + 1] } }
    let w := asWorker ready
    (packRole g = 3 ∧ 3 * 2 ^ 32 + 1 ∉ g.pack.seen ∧ storeCheck g true 9 1 none = 0 ∧ storeCheck g true 8 1 none ≠ 0 ∧
      (g.obj 9).broken = false) ∧
    (packRole h = 3 ∧ 3 * 2 ^ 32 + 1 ∉ h.pack.seen ∧ storeCheck h true 9 2 none = 0 ∧ arrivalKind (h.obj 9) 0 = .current) ∧
    (packRole k = 3 ∧ 3 * 2 ^ 32 + 1 ∈ k.pack.seen) ∧
    (packRole w = 1 ∧ packManager w = 3 ∧ 3 * 2 ^ 32 + 1 ∉ w.pack.seen ∧
      3 * 2 ^ 32 + 1 ∈ ({ w with pack := { w.pack with seen := [3 * 2 ^ 32 + 1] } }).pack.seen) := by decide +kernel

theorem witness_QueueWatchdogFires :
    let f := held 0 (syncBytes 1 0 5) (.counter 9 5 false)
    let l := held 0 (entry [(0, 1, 5)]) .ledger
    let s (f : Flight) := ready.setRing 0 { commandRing 0 with fly := [f], wdogMs := 65535, wdogUs := 60000000 }
    let none0 (s : State) : Bool := ((ringDescs s 0).find? fun p => descOverdue s 0 p.2).isNone
    let d := { descWith (fillBytesAt 4096 2048) false [reqWith 4096 2048 false] with stillUs := 1000000 }
    let v := moving (ready.setRing 0 (commandRing 2)) d
    (none0 (s f) = true ∧ watchdogUs ((s f).ring 0) ≤ ((s f).ring 0).wdogUs ∧
      (((s f).ring 0).fly.find? fun f => !f.isDone) = some f ∧ ((s f).obj 9).broken = false) ∧
    (none0 (s l) = true ∧ watchdogUs ((s l).ring 0) ≤ ((s l).ring 0).wdogUs ∧
      (((s l).ring 0).fly.find? fun f => !f.isDone) = some l) ∧
    (none0 ready = true ∧ (ready.ring 0).wdogUs < watchdogUs (ready.ring 0)) ∧
    (((ringDescs v 0).find? fun p => descOverdue v 0 p.2) = some (0, d) ∧ d.waiting = false ∧
      ((allDescs (putDesc v 0 { d with cut := some 4 })).find? (readyDesc (putDesc v 0 { d with cut := some 4 }))) = none) := by
  decide +kernel

/-- The last arbiter of a bridge, with requests. -/
def arbiterWith (A : Arb) : State := ready.setArb 519 A

/-- A request at an arbiter, of an input and a number of units of which some have moved. -/
def reqAt (input units moved : Nat) : ArbReq := ⟨input, 0, 0, units, moved, 0, 64, 0, none, []⟩

theorem witness_ArbitersGrantAndServe :
    let q := reqAt 3 2 0
    let top := { reqAt 5 1 0 with requester := 1 }
    let s := arbiterWith { Arb.zero with waiting := [q, top] }
    let hot := (ready.setArb 511 { Arb.zero with waiting := [q, reqAt 7 2 1], slot := 7 }).setReg 0 (stackPage 15 + 0x100) 4
    let cold := (ready.setArb 511 { Arb.zero with waiting := [q], slot := 7 }).setReg 0 (stackPage 15 + 0x100) 4
    let v (waiting : List ArbReq) (frozen : Bool) (u : Nat) :=
      arbiterWith { Arb.zero with waiting := waiting, frozen := frozen, serving := some { q with units := u } }
    let c := ready.setSel 16 (portPage 63 + 0x300) 255
    ((s.arb 519).frozen = false ∧ (s.arb 519).serving = none ∧ arbCandidates s 519 ≠ [] ∧ slotWithheld hot 511 = true ∧
      arbCandidates hot 511 = [reqAt 7 2 1] ∧ arbCandidates cold 511 = []) ∧
    (((v [] false 1).arb 519).serving = some { q with units := 1 } ∧
      q.input + 1 < topInput (arbWaiting (v [top] false 2) 519) ∧ ((v [top] false 2).arb 519).serving = some q ∧
      topInput (arbWaiting (v [] true 2) 519) ≤ q.input + 1 ∧ ((v [] true 2).arb 519).frozen = true ∧
      ((v [] true 2).arb 519).serving = some q ∧ ((v [] false 2).arb 519).serving = some q ∧
      ((v [] false 2).arb 519).frozen = false ∧ q.moved + 1 < q.units) ∧
    (pfMayWrite c 16 (portPage 63) = true ∧ hasArbs (portPage 63) = true ∧ c.sel 16 (portPage 63 + 0x300) < 256 ∧
      arbOf (portPage 63) (c.sel 16 (portPage 63 + 0x300)) = 583 ∧ requesterDie 16 = pageDie (portPage 63) ∧
      requesterDie 48 ≠ pageDie (portPage 63)) := by decide +kernel

/-- A limiter lets something through in every microsecond: a limited input with no debt waits at none. -/
theorem witness_LimitedGrant :
    let s := arbiterWith { Arb.zero with waiting := [reqAt 7 1 0] }
    limited 519 7 = true ∧ arbCandidates s 519 = [reqAt 7 1 0] := by
  refine ⟨by decide, ?_⟩
  have h : ¬ limiterRate 519 7 ≤ 0 := by simp [limiterRate, limiterReserve, arbKind]
  have o : overLimit (arbiterWith { Arb.zero with waiting := [reqAt 7 1 0] }) 519 (reqAt 7 1 0) = false := by
    show (_ && decide (limiterRate 519 7 ≤ 0)) = false
    simp [h]
  have v : arbServable (arbiterWith { Arb.zero with waiting := [reqAt 7 1 0] }) 519 (reqAt 7 1 0) = true := by
    simp [arbServable, o]
  show List.filter _ [reqAt 7 1 0] = _
  simp [v]

theorem witness_Admission :
    let R := { commandRing 2 with outMode := 1, tagQuota := 1, admDies := 1, admRate := 1, admLargest := 64, admNeed := 2 ^ 32 - 1 }
    let s := shown R
    let q := { s.setRing 65535 { R with admState := 1 } with admQueue := [65535] }
    (mayWrite s 16 (ringPageOf 16 3) = true ∧ ringShown s 16 3 = true ∧ selectedRing s 16 3 = 65535 ∧ (s.ring 65535).kind = 1 ∧
      (s.ring 65535).server = 2 ∧ (s.ring 65535).outMode = 1 ∧ (s.ring 65535).admInput = 5 ∧ (s.ring 65535).admState = 0) ∧
    ((shown Ring.zero).ring 65535).kind ≠ 1 ∧ ((shown Ring.zero).ring 65535).admInput < 16 ∧
    (q.admQueue = [65535] ∧ admHold q = false ∧ admitRing q 65535 = some (2 ^ 32 - 1)) ∧
    admHold (q.setReg 0 (hubPage + 0x200) (2 ^ 31)) = true := by decide +kernel

/-! ## Power, ledger, stacked memory, bridges and control cores -/

def withQuad (q : Nat) (f : Quad → Quad) : State := ready.setQuad q (f (ready.quad q))

/-- So many microseconds of the hub timer since reset. -/
def later (s : State) (us : Nat) : State := { s with hubUs := us }

theorem witness_Governor :
    (periodStart (later ready 4) estimateTimer + 4 ≤ 4 ∧ 3 < periodStart (later ready 3) estimateTimer + 4) ∧
    (let s := { ready with timers := [(estimateTimer, 4)] };
      periodStart s governorTimer < periodStart s estimateTimer ∧ s.power.profile = false ∧
        ({ s with power := { s.power with profile := true } }).power.profile = true) ∧
    pfMayWrite ready 16 pwrPage = true := by decide +kernel

theorem witness_TemperaturesAndRegulators :
    (periodStart ready (junctionTimer 4) + 40 ≤ (later ready 40).hubUs ∧ ready.hubUs < periodStart ready (junctionTimer 4) + 40 ∧
      ({ ready with start := { ready.start with asserted := true } }).start.asserted = true) ∧
    ready.start.asserted = false ∧ ready.start.trip = false ∧ 4 * thermalLimit ready = 380 ∧ min 0x3FF (maxOf [0, 420]) ≤ 420 ∧
      420 < min 0x3FF (maxOf [421]) ∧ (ready.quad 4).shut = false := by decide +kernel

theorem witness_ClustersAndStoppedClocks :
    (let s := { ready with hubUs := 1000 }.setReg 0 (pwrPage + 0x110) (1000 * 2 ^ 16 + 1000);
      gateUs s = 1000 ∧ (s.cluster 4095).gated = false ∧ (s.cluster 4095).asked = 0 ∧ gateUs s ≤ clusterIdle s 4095) ∧
    ((ready.cluster 4095).running = false ∧ (ready.cluster 4095).asked = 0 ∧ clusterRetired ready 4095 = false) ∧
    (let s := { ready with power := { ready.power with ramp := [(3, 3072), (0, 5), (3, 4095)] } };
      ((s.power.ramp.filter fun p => p.1 == 3).map (·.2)).Nodup ∧
        ((s.power.ramp.filter fun p => p.1 == 3).map (·.2)) = [3072, 4095]) ∧
    (let s := { ready with stackSet := { Stacks.zero with idleUs := [(3, 1000000)] } }.setReg 0 (pwrPage + 0x110) (1000 * 2 ^ 16);
      selfRefreshMs s = 1000 ∧ 1000 * selfRefreshMs s ≤ mget s.stackSet.idleUs 3 0 ∧ dieRingsIdle s 3 = true ∧
        targetV s 3 = phaseV s 0 ∧ targetP s 3 = phaseP s 0) ∧
    (mayStopClock ready 15 = false ∧ mayStopClock ready 20 = true ∧ mayStopClock ready 84 = true ∧
      mayStopClock (ready.setFld 0 (portPage 63 + 0x104) 31 30 2) 84 = false ∧
      mayStopClock ({ ready with stackSet := { Stacks.zero with selfRefresh := [15] } }) 15 = true ∧
      20 ∈ ({ ready with power := { ready.power with stopped := [20, 84] } }).power.stopped ∧ 20 ∉ ready.power.stopped) := by
  decide +kernel

/-- An estimate of 1 J in domain 1 and none measured, in a window with all its samples, which is over. -/
def unmeasured : State :=
  { later ready 1000 with ledger := { Ledger.zero with est := [(2 ^ 64, 10 ^ 15)], samples := [(0, 100), (1, 100), (2, 100)] } }

theorem offOne_unmeasured (e : Nat) : 1 / 10 < offOne (((0 + 0 + 0 : Nat) : Rat) / (e : Rat)) := by
  have h : ((0 + 0 + 0 : Nat) : Rat) / (e : Rat) = 0 := by rw [Rat.div_def]; exact Rat.zero_mul _
  rw [h]; decide +kernel

theorem offOne_one : offOne 1 ≤ 1 / 10 := by decide +kernel

theorem estimate_only (s : State) (d : Nat) (h : estOnlyWin s d = true) (k : kLastOf s d = 1) :
    (domWin s d).meas = (domWin s d).est := by
  have f : ((domainEst s d : Nat) : Rat).floor = (domainEst s d : Int) := Rat.floor_intCast (domainEst s d : Int)
  simp [domWin, h, k, f]

theorem witness_LedgerWindows :
    (ready.start.asserted = false ∧ ready.hubUs < periodStart ready sampleTimer + 10 ∧
      periodStart (later ready 10) sampleTimer + 10 ≤ 10 ∧
        4 ≤ crossHeld { ready with pci := { Pci.zero with xing := [(3, 4)] } } 3) ∧
    (startEnded State.reset = false ∧ startEnded unmeasured = true ∧ startEnded (later ready 1000) = true ∧
      periodStart unmeasured ledgerTimer + 1000 ≤ unmeasured.hubUs ∧ ready.hubUs < periodStart ready ledgerTimer + 1000) ∧
    (∀ e m : Nat, e = (domWin unmeasured 0).est + (domWin unmeasured 1).est + (domWin unmeasured 2).est →
      m = (domWin unmeasured 0).meas + (domWin unmeasured 1).meas + (domWin unmeasured 2).meas →
      1 / 10 < offOne (if e = 0 then 1 else (m : Rat) / (e : Rat))) ∧
    (∀ e m : Nat, e = (domWin (later ready 1000) 0).est + (domWin (later ready 1000) 1).est + (domWin (later ready 1000) 2).est →
      m = (domWin (later ready 1000) 0).meas + (domWin (later ready 1000) 1).meas + (domWin (later ready 1000) 2).meas →
      offOne (if e = 0 then 1 else (m : Rat) / (e : Rat)) ≤ 1 / 10) := by
  refine ⟨by decide +kernel, by decide +kernel, ?_, ?_⟩
  · intro e m he hm
    have h1 : (domWin unmeasured 1).est = 10 ^ 9 := by decide +kernel
    have hm' : m = 0 + 0 + 0 := by rw [hm]; decide +kernel
    have h0 : e ≠ 0 := by omega
    rw [if_neg h0, hm']; exact offOne_unmeasured e
  · intro e m he hm
    have hm' : m = e := by
      rw [he, hm, estimate_only (later ready 1000) 0 (by decide) (by decide), estimate_only (later ready 1000) 1 (by decide) (by decide),
        estimate_only (later ready 1000) 2 (by decide) (by decide)]
    by_cases h0 : e = 0
    · rw [if_pos h0]; exact offOne_one
    · have hq : (m : Rat) / (e : Rat) = 1 := by
        rw [hm', Rat.div_def]; exact Rat.mul_inv_cancel _ fun h => h0 (Rat.natCast_eq_zero_iff.mp h)
      rw [if_neg h0, hq]; exact offOne_one

theorem witness_LedgerBlocks :
    let full := { ready with ledger := { Ledger.zero with closed := [Block.zero, Block.zero] } }
    let rec0 : List Byte := List.replicate 1024 1
    let s (en get : Nat) := { ((ready.setReg 0 (ldgPage + 0x108) (en * 2 ^ 31 + 4)).setReg 0 (ldgPage + 0x118) 16).setReg 0
      (ldgPage + 0x11C) get with ledger := { Ledger.zero with records := [rec0] } }
    let free (t : State) : Bool := decide (sub32 (t.ldg 0x118) (t.ldg 0x11C) + unitsOf rec0 ≤ 2 ^ t.fld 0 (ldgPage + 0x108) 4 0)
    (pfMayWrite ready 16 ldgPage = true ∧ startEnded ready = true ∧ startEnded full = true ∧
      (let early := { ready with start := { ready.start with step := 8 } }; startEnded early = false ∧
        pfMayWrite early 16 ldgPage = true) ∧
      closedFull ready = false ∧ closedFull full = true ∧ full.ledger.openBlk.close = 0 ∧
      sub32 (ready.ldg 0x118) 0 < 2 ^ 31 ∧ 2 ^ 31 ≤ sub32 (ready.ldg 0x118) 1) ∧
    (full.start.state = 1 ∧ (full.ledger.closed.find? fun b => b.signed.isNone) = some Block.zero) ∧
    ((s 1 1).ledger.records = [rec0] ∧ bit ((s 1 1).ldg 0x108) 31 = true ∧ ((s 1 1).fn 0).d3hot = false ∧
      ((s 1 1).fn 0).draining = false ∧ free (s 1 1) = true ∧ bit ((s 0 1).ldg 0x108) 31 = false ∧ free (s 1 0) = false) := by
  decide +kernel

theorem witness_StacksAndTheirRegisters :
    let top := 2 ^ 41 - 1
    let bad := { ready with stackSet := { Stacks.zero with badSectors := [2 ^ 36 - 1] } }
    let w := ready.setSel 16 (dmapPage 3 + 0x100) 7
    let taken := w.setReg 0 (dmapPage 3 + 0x104) (2 ^ 31 + 512 * 2 ^ 9)
    (stackOf ready top < 16 ∧ stackOf ready top ∉ ready.power.stopped ∧ inWindow ready top = false ∧ inWindow taken top = true ∧
      stackOf ready top ∈ ({ ready with power := { ready.power with stopped := span 0 16 } }).power.stopped) ∧
    ([burstKind ready (top / 32) true 0, burstKind bad (top / 32) true 0, burstKind bad (top / 32) false 0,
      burstKind ready (top / 32) true 2, burstKind ready (top / 32) false 2, burstKind ready (top / 32) false 3] =
        [0, 0, 1, 3, 2, 4]) ∧
    (w.sel 16 (dmapPage 3 + 0x100) = 7 ∧ pfMayWrite w 16 (dmapPage 3) = true ∧ pfMayWrite w 16 (stackPage 15) = true ∧
      bit (2 ^ 31 + 512 * 2 ^ 9) 31 = true ∧ bits (2 ^ 31 + 512 * 2 ^ 9) 18 9 = 512 ∧
      windowMeets w 3 7 (2 ^ 31 + 512 * 2 ^ 9) = false ∧ bit (w.reg 7 (dmapPage 3 + 0x104)) 31 = false ∧
      windowMeets taken 3 7 (2 ^ 31 + 512 * 2 ^ 9) = true) ∧
    (periodStart ready (tempTimer 15) + 1000 ≤ (later ready 1000).hubUs ∧ ready.start.asserted = false) := by decide +kernel

theorem witness_PatrolAndRefresh :
    let a := hbmArb ready 0
    let hours := ready.setReg 0 (stackPage 15 + 0x10C) 168
    let serve (input : Nat) := ready.setArb 511 { Arb.zero with serving := some (reqAt input 2 0) }
    let ended (n : Nat) := { later hours (168 * 3600000000) with
      stackSet := { Stacks.zero with patrolled := (span 480 32).map fun c => (c, n) } }
    (scrubHours ready (stackOf ready 0) ≠ 0 ∧ pseudoIdle ready 0 = true ∧ patrolNext ready 0 = true ∧ patrolNext ready 32 = false ∧
      0 / 32 ∉ ready.stackSet.badSectors ∧
        scrubHours (ready.setReg 0 (stackPage (stackOf ready 0) + 0x10C) 0) (stackOf ready 0) = 0 ∧
      0 / 32 ∈ ({ ready with stackSet := { Stacks.zero with badSectors := [0] } }).stackSet.badSectors ∧
      mget ready.stackSet.patrolled a 0 = 0) ∧
    (15 ∉ ready.power.stopped ∧ 15 ∉ ready.stackSet.selfRefresh ∧ (ready.arb 511).serving = none ∧
      ((serve 7).arb 511).serving = some (reqAt 7 2 0) ∧ ((serve 6).arb 511).serving = some (reqAt 6 2 0) ∧
      mget ready.stackSet.refreshAt (511 * 2 ^ 32 + 5 % 2 ^ 32) 0 ≤ ready.hubUs * 1000 + 999 ∧
      ready.hubUs * 1000 + 999 <
        mget ({ ready with stackSet := { Stacks.zero with refreshAt := [(511 * 2 ^ 32 + 5, 1000)] } }).stackSet.refreshAt
          (511 * 2 ^ 32 + 5 % 2 ^ 32) 0) ∧
    (scrubHours hours 15 = 168 ∧ hours.hubUs < mget hours.stackSet.scrubUs 15 0 + scrubHours hours 15 * 3600000000 ∧
      mget (ended 5).stackSet.scrubUs 15 0 + scrubHours (ended 5) 15 * 3600000000 ≤ (ended 5).hubUs ∧ patrolDone (ended 5) 15 = false ∧
      patrolDone (ended (2 ^ 27)) 15 = true) := by decide +kernel

/-- PF0's vector 0 is sent at once. -/
def heard (s : State) : State :=
  (((s.setFn 0 { s.fn 0 with msixEn := true }).setFld 0 (pciPage + 0x108) 20 9 1)).setReg 0 (msixTable 0 + 12) 1

theorem witness_BridgesAndControlCores :
    let on := { commandRing 1 with mode := .on }
    let s := heard { ready.setRing 65535 on with
      hubUs := 999999, dies := { Dies.zero with coreRings := [(31, 65535)], coreFailUs := [(24, 1)] } }
    (3 ∉ ready.dies.bridgeDown ∧ bit (mget ready.dies.groupsFailed 7 0) 15 = false ∧ mget ready.dies.replays 127 0 < 3 ∧
      3 ≤ mget ({ ready with dies := { Dies.zero with replays := [(127, 3)] } }).dies.replays 127 0) ∧
    (8 < ((span 0 16).filter fun g => bit (0xFF ||| 2 ^ 15) g).length) ∧
    (ready.start.state = 1 ∧ periodStart ready heartbeatTimer + 1000 ≤ (later ready 1000).hubUs ∧
      ready.hubUs < periodStart ready heartbeatTimer + 1000 ∧
      ∀ c, c < 32 → c ∉ ready.dies.coreHeld → bit 5 c = true ∨ mget ready.dies.coreMissed c 0 = 0) ∧
    (s.start.state = 1 ∧ 31 ∉ s.dies.coreHeld ∧ coreStartUs s 31 ≤ 989999 ∧ 989999 + coreWdogUs s 989999 ≤ s.hubUs ∧
      s.hubUs < 990000 + coreWdogUs s 990000 ∧ (31, 65535) ∈ s.dies.coreRings ∧ (s.ring 65535).kind = 1 ∧
      (s.ring 65535).mode = .on ∧ mget s.dies.coreFailUs 24 0 ≠ 0 ∧ s.hubUs + 1 < mget s.dies.coreFailUs 24 0 + 1000000 ∧
      24 / 8 = 31 / 8 ∧ hostHears s = true) ∧
    (Machine.hash [] ≠ [] ∧ Machine.hash [] = Machine.hash []) := by decide +kernel

/-! ## Ports and the pack -/

/-- Port 63 is enabled, and it is up. -/
def portOn (s : State) : State := s.setReg 0 (portPage 63 + 0x100) (2 ^ 31)
def portUp (s : State) : State := (portOn s).setFld 0 (portPage 63 + 0x104) 31 30 2

theorem witness_PortsUpAndDown :
    let m := asManager ready
    let u := portUp ready
    let linked := { m with pack := { m.pack with links := [(7, 0, 3, 5)] } }
    (portEn (portOn ready) 63 = true ∧ portState (portOn ready) 63 ≠ 2 ∧
      9 ≤ (portOn ready).start.step + 9 * (portOn ready).start.state ∧ (portOn ready).start.state ≠ 2 ∧
      periodStart (portOn ready) (trainTimer 63) ≤ (portOn ready).hubUs ∧
      ready.hubUs < periodStart { ready with timers := [(trainTimer 63, 10000)] } (trainTimer 63)) ∧
    (portIsUp u 63 = true ∧ (u.arb (520 + 63)).serving = none ∧ u.pack.stopNo = none ∧ pfMayWrite u 16 (portPage 63) = true) ∧
    (packRole m = 3 ∧ packEpoch m ≤ 0 % 2 ^ 32 ∧ 1023 * 2 ^ 32 + 5 % 2 ^ 32 ∉ m.pack.seen ∧ packRole linked = 3 ∧
      linked.pack.links.filter (fun l => !decide ((l.1 = 1023 ∧ l.2.1 = 63) ∨ (l.2.2.1 = 1023 ∧ l.2.2.2 = 63))) ≠ []) ∧
    (1 ≤ ((u.setPort 63 { Port.zero with quietUs := 1 }).port 63).quietUs ∧
      10 ≤ ((u.setPort 63 { Port.zero with fullUs := 10 }).port 63).fullUs) ∧
    (armed (keyed u (portPage 63)) 16 (portPage 63) = true ∧ armed u 16 (portPage 63) = false) := by decide +kernel

theorem witness_Flits :
    let u := portUp ready
    let f : PortFlit := ⟨1, 0, 0, 0, 0, 0, []⟩
    let v (n : Nat) := u.setPort 63 { Port.zero with replay := [(f, n)], txSeq := 1 }
    let P (s : State) (ack : Nat) := ackFlits (ackFlits (s.port 63) (ack % 1024)) (ack % 1024)
    (portIsUp u 63 = true ∧ (u.port 63).nakSent = false ∧ 9 % 8 = 1 ∧ 8 % 8 = 0 ∧ 1024 % 1024 = (u.port 63).rxSeq ∧
      u.pack.stopNo = none ∧ 1 % 1024 ≠ (u.port 63).rxSeq ∧
      ((u.setPort 63 { Port.zero with nakSent := true }).port 63).nakSent = true) ∧
    ((P u 0).replay = [] ∧ (P (v 6) 1024).replay = [(f, 6)] ∧ (P (v 7) 1024).replay = [(f, 7)] ∧ (P (v 7) 1025).replay = []) := by
  decide +kernel

/-- No CRC is the only number: a flit can always arrive with another. -/
theorem witness_BadFlit (f : PortFlit) : flitCrc f + 1 ≠ flitCrc f := Nat.succ_ne_self _

/-- The same as standby, and time for a member to fall silent. -/
def asStandby (s : State) : State := (asWorker s).setFld 0 (packPage + 0x100) 31 30 2
def epochOf (s : State) (e : Nat) : State := s.setReg 0 (packPage + 0x104) e

/-- A message of the epoch and of a number that has not been seen. -/
theorem fresh_message (s : State) (e m : Nat) (h : packEpoch s ≤ e % 2 ^ 32) (hm : 3 * 2 ^ 32 + m % 2 ^ 32 ∉ s.pack.seen) :
    newMessage s 3 e m := ⟨h, hm⟩

theorem witness_HeartbeatsAndLosses :
    let m := later (asManager ready) 10
    let w := later (asWorker ready) 10
    let b := later (asStandby ready) 10
    let known := { m with pack := { m.pack with seen := [3 * 2 ^ 32 + 1] } }
    (packRole m = 3 ∧ packRole w = 1 ∧ packRole b = 2 ∧ newMessage m 3 0 1 ∧ newMessage w 3 0 1) ∧
    (packRole ready = 0 ∧ periodStart m packTimer ≤ m.hubUs ∧
      m.hubUs < periodStart { m with timers := [(packTimer, 12)] } packTimer) ∧
    (0 % 2 ^ 32 < packEpoch (epochOf w 1) ∧ packEpoch known ≤ 0 ∧ 3 * 2 ^ 32 + 1 % 2 ^ 32 ∈ known.pack.seen) ∧
    (memberSilent m 3 = true ∧ (m.pack.members.find? fun p => p.1 == 3).isSome = true ∧ memberSilent m 1023 = true ∧
      memberSilent (later m 9) 3 = false) ∧
    (packManager w = 3 ∧ memberSilent w 3 = true ∧ w.pack.mgrLost = false ∧ packManager b = 3 ∧ memberSilent b 3 = true) ∧
    (fromManager w 3 = true ∧ fromManager w 4 = false ∧ fromManager m 3 = false ∧ hostHears (heard w) = true ∧
      fromManager (heard w) 3 = true ∧ allDescs (heard w) = []) := by
  refine ⟨⟨by decide +kernel, by decide +kernel, by decide +kernel, fresh_message _ _ _ (by decide +kernel) (by decide +kernel),
    fresh_message _ _ _ (by decide +kernel) (by decide +kernel)⟩, by decide +kernel, by decide +kernel, by decide +kernel,
    by decide +kernel, by decide +kernel⟩

/-- A standby that has lost its manager and claims an epoch; it has been told of n other members. -/
def claiming (n : Nat) : State :=
  let s := asStandby ready
  { s with pack := { s.pack with roster := 7 :: span 10 n, mgrLost := true, claim := some (2 ^ 32 - 1), accepts := [7] } }

theorem witness_TakeoversAndJoins :
    let lost := { asWorker ready with pack := { Pack.zero with mgrLost := true } }
    let alone := later (asManager ready) 10
    (newMessage lost 3 1 0 ∧ packRole lost = 1 ∧ lost.pack.mgrLost = true) ∧ (packRole ready = 0 ∧ ready.start.state = 1) ∧
    (newMessage (asWorker ready) 3 1 0 ∧ (asWorker ready).pack.mgrLost = false ∧ packRole (asWorker ready) = 1) ∧
    (newMessage (claiming 2) 3 0 0 ∧ packRole (claiming 2) = 2 ∧ (claiming 2).pack.claim = some (2 ^ 32 - 1) ∧
      (claiming 2).pack.lostX = none ∧
        (otherMembers (claiming 2)).length + 1 < 2 * (putRising 3 (claiming 2).pack.accepts).length) ∧
    (packRole (claiming 3) = 2 ∧ 2 * (putRising 3 (claiming 3).pack.accepts).length = (otherMembers (claiming 3)).length + 1) ∧
    (let s := later lost 1000; s.pack.mgrLost = true ∧ 1000 ≤ s.hubUs - s.pack.claimUs ∧ lost.hubUs - lost.pack.claimUs < 1000) ∧
    (packRole alone = 3 ∧
      2 * (1 + (alone.pack.members.filter fun p => !memberSilent alone p.1).length) ≤ alone.pack.members.length + 1 ∧
      (later alone 9).pack.members.length + 1 <
        2 * (1 + ((later alone 9).pack.members.filter fun p => !memberSilent (later alone 9) p.1).length)) ∧
    (ready.start.asserted = false ∧ periodStart ready joinTimer ≤ ready.hubUs ∧
      ready.hubUs < periodStart { ready with timers := [(joinTimer, 10000)] } joinTimer ∧ State.reset.start.state ≠ 1 ∧
      State.reset.start.step ≠ 10 ∧ packRole State.reset = 0) := by
  refine ⟨⟨fresh_message _ _ _ (by decide +kernel) (by decide +kernel), by decide +kernel⟩, by decide +kernel,
    ⟨fresh_message _ _ _ (by decide +kernel) (by decide +kernel), by decide +kernel⟩,
    ⟨fresh_message _ _ _ (by decide +kernel) (by decide +kernel), by decide +kernel⟩, by decide +kernel, by decide +kernel,
    by decide +kernel, by decide +kernel⟩

/-- A device whose digest is the manager's is accepted, sent to restore where it comes back from an older epoch, or refused. -/
theorem witness_JoinCodes :
    let alone := asManager ready
    let old := epochOf { alone with pack := { alone.pack with former := [(77, 4, 1, 3)] } } 5
    joinCode alone 5 0 true true (Machine.hash Config.packConfig) = 0 ∧
      joinCode old 77 2 true true (Machine.hash Config.packConfig) = 6 ∧ joinCode alone 5 0 false true [] = 1 := by
  have h1 : ¬ 1024 ≤ (asManager ready).pack.members.length + 1 := by decide +kernel
  have h2 : packEpoch (epochOf { asManager ready with pack := { (asManager ready).pack with former := [(77, 4, 1, 3)] } } 5) = 5 := by
    decide +kernel
  have h3 : wasMember (epochOf { asManager ready with pack := { (asManager ready).pack with former := [(77, 4, 1, 3)] } } 5) 77 2 =
      true := by decide +kernel
  have h4 : ¬ 1024 ≤ (epochOf { asManager ready with pack := { (asManager ready).pack with former := [(77, 4, 1, 3)] } } 5).pack.members.length
      + 1 := by decide +kernel
  refine ⟨by simp [joinCode, h1], ?_, by decide +kernel⟩
  simp [joinCode, h2, h3, h4]

theorem witness_RoutesAndAcks :
    let w := asWorker ready
    let f := held 0 (syncBytes 2 1 1) (.remote 9)
    let sig : PackMsg := ⟨.signal, 3, 0, 4, [1, 9, 1, 65535, 0], none⟩
    let arr : PackMsg := ⟨.arrive, 3, 0, 4, [2, 9, 0, 65535, 0], none⟩
    let hb : PackMsg := ⟨.heartbeat, 3, 0, 4, [], none⟩
    let s (m : PackMsg) := { w.setRing 65535 { commandRing 0 with fly := [f] } with pack := { Pack.zero with unacked := [m] } }
    let find (m : PackMsg) := (s m).pack.unacked.find? fun m => decide (m.dst = 3 ∧ m.mseq = 4)
    (fromManager w 3 = true ∧ newMessage w 3 0 0 ∧ (∀ r ∈ [(1023, 63, 5)], r.1 < 1024 ∧ r.2.1 < 64) ∧
      ([(1023, 63, 5)].map fun r : Nat × Nat × Nat => r.1).Nodup ∧ packRole (asManager ready) = 3 ∧
      ownMember (asManager ready) = 7) ∧
    (find hb = some hb ∧ hb.kind = .heartbeat ∧ find sig = some sig ∧ sig.kind = .signal ∧ sig.args = [1, 9, 1, 65535, 0] ∧
      openFlight ((s sig).ring 65535) 0 = some f ∧ find arr = some arr ∧ arr.args = [2, 9, 0, 65535, 0] ∧
      arriveWaits f.bytes = false) := by
  refine ⟨⟨by decide +kernel, fresh_message _ _ _ (by decide +kernel) (by decide +kernel), by decide +kernel,
    by decide +kernel⟩, by decide +kernel⟩

/-- A manager, or any member, that has seen the first step of its pack; and a manager whose scale was written meanwhile. -/
def stepped (s : State) (touched : Bool) : State := { s with pack := { s.pack with lossC := some 5, lossTouched := touched } }

theorem witness_LossScale :
    let c := (asManager ready).setReg 0 (hubPage + 0x130) (2 ^ 16)
    (packRole (asManager ready) = 3 ∧ ownMember (asManager ready) = 7 ∧ (asManager ready).pack.lossC = none) ∧
    (packRole (stepped (asManager ready) false) = 3 ∧ (stepped (asManager ready) false).pack.lossC = some 5 ∧
      (stepped (asManager ready) false).pack.lossTouched = false) ∧
    (fromManager (asWorker ready) 3 = true ∧ (asWorker ready).pack.lossC = none ∧ newMessage (asWorker ready) 3 0 0 ∧
      fromManager (stepped (asWorker ready) false) 3 = true ∧ newMessage (stepped (asWorker ready) false) 3 0 0) ∧
    (bits ((c.setReg 0 (hubPage + 0x134) 2).reg 0 (hubPage + 0x130)) 31 16 + 1 =
      max 1 (bits ((c.setReg 0 (hubPage + 0x134) 2).reg 0 (hubPage + 0x134)) 15 0)) := by
  refine ⟨by decide +kernel, by decide +kernel, ⟨by decide +kernel, by decide +kernel,
    fresh_message _ _ _ (by decide +kernel) (by decide +kernel), by decide +kernel,
    fresh_message _ _ _ (by decide +kernel) (by decide +kernel)⟩, by decide +kernel⟩

/-- Whichever way the free value lies, the manager of a pack whose scale has been written is in one of the two cases. -/
theorem witness_LossScaleTouched :
    let s := stepped (asManager ready) true
    packRole s = 3 ∧ s.pack.lossC.isSome = true ∧ s.pack.lossTouched = true ∧
      (Config.freeNat s.freeCtr 0 % 2 = 1 ∨ Config.freeNat s.freeCtr 0 % 2 ≠ 1) := by
  refine ⟨by decide +kernel, by decide +kernel, by decide +kernel, ?_⟩
  exact Decidable.em _

theorem witness_PeerMemory :
    let d (q : Request) := descWith (entry [(52, 2, 1023)]) false [q]
    let q := reqWith 4096 2048 true
    let p := { q with sent := true, parts := [(0, 256)] }
    let s (q : Request) := moving ready (d q)
    let bad := { ready with stackSet := { Stacks.zero with badSectors := [2 ^ 36 - 1] } }
    let cut := { ready with dies := { Dies.zero with bridgeDown := [3] } }
    (2 ^ 41 - 2048 + 2048 ≤ 2 ^ 41 ∧ hbmMeets ready 4 (2 ^ 41 - 2048) 2048 = true ∧
      hbmStoreFails ready (2 ^ 41 - 2048) 2048 = false ∧ hbmReadFails ready (2 ^ 41 - 2048) 2048 = false ∧
      hbmReadFails bad (2 ^ 41 - 2048) 2048 = true ∧ hbmStoreFails bad (2 ^ 41 - 2048) 2047 = true ∧
      (List.replicate 2048 (0 : Byte)).length = 2048 ∧ 2 ^ 41 < 2 ^ 41 - 2047 + 2048 ∧
      hbmMeets cut 4 (2 ^ 41 - 2048) 2048 = false) ∧
    (d q ∈ ((s q).rtv 0).descs ∧ descPeer (d q).bytes = 1023 ∧ q ∈ (d q).reqs ∧ q.data = none ∧ q.fail = 0 ∧ q.sent = false) ∧
    (d p ∈ ((s p).rtv 0).descs ∧ p ∈ (d p).reqs ∧ p.sent = true ∧ (p.parts.find? fun x => x.1 == 0) = some (0, 256)) := by
  decide +kernel

/-- A ring that a stop would hold, and a stop number whose wave runs. -/
def ringed (s : State) : State := s.setRing 65535 { commandRing 0 with mode := .stopped }
def stopping (s : State) (n : Nat) : State :=
  { s.setReg 0 (packPage + 0x118) (2 ^ 30 + n) with pack := { s.pack with stopNo := some n } }

theorem witness_StopsBegin :
    let m := ringed (keyed (asManager ready) packPage)
    let w := ringed (asWorker ready)
    (pfMayWrite m 16 packPage = true ∧ armed m 16 packPage = true ∧ packRole m = 3 ∧ m.pack.stopNo = none ∧
      (m.ring 65535).mode ≠ .off ∧ (m.ring 0).mode = .off) ∧
    (fromManager w 3 = true ∧ newMessage w 3 0 0 ∧ w.pack.stopNo = none ∧ fromManager (stopping w 5) 3 = true ∧
      newMessage (stopping w 5) 3 0 0 ∧ (stopping w 5).pack.stopNo ≠ none) ∧
    (portIsUp (portUp w) 63 = true ∧ (portUp w).pack.stopNo = none ∧ 65535 ≠ stopNumber (portUp w) ∧
      portIsUp (portUp (stopping w 5)) 63 = true ∧ (portUp (stopping w 5)).pack.stopNo = some 5 ∧
      5 ≠ 65535) := by
  refine ⟨by decide +kernel, ⟨by decide +kernel, fresh_message _ _ _ (by decide +kernel) (by decide +kernel), by decide +kernel,
    by decide +kernel, fresh_message _ _ _ (by decide +kernel) (by decide +kernel), by decide +kernel⟩, by decide +kernel⟩

theorem witness_StopsEnd :
    let w := portUp (stopping (ringed (asWorker ready)) 5)
    let marked := { w.setReg 0 (portPage 63 + 0x108) (2 ^ 31 + 5) with pack := { w.pack with feeds := [(63, 63)] } }
    let m := stopping (asManager ready) 65535
    let late := { m with pack := { m.pack with stopUs := 65535000, cuts := [3] } }
    (marked.pack.stopNo = some 5 ∧ quiescent marked = true ∧
      (∀ p, p < 64 → portIsUp marked p = true → portMarked marked p 5 = true) ∧ (∀ f ∈ marked.pack.feeds, f.1 < 64) ∧
      (∀ p, p < 64 → (marked.port p).replay.length < 256) ∧ marked.pack.cutSent = false ∧ packRole marked = 1 ∧
        portIsUp marked 63 = true ∧ portSent marked 63 5 = false) ∧
    (packRole m = 3 ∧ m.pack.stopNo = some 65535 ∧ newMessage m 3 0 0) ∧
    ((ownMember late :: late.pack.members.map Prod.fst).all (fun k => decide (k ∈ putRising 7 late.pack.cuts)) = true ∧
      stopState late = 1) ∧
    (late.pack.stopNo = some 65535 ∧ (∀ p, p < 64 → (late.port p).held = []) ∧ packRole late = 3 ∧
      stopLimitUs (late.setReg 0 (packPage + 0x114) 65535) ≤ late.pack.stopUs ∧ late.swatch.capS = none ∧
      pfMayWrite late 16 packPage = true) ∧
    (fromManager w 3 = true ∧ newMessage w 3 0 0 ∧ (∀ p, p < 64 → (w.port p).held = [])) := by
  refine ⟨by decide +kernel, ⟨by decide +kernel, by decide +kernel, fresh_message _ _ _ (by decide +kernel) (by decide +kernel)⟩,
    by decide +kernel, by decide +kernel, by decide +kernel, fresh_message _ _ _ (by decide +kernel) (by decide +kernel),
    by decide +kernel⟩

/-! ## Swatches, the host, keys, start, the monitor and registers -/

/-- A reserved area of 4 GiB at the end of HBM. -/
def reserved (s : State) : State := (s.setReg 0 (hubPage + 0x278) (2 ^ 41 - 2 ^ 32)).setReg 0 (hubPage + 0x280) 4

theorem witness_SwatchCaptures :
    let m := keyed (asManager ready) hubPage
    let timer := ({ m with hubUs := 1000000, swatch := { Swatch.zero with lastUs := 0 } }.setReg 0 (hubPage + 0x240) (2 ^ 29)).setReg
      0 (hubPage + 0x254) 1
    let w := { stopping (asWorker ready) 5 with pack := { (stopping (asWorker ready) 5).pack with cutSent := true } }
    let img := imageOf ready 5 3
    let job := { w with swatch := { Swatch.zero with slots := [⟨0, 2 ^ 30, none⟩], job := some ⟨5, 3, [1, 2], 0, img⟩ } }
    let cap (dones : List Nat) (owed : Bool) :=
      { m with swatch := { Swatch.zero with capS := some 3, capStep2Us := some 0, dones := dones, owed := owed }, hubUs := 65535000000 }
    let all (s : State) (src : Nat) : Bool :=
      (ownMember s :: s.pack.members.map Prod.fst).all fun k => decide (k ∈ putRising src s.swatch.dones)
    (packRole m = 3 ∧ swtState m = 0 ∧ m.swatch.capS = none ∧ m.pack.stopNo = none ∧ m.start.state = 1 ∧
      pfMayWrite m 16 hubPage = true ∧ armed m 16 hubPage = true) ∧
    (packRole timer = 3 ∧ swtState timer = 0 ∧ swtAuto timer = true ∧
      timer.reg 0 (hubPage + 0x254) * 1000000 ≤ timer.hubUs - timer.swatch.lastUs ∧ timer.start.state = 1) ∧
    (fromManager w 3 = true ∧ newMessage w 3 0 0 ∧ w.pack.stopNo = some 5 ∧ w.pack.cutSent = true ∧ w.swatch.job = none ∧
      localSlots w (swatchSize w 0) = none ∧
      ((localSlots (reserved w) (swatchSize (reserved w) 0)).bind slotFor).isSome = true) ∧
    (job.swatch.job.isSome = true ∧ packRole job = 1 ∧ (∃ x ∈ job.swatch.slots, x.base = 0) ∧
      hbmStoreFails job 0 2 = false ∧ hostCopyWaits job = false ∧
      hostCopyWaits ((job.setReg 0 (hubPage + 0x240) (2 ^ 30)).setFn 0 { Fn.zero with d3hot := true }) = true) ∧
    (packRole (cap [] false) = 3 ∧ newMessage (cap [] false) 3 0 0 ∧ (cap [] false).swatch.capS = some 3 ∧
      all (cap [] false) 3 = false ∧ all (cap [7] false) 3 = true ∧ (cap [7] false).swatch.owed = false) ∧
    (max 1 (((cap [] false).setReg 0 (hubPage + 0x250) 65535).fld 0 (hubPage + 0x250) 15 0) * 1000000 ≤
      (cap [] false).hubUs - 0) := by
  refine ⟨by decide +kernel, by decide +kernel, ⟨by decide +kernel, fresh_message _ _ _ (by decide +kernel) (by decide +kernel),
    by decide +kernel, by decide +kernel, by decide +kernel, by decide +kernel, by decide +kernel⟩, by decide +kernel,
    ⟨by decide +kernel, fresh_message _ _ _ (by decide +kernel) (by decide +kernel), by decide +kernel⟩, by decide +kernel⟩

theorem witness_SwatchRestores :
    let w0 := asWorker (ready.setRing 65535 { commandRing 0 with mode := .on })
    let img : SwatchImage := ⟨3, 5, 7, 0, 0, 512, w0.sec.fw, [], [(65535, [1])], [], [], [], [], []⟩
    let w := { w0 with swatch := { Swatch.zero with slots := [⟨0, 2 ^ 30, some img⟩] } }
    let asked := ready.setRing 65535 { commandRing 0 with req := some ⟨5, 0, 0, 1⟩ }
    let m := keyed (asManager ready) hubPage
    let ord (by_ : List Nat) := { m with swatch := { Swatch.zero with ordered := some (3, 0), restoredBy := by_ } }
    let all (s : State) (src : Nat) : Bool :=
      (ownMember s :: s.pack.members.map Prod.fst).all fun k => decide (k ∈ putRising src s.swatch.restoredBy)
    (fromManager w 3 = true ∧ newMessage w 3 0 0 ∧ localCopy w 3 = some img ∧ img.member = ownMember w ∧ img.fw = w.sec.fw ∧
      (img.rings.map (·.1)) = [65535]) ∧
    (localCopy w 4 = none ∧ img.no = 3 ∧ img.member = 7 ∧ img.fw = w.sec.fw) ∧
    ((asked.ring 65535).req = some ⟨5, 0, 0, 1⟩ ∧ (65535, asked.ring 65535) ∈ asked.rings) ∧
    (packRole (ord []) = 3 ∧ newMessage (ord []) 3 0 0 ∧ (ord []).swatch.ordered = some (3, 0) ∧ all (ord []) 3 = false ∧
      all (ord [7]) 3 = true ∧ (ord [7]).swatch.fill = none ∧ swtResult (ord [7]) ≠ 7 ∧
        (∀ q, q < 64 → ((ord [7]).port q).held = [])) ∧
    (pfMayWrite m 16 hubPage = true ∧ armed m 16 hubPage = true ∧ packRole m = 3 ∧ m.flash.swtDurable = 0 ∧
      ({ m with flash := { m.flash with swtDurable := 3 } }).flash.swtDurable ≠ 0) := by
  refine ⟨⟨by decide +kernel, fresh_message _ _ _ (by decide +kernel) (by decide +kernel), by decide +kernel⟩, by decide +kernel, by decide +kernel,
    ⟨by decide +kernel, fresh_message _ _ _ (by decide +kernel) (by decide +kernel), by decide +kernel⟩, by decide +kernel⟩

theorem witness_DurableCheckpoint :
    let m := keyed (asManager ready) hubPage
    pfMayWrite m 16 hubPage = true ∧ packRole m = 3 ∧ packRole ready ≠ 3 ∧ pfMayWrite ready 16 hubPage = true ∧
      armed m 16 hubPage = true ∧
      m.flash.swtDurable = 0 ∧ ∃ t, exec (.resetEnd 0 0 0) State.reset = .next t := by
  refine ⟨by decide +kernel, by decide +kernel, by decide +kernel, by decide +kernel, by decide +kernel, by decide +kernel, _, rfl⟩

/-- VF 15 is enabled and takes memory requests, and ring 65535 is its own. -/
def vfReady (R : Ring) : State :=
  { ready with pci := { Pci.zero with vfEnable := true, vfMse := true } }.setRing 65535 { R with part := 15 }

theorem witness_Doorbells :
    let on := { commandRing 0 with mode := .on, tail := 0 }
    let s := vfReady on
    let v (q : Nat) := q * 2 ^ 32 + 65535
    let rel (released head : Nat) := vfReady { on with rsEn := true, released := released, head := head }
    (fnClaims s 15 = true ∧ devReady s = true ∧ (s.fn 15).d3hot = false ∧ (s.fn 15).draining = false ∧ bits (v 3) 15 0 = 65535 ∧
      bits (v 3) 63 32 = 3 ∧ bits (v 3) 31 16 = 0 ∧ (s.ring 65535).mode ≠ .off ∧ mayName s 15 65535 = true ∧
      mayName s 15 0 = false ∧ (s.ring 65535).kind ≠ 2 ∧ sub32 3 0 < 2 ^ 31 ∧ sub32 3 0 ≤ (s.ring 65535).slots ∧
      (s.ring 65535).slots < sub32 4 0) ∧
    ((s.ring 65535).rsEn = false ∧ ((rel 0 1).ring 65535).kind ≠ 2 ∧ ((rel 0 1).ring 65535).rsEn = true ∧ ((rel 0 1).ring 65535).rsSpace = 0 ∧ sub32 (0 + 1) 0 ≠ 0 ∧ sub32 (0 + 1) 0 < 2 ^ 31 ∧
      sub32 ((rel 0 1).ring 65535).head (0 + 1) < 2 ^ 31 ∧ 2 ^ 31 ≤ sub32 ((rel 0 0).ring 65535).head (0 + 1)) := by
  decide +kernel

theorem witness_ApertureAndSlots :
    let s := ((vfReady Ring.zero).setReg 30 (pciPage + 0x154) (2 ^ 31 + 511)).setReg 15 (pciPage + 0x114) (2 ^ 31)
    let w := ready.setSel 16 (pciPage + 0x130) 65535
    (fnClaims s 15 = true ∧ s.start.state = 1 ∧ (s.fn 15).d3hot = false ∧ (s.fn 15).draining = false ∧
      aperSegment 15 (2 ^ 32 - 4096) ≠ none ∧ oneBlock (2 ^ 32 - 4096) 4096 = true ∧
      aperAddr s 15 (2 ^ 32 - 4096) 4096 = some (2 ^ 41 - 4096) ∧ hbmMeets s 4 (2 ^ 41 - 4096) 4096 = true ∧
      hbmMeets { s with dies := { Dies.zero with bridgeDown := [3] } } 4 (2 ^ 41 - 4096) 4096 = false ∧
      hbmStoreFails s (2 ^ 41 - 4096) 4096 = false ∧ hbmReadFails s (2 ^ 41 - 4096) 4096 = false ∧
      hbmReadFails { s with stackSet := { Stacks.zero with badSectors := [2 ^ 36 - 1] } } (2 ^ 41 - 4096) 4096 = true ∧
      aperAddr (vfReady Ring.zero) 15 (2 ^ 32 - 4096) 4096 = none) ∧
    (mayWrite w 16 (keyPage 16 pciPage) = true ∧ w.sel 16 (pciPage + 0x130) = 65535 ∧ isVf 16 = false ∧ (w.ring 65535).mode = .off ∧
      ((w.setRing 65535 { commandRing 0 with mode := .on }).ring 65535).mode = .on) := by decide +kernel

theorem witness_Functions :
    let v := vfReady { commandRing 0 with mode := .on }
    let d := (ready.setFn 15 { Fn.zero with draining := true })
    let h := v.setFn 15 { Fn.zero with d3hot := true }
    let closed := { ready with start := Start.zero }
    let e : Flight := ⟨0, [], .running, some ⟨0, 1, 0, 0, 0, 0, 0, 0, false, false⟩, false, 0, 0⟩
    let q := (h.setRing 65535 { commandRing 0 with mode := .on, rsEn := true, fly := [e] }).ring 65535
    (configOpen v = true ∧ fnPresent v 15 = true ∧ (v.ring 65535).part = 15 ∧ (v.ring 65535).kind = 1) ∧
    ((d.fn 15).draining = true ∧ holdsWedge d 15 = false ∧ ∀ r, (d.ring r).part = 15 → (d.ring r).inFlight = 0) ∧
    ((v.fn 15).d3hot = false ∧ (v.fn 15).draining = false ∧ (h.fn 15).d3hot = true ∧ q.rsEn = true ∧ q.rsSpace = 0 ∧
      q.fly = [e] ∧ e.isDone = true ∧ sub32 q.head q.released < q.slots) ∧
    (configOpen closed = false ∧ closed.start.asserted = false ∧ configOpen ready = true ∧ (ready.fn 0).draining = false ∧
      ready.start.state ≠ 2) := by
  refine ⟨by decide +kernel, ⟨by decide +kernel, by decide +kernel, fun r _ => rfl⟩, by decide +kernel, by decide +kernel⟩

/-- A start in a step, after a number of failures of that step. -/
def starting (k fails : Nat) : State :=
  { State.reset with start := { Start.zero with step := k, stepUs := 0 }, flash := { Flash.first with steps := [(k, ⟨fails, 0, 0, 0⟩)] } }

theorem witness_Mailbox :
    keysReady ready = true ∧ (List.replicate 32 (0 : Byte)).length = 32 ∧ (List.replicate 7251 (0 : Byte)).length = 7251 ∧
      pfMayWrite ready 16 secPage = true ∧ keysReady (starting 2 0) = false ∧ (starting 2 0).start.asserted = false ∧
      (starting 2 0).start.state = 0 ∧ 2 ≤ (starting 2 0).start.step := by decide +kernel

theorem witness_SvnCommits :
    let s := keyed { ready with sec := { Security.zero with svn := 63 } } secPage
    (pfMayWrite s 16 secPage = true ∧ armed s 16 secPage = true ∧ s.flash.svnFuse ≤ s.sec.svn ∧ s.sec.svn ≤ 63 ∧
      armed ready 16 secPage = false) ∧
    (∃ t, exec .powerDown ready = .next t) ∧
    imageSvn [] < ({ ready with flash := { ready.flash with svnFuse := 1 } }).flash.svnFuse := by
  refine ⟨by decide +kernel, ⟨_, rfl⟩, by decide +kernel⟩

theorem witness_ResetSources :
    let s := keyed ready rstPage
    let low := { ready with start := { ready.start with pwrOk := false } }
    let gone := { ready with start := { ready.start with asserted := true } }
    (s.start.asserted = false ∧ s.start.state ≠ 0 ∧ s.start.pwrOk = true ∧ s.start.perst = false ∧
      pfMayWrite s 16 rstPage = true ∧ armed s 16 rstPage = true ∧ s.hubUs < mgmtPeriod s ∧
        mgmtPeriod s ≤ (later s 60000000).hubUs) ∧ low.start.pwrOk = false ∧
    (ready.start.due = none ∧ hostHears (heard ready) = true ∧ serialOf ready = 0 ∧ packEpoch ready = 0) ∧
    (gone.start.asserted = true ∧ gone.start.holdUs = 0 ∧ gone.start.pwrOk = true ∧ gone.start.perst = false ∧
      gone.start.trip = false ∧ gone.fld 0 (rstPage + 0x104) 3 0 ≠ 6 ∧ (stepRec gone 1).fails < 3) := by decide +kernel

theorem witness_StartSteps :
    (12 ∈ stepRegions (starting 7 0).start.step ∧ (starting 7 0).start.asserted = false) ∧
    (stepFaults (starting 8 2) 8 [] = 0 ∧ stepFaults (starting 8 1) 8 [.badControl 31] ≠ 0 ∧
      stepFaults (starting 5 1) 5 [] = 0 ∧ stepFaults (starting 6 1) 6 [.untrained 15 7] ≠ 0 ∧
      (starting 10 0).start.step = 10 ∧ (starting 10 0).ledger.closed.length < 2) ∧
    (darnBand (starting 7 0) [.badCore 0 (17 * 31 + 3) 255, .badCore 0 (17 * 31 + 5) 0] 0 31 = (some 3, 1) ∧
      faultyBands (starting 7 0) [.badCore 0 (17 * 31 + 16) 255] 0 (17 * 31 + 16) ≠ []) ∧
    ((starting 8 2).start.step = 8 ∧ (starting 8 2).start.state ≠ 2 ∧ (∀ g ∈ stepRegions 8, g ∈ (starting 8 2).start.released) ∧
      (stepRec (starting 8 2) 9).fails < 3 ∧ (stepRec (starting 8 1) 8).fails < 2 ∧ (stepRec (starting 8 2) 8).fails = 2) ∧
    ((starting 2 1).start.step = 2 ∧ bootSrc (starting 2 1) = 0 ∧ (stepRec (starting 2 1) 3).fails < 3 ∧
      (stepRec (starting 2 1) 2).fails < 2) ∧
    (let s := { starting 1 1 with hubUs := 20000 };
      (stepRec s 1).fails < 2 ∧ stepLimit s 1 ≤ s.hubUs - s.start.stepUs ∧ s.start.state ≠ 2) := by decide +kernel

theorem witness_ResetPageWrites :
    let s := keyed (starting 8 0) rstPage
    let r := keyed ready rstPage
    let b := { r with start := { r.start with block := some (3, 9) } }
    (earlyWrite s 16 rstPage = true ∧ s.start.state ≠ 2 ∧ armed s 16 rstPage = true ∧ s.start.state = 0) ∧
    (earlyWrite r 16 rstPage = true ∧ r.start.state ≠ 0 ∧ r.start.block = none ∧ blockRefused r 0 63 = false ∧
      blockRefused r 0 64 = true ∧ blockRefused r 3 9 = false ∧ blockRefused r 3 10 = true) ∧
    (blockAtRest { b with start := { b.start with block := some (1, 15) } } 1 15 = true) ∧
    (b.start.block = some (3, 9) ∧ blockAtRest b 3 9 = true ∧ earlyWrite b 16 rstPage = true) := by decide +kernel

/-- A token that opens poke and reset in this start. -/
def unlocked : State := { ready with flash := { ready.flash with token := some ⟨3, 1, 1⟩ } }

theorem witness_MonitorCommands :
    let load := (starting 2 0).setReg 0 (rstPage + 0x108) 3
    (ready.start.asserted = false ∧ ready.start.state ≠ 0 ∧ unlocked.start.state ≠ 0) ∧
    (monUnlocked unlocked 0 = true ∧ monUnlocked unlocked 1 = true ∧ monUnlocked ready 0 = false ∧ monUnlocked ready 1 = false) ∧
    (regionOf (2 ^ 26 - 4) ≠ 1 ∧ (2 ^ 26 - 4) % 4 = 0 ∧ 2 ^ 26 - 4 + 4 ≤ 2 ^ 26 ∧ (2 ^ 26 - 256) + 4 * 64 ≤ 2 ^ 26 ∧
      (2 ^ 26 - 8) % 8 = 0 ∧ (2 ^ 26 - 4096) % 4096 = 0) ∧
    (3000000 ∈ baudRates ∧ loadPossible load = true ∧ load.start.asserted = false ∧
      (List.replicate 8192 (0 : Byte)).length = 8192) := by decide +kernel

theorem witness_FilterMatches :
    let s := (ready.setReg 0 (monPage + 0x100) (2 ^ 31)).setReg 0 (monPage + 0x104) 0x8000
    (bit ((s.setReg 0 (monPage + 0x100) 0x8000).fld 0 (monPage + 0x100) 15 0) 15 = true ∧
      bit ((s.setReg 0 (monPage + 0x100) 0x8000).fld 0 (monPage + 0x100) 31 16) 15 = false) ∧
    (bit (s.fld 0 (monPage + 0x104) 15 0) 15 = true ∧ bit (s.fld 0 (monPage + 0x104) 31 16) 15 = false) ∧
    (bit ((ready.setReg 0 (monPage + 0x108) (2 ^ 31)).reg 0 (monPage + 0x108)) 31 = true ∧ pfMayWrite ready 16 monPage = true) ∧
    (∃ t, exec (.registerWrite 16 (monPage + 0x100) 4 5) ready = .next t) := by
  refine ⟨by decide +kernel, by decide +kernel, by decide +kernel, _, rfl⟩

theorem witness_TraceAndSmbus :
    let r : TraceRec := ⟨0, 9, 1, 0, 0, 0, 0, 0, 0⟩
    let q : TraceRec := ⟨0, 8, 1, 0, 0, 0, 0, 0, 0⟩
    let on (cfg : Nat) (fly held : List TraceRec) (lost : Nat) := { ready.setReg 0 (monPage + 0x140) cfg with
      monitor := { Monitor.zero with fly := fly, held := held, lost := lost } }
    let cfg := 2 ^ 31 + 2 ^ 30 + 10 * 2 ^ 21 + 0x1FF
    (let s := on cfg [q, r] [] 0;
      s.monitor.fly[1]? = some r ∧ (∀ x ∈ s.monitor.fly.take 1, x.source ≠ r.source) ∧ traceTakes s = true ∧
        s.monitor.held.length < 256 ∧ bit (s.reg 0 (monPage + 0x140)) 8 = true ∧
        pfMayWrite s 16 monPage = true ∧ 4 ≤ crossHeld { s with pci := { Pci.zero with xing := [(2, 4)] } } 2) ∧
    (let s := on cfg [r] (List.replicate 256 q) 0;
      s.monitor.fly[0]? = some r ∧ (∀ x ∈ s.monitor.fly.take 0, x.source ≠ r.source) ∧ traceTakes s = true ∧
        256 ≤ s.monitor.held.length) ∧
    (let s := on cfg [] [r] 0;
      bit (s.reg 0 (monPage + 0x140)) 31 = true ∧ traceRoom s = true ∧ s.monitor.lost = 0 ∧ s.monitor.held = [r] ∧
        bit (s.reg 0 (monPage + 0x140)) 30 = true) ∧
    (let s := on cfg [] [r] 1; traceRoom s = true ∧ 0 < s.monitor.lost ∧ s.monitor.held.length < 256) ∧
    (bit (ready.reg 0 (monPage + 0x140)) 31 = false ∧ bits (26 * 2 ^ 21) 26 21 = 26 ∧ 26 < bits (27 * 2 ^ 21) 26 21 ∧
      bits (9 * 2 ^ 21) 26 21 < 10) ∧
    (smbusTakes ready true = true ∧ 20 ∉ ready.power.stopped) := by decide +kernel

theorem witness_RegisterWrites :
    let s := ready.setSel 16 (loomPage 7 + 0x170) 63
    let far := s.setReg 63 (loomPage 7 + 0x17C) (2 ^ 21)
    let k := keyed ready (portPage 63)
    let early := starting 8 0
    (pfMayWrite s 16 (loomPage 7) = true ∧ s.sel 16 (loomPage 7 + 0x170) = 63 ∧ bit (wrtCtrl s 7 63) 31 = false ∧
      wrtRefuses s 7 63 = false ∧ wrtRefuses far 7 63 = true) ∧
    (mayWrite k 16 (keyPage 16 (portPage 63)) = true ∧ isVf 16 = false ∧ portPage 63 < 2 ^ 26 ∧ portPage 63 % 4096 = 0 ∧
      (pageRegs (regionOf (portPage 63)) (instOf (portPage 63))).isSome = true ∧ armed k 16 (portPage 63) = true ∧
      armed ready 16 (portPage 63) = false ∧ 4 % 2 ^ 32 &&& errBits (portPage 63) ≠ 0 ∧
        bit (4 &&& errBits (portPage 63)) 2 = true) ∧
    (mayWrite (vfReady Ring.zero) 15 (keyPage 15 0) = true ∧ isVf 15 = true) ∧
    (earlyWrite early 16 hubPage = true ∧ early.start.state = 0 ∧ early.start.step = 8 ∧ hubPage % 4096 = 0 ∧ regionOf hubPage ≠ 1 ∧
      regionOf hubPage ≠ 3) := by decide +kernel

theorem witness_QuadrantTargets :
    let s := ready.setRing 65535 { commandRing 0 with mode := .on, phase := 7, fly := [held 0 [] .running] }
    (65535, s.ring 65535) ∈ s.rings ∧ dieOfRing 65535 = 3 ∧ ringStateCode (s.ring 65535) = 2 ∧ admittedRings s = [] ∧
      admittedRings (s.setRing 65535 { s.ring 65535 with admState := 2 }) ≠ [] ∧ ready.rings = [] := by decide +kernel

theorem witness_MerkleTree :
    (List.replicate 4096 ([] : List Byte)).length = 4096 ∧ 2 ^ 11 < 4096 ∧ 4096 ≤ 2 ^ (11 + 1) ∧ Block.zero.receipts = [] ∧
      ({ Block.zero with receipts := [[]] }).receipts ≠ [] := by decide +kernel

/-! ## Ill-formed commands, and worked examples of the spec -/

/-- No flag of an object. -/
def noFlags : ObjFlags := ⟨false, false, false, false, 0, 0, 0⟩

/-- For each bound of `Instr.wf`, a command that breaks it alone. -/
theorem test_ill_formed_a : ([
    .loomGemm 64, .loomFence 64, .loomSetPanels 64, .drainComplete 64, .loomCommandDone 64, .coreFire 8 0 0 0,
     .coreFire 0 512 0 0, .coreFire 0 0 256 0, .warpLoad 8 0 0 0, .warpLoad 0 256 0 0, .warpLoad 0 0 256 0,
     .fellSumEntry 8 0 0, .fellSumEntry 0 256 0, .fellRowTake 64 0, .gaugeTick 8 0 [] [], .faultDrainDone 64,
     .pnlResume 50 0, .pnlResume 0 64, .wedgeDetect 64, .drainInterval 8] : List Instr).all (fun i => !i.wf) = true := by
  decide +kernel

theorem test_ill_formed_b : ([
    .wait 65536, .signal 65536, .arrive 65536, .reqOpen 65536, .reqClose 65536, .pwrPhase 65536, .pwrRestore 65536,
     .flush 65536, .rtvCopy 65536, .rtvFill 65536, .rtvKick 65536, .dataRingClaim 10 0, .requestIssue 10 0,
     .requestLand 10 0 [], .rtvChArm 50 0 0, .rtvChArm 0 10 0, .rtvChCancel 50 0 0, .rtvChCancel 0 10 0,
     .trickleWrite 8 0 [], .trickleWrite 0 (2 ^ 26 - 1) [0, 0]] : List Instr).all (fun i => !i.wf) = true := by
  decide +kernel

theorem test_ill_formed_c : ([
    .trickleWrite 7 (2 ^ 26) [], .trickleWordWrite 10 0, .trickleWordWrite 0 8, .trickleTimeout 10 0,
     .trickleTimeout 0 8, .trickleFlush 50 0 0, .trickleFlush 0 10 0, .trickleDisable 50 0 0, .trickleDisable 0 10 0,
     .trickleGetWrite 50 0 0, .trickleGetWrite 0 10 0, .ringConfigWrite 50 0 0 0, .ringConfigWrite 0 4 0 0,
     .ringConfigWrite 0 0 256 0, .ringTailWrite 50 0 0, .ringTailWrite 0 4 0, .ringStart 50 0 0, .ringStart 0 4 0,
     .ringStop 50 0 0, .ringStop 0 4 0] : List Instr).all (fun i => !i.wf) = true := by
  decide +kernel

theorem test_ill_formed_d : ([
    .ringCancel 50 0 0, .ringCancel 0 4 0, .cancelComplete 65536, .completionPost 65536 true, .syncObjOpSignal 50 0,
     .syncObjOpArrive 50 0, .syncObjWrite 50 0 0, .syncObjWrite 0 32 0, .syncBreak 50, .syncBrokenClear 50,
     .mirrorSubscribe 65536, .mirrorPush ⟨1024, 0, 0⟩ 0 0 true, .mirrorPush ⟨0, 0, 65536⟩ 0 0 true, .packSyncOp 1024 0 0 0 0 0, .packSyncOp 0 0 0 65536 0 0,
     .standbySyncForward ⟨1024, 0, 0⟩ 0 0 0 0 0 0 0 noFlags,
     .standbySyncForward ⟨0, 0, 65536⟩ 0 0 0 0 0 0 0 noFlags, .queueWatchdog 65536, .arbGrant 584 0, .arbUnitDone 584,
     .arbFreeze 50 0, .arbFreeze 0 4096] : List Instr).all (fun i => !i.wf) = true := by
  decide +kernel

theorem test_ill_formed_e : ([
    .arbUnfreeze 50 0, .arbUnfreeze 0 4096, .arbWaitClear 50 0, .arbWaitClear 0 4096, .admissionRequest 50 0,
     .admissionRequest 0 4, .admissionRelease 50 0, .admissionRelease 0 4, .profile850 50 0, .junctionSensorRead 5 [],
     .regulatorFault 5, .regulatorShutdown 5, .clusterGate 4096, .clusterStartRequest 4096, .rampWave 4,
     .hbmSelfRefreshEnter 4, .islandClockStop 85, .islandWake 85, .closeNow 50 0, .ldgOutGetWrite 50 0] : List Instr).all (fun i => !i.wf) = true := by
  decide +kernel

theorem test_ill_formed_f : ([
    .hbmAccess (2 ^ 41) 0 0 0 0 0 0, .patrolRead (2 ^ 41) 0, .hbmRefresh 16 (0, 0), .hbmRefresh 0 (32, 0), .hbmTempRead 16 none,
     .hbmWinCfgWrite 50 0 0, .hbmWinCfgWrite 0 4 0, .hbmTempPeakClear 50 0, .hbmTempPeakClear 0 16,
     .bridgeBeat 4 0 0 true, .bridgeBeat 0 2 0 true, .bridgeBeat 0 0 16 true, .scheduleDigestCheck 32 0 [] [],
     .scheduleDigestCheck 0 65536 [] [], .coreWatchdogExpiry (32, 0), .portUp 64 0 0, .portTrainRetry 64,
     .flitReceive 64 0 0 0 0 0 0 0 0 [] 0, .nak 64 0, .idleFlitTimer 64] : List Instr).all (fun i => !i.wf) = true := by
  decide +kernel

theorem test_ill_formed_g : ([
    .livenessTimeout 64, .fecLockLost 64, .replayFullTimeout 64, .plkPortDownWrite 50 0, .plkPortDownWrite 0 64,
     .portDownMsg 1024 0 0 0, .portDownMsg 0 0 0 64, .heartbeat (1024, 0) 0 0, .memberLost 1024, .lost 1024 0 0 0,
     .lost 0 0 0 1024, .takeover 1024 0 0, .takeoverAccept 1024 0 0, .takeoverRefuse 1024 0 0,
     .join 1024 0 0 0 0 0 true true [], .joinReply 1024 0 0 0 0 0 0 (0, ⟨[], [], [], []⟩), .joinReply 0 0 0 0 1024 0 0 (0, ⟨[], [], [], []⟩),
     .routeTable 1024 0 0 [] ⟨[], [], []⟩ [], .mseqAck 1024 0 0 0 0, .lossScaleDecision 1024 0 0 0 0 true] : List Instr).all (fun i => !i.wf) = true := by
  decide +kernel

theorem test_ill_formed_h : ([
    .peerRequest 1024 0 (0, 0) 0 0 [], .peerRequest 0 0 (0, 0) 0 2049 [], .peerResponse 1024 0 0 [], .plkStopReq 50,
     .stop 1024 0 0 0, .stop 0 0 0 65536, .stopMarker 64 0 0 0, .cut 1024 0 0 0, .plkStopResume 50,
     .resume 1024 0 0 0 0, .resume 0 0 0 65536 0, .swatchCapture 50, .swatch 1024 0 0 0 0 0, .swatchDone 1024 0 0 0 0,
     .restore 1024 0 0 0 0 0 0 none, .restored 1024 0 0 0 0, .restoreHost 50, .fill 1024 0 0 0 0 0 (0, 0) (none, none),
     .fill 0 0 0 1024 0 0 (0, 0) (none, none), .fill 0 0 0 0 0 1025 (0, 0) (none, none)] : List Instr).all (fun i => !i.wf) = true := by
  decide +kernel

theorem test_ill_formed_i : ([
    .swtRateReset 50, .swtDurableWrite 50 0, .dbTail 32 0 0 0, .dbTail 0 4096 0 0, .dbRelease 32 0 0 0,
     .dbRelease 0 4096 0 0, .apertureWrite 16 0 [], .apertureRead 16 0 0 true, .rsCfgWrite 50 0, .functionLevelReset 16,
     .flrDrainDone 16, .d3hotEntry 16, .d0Entry 16, .deviceReset 50, .releaseWaveDone 13, .loadDone 50, .clearSteps 50,
     .blockReset 50 0 0, .blockReset 0 4 0, .blockReset 0 0 128] : List Instr).all (fun i => !i.wf) = true := by
  decide +kernel

theorem test_ill_formed_j : ([
    .svnCommit 50, .secLock 50, .monTrcTrigger 50 0, .monTrcEnable 50 0, .monFiltClear 50 0, .wrtValidWrite 50 0 0,
     .wrtValidWrite 0 8 0, .wrtUnbind 50 0 0, .wrtUnbind 0 8 0, .errInject 50 0 0, .errInject 0 4 0,
     .registerWrite 50 0 0 0, .reservedOpcode 65536, .slotReadFailure 65536, .regulatorFaultClear 5, .scrubLate 16,
     .configurationRequest 16 0 0, .unexpectedCompletion 16] : List Instr).all (fun i => !i.wf) = true := by
  decide +kernel

theorem test_ill_formed_faults : exec (.signal 65536) ready = .fault .noSuchUnit := rfl

theorem test_no_word_is_a_command : decodeTableWord 8 1 = none ∧ (ready.withFetchWord 8 1) = ready := ⟨rfl, rfl⟩

/-- The worked example of the HBM address map: 512 bytes at 0xC0_0345_6700. -/
theorem test_address_map :
    stackOf ready 0xC003456700 = 4 ∧ hbmArb ready 0xC003456700 = 32 * 4 + 16 + 9 ∧
      channelOffset false 0xC003456700 = 0x80068A00 ∧ stackOf ready 0xC003456800 = 7 ∧
      hbmArb ready 0xC003456800 = 32 * 7 + 16 + 10 := by decide +kernel

/-- The worked example of darning: Loom 6 with bands 3 (row 5) and 20 (row 0) darned. -/
theorem test_darned_rows :
    let s := ((ready.setReg 0 (loomPage 6 + 0x120) (2 ^ 3 + 2 ^ 20)).setReg 0 (loomPage 6 + 0x128) (5 * 2 ^ 12))
    [52, 53, 319, 320, 511].map (fun r => (rowPhys s 6 r, rowOffset s 6 r)) =
      [(55, 52), (57, 54), (338, 320), (341, 322), (542, 513)] := by decide +kernel

/-- With column band 5 retired and seams 2 and 4 cut, its panels are 64, 48 and 128 columns wide. -/
theorem test_panel_widths :
    let s := (ready.setReg 0 (loomPage 6 + 0x124) (2 ^ 5)).setFld 0 (loomPage 6 + 0x110) 6 0 0b1010
    [48, 50, 52].map (panelWidth s) = [64, 48, 128] := by decide +kernel

/-- The worked example of a scaled block: E4M3, block size 16. -/
theorem test_scaled_block :
    let ys := [0x43EB0000, 0x40466666, 0x3B449BA6, 0xBA51B717].map f32OfBits ++ List.replicate 12 (f32OfBits 0x42C80000)
    let q (sr : List (Option Nat)) := quantBlock 0 ys (sr ++ List.replicate 14 none)
    (q [none, none]).1 = 0x80 ∧ (q [none, none]).2.1.take 4 = [0x77, 0x3C, 0x01, 0x80] ∧
      (q [none, some 5905470]).2.1[1]? = some 0x3D ∧ (q [none, some 6710880]).2.1[1]? = some 0x3C := by decide +kernel

/-- The worked example of a stack that heats: its steps. -/
theorem test_stack_steps :
    [85, 86, 89, 92, 95, 93, 92, 88].foldl (fun a t => a ++ [nextStep (a.getLast?.getD 0) t]) [] = [0, 1, 2, 3, 4, 4, 3, 2] := by
  decide +kernel

/-- The worked example of a counter that wraps. -/
theorem test_wait_wraps :
    [0xFFFFFFFE, 0xFFFFFFFF, 0].map (fun v => waitSatisfied v 0) = [false, false, true] ∧ add32 0xFFFFFFFF 1 = 0 := by
  decide +kernel

/-- The worked example of a barrier of three: GEN, ARRIVED and EARLY after each arrival, and the two refused ones. -/
theorem test_barrier_runs :
    let arrive (x : SyncObj) (g : Nat) := arrivedObj x g
    let x0 := { barrierOf 3 with gen := 0xFE }
    let run := [0xFE, 0xFE, 0xFF, 0x00, 0xFF, 0xFF, 0xFE, 0xFF, 0xFF].foldl
      (fun a g => a ++ [arrive (a.getLast?.getD x0) g]) ([] : List SyncObj)
    run.map (fun x => (x.gen, x.arrived, x.early)) =
      [(0xFE, 1, 0), (0xFE, 2, 0), (0xFE, 2, 1), (0xFE, 2, 1), (0xFE, 2, 2), (0xFE, 2, 2), (0xFF, 2, 0), (0, 0, 0), (0, 0, 0)] ∧
      run.map (fun x => (x.misuse, x.saturated)) =
        [(false, false), (false, false), (false, false), (true, false), (true, false), (true, true), (true, true), (true, true),
          (true, true)] := by decide +kernel

/-- The worked example of admission on die LD1: ring C is admitted with GRANT 8,000 ns. CLK_MODE is 01, which takes nothing off the
HBM rate (R402). -/
theorem test_admission :
    let R : Ring := { commandRing 2 with outMode := 1, tagQuota := 1, admDies := 2, admState := 2 }
    let s := (((ready.setFld 0 (rstPage + 0x108) 5 4 1).setRing 16384 { R with admInput := 6, admRate := 40000, admLargest := 65536, admNeed := 2500, admGrant := 2500 }).setRing
      16385 { R with admRate := 600000, admLargest := 2097152, admNeed := 8000, admGrant := 8000 }).setRing
      16386 { R with admState := 1, admRate := 400000, admLargest := 1048576, admNeed := 8000 }
    admitRing s 16386 = some 8000 ∧
      boundOver (admBound s (admittedRings s) (s.ring 16386)) 6851 = true ∧
      boundOver (admBound s (admittedRings s) (s.ring 16386)) 6853 = false := by decide +kernel

/-- The worked example of the loss scale: GROWTH 2,000, s = 18 and CLEAN = 1,999, with and without an overflow. -/
theorem test_loss_scale :
    let s := (ready.setReg 0 (hubPage + 0x130) (1999 * 2 ^ 16 + 18)).setReg 0 (hubPage + 0x134) (48 * 2 ^ 24 + 2000)
    lossStep s true = (17, 0) ∧ lossStep s false = (19, 0) := by decide +kernel

/-- SHA3-512 of the empty string (FIPS 202). -/
theorem test_hash_of_nothing :
    (Machine.hash []).take 8 = [0xA6, 0x9F, 0x73, 0xCC, 0xA2, 0x3A, 0x9A, 0xC5] := by decide +kernel

/-- The worked example of a keyed CANCEL: the second write of the same command finds KEY cleared. -/
theorem test_cancel_needs_key :
    let s := (({ ready with pci := Pci.zero }.setFn 0 { Fn.zero with memSpace := true }).setRing 23047
      { commandRing 2 with mode := .on }).setReg 0 0xB01000 0
    let go (s : State) (i : Instr) := after i s
    let s3 := go (go (go s (.registerWrite 0 0xB01100 4 0x1A07)) (.registerWrite 0 0xB01028 4 0xA5)) (.registerWrite 0 0xB01220 4 0x20)
    (s3.ring 23047).mode = .cancelling ∧ s3.sel 0 0xB01028 = 0 ∧
      bit ((go s3 (.registerWrite 0 0xB01220 4 0x20)).reg 0 0xB01018) 30 = true := by decide +kernel

/-- A microsecond of the hub timer passes where no command waits. -/
theorem test_idle_step : ∃ t, step ready = .next t ∧ t.hubUs = 1 := ⟨_, rfl, by decide +kernel⟩

end Sys2Proof.Tests
end

section
/-! Arbiters: the choice of a grant decision (R185, R186), what a grant and the end of a unit of service do to their arbiter
(R187, R188, R203), and the register writes that reach an arbiter (R14, R188, R203). -/

namespace Sys2Proof.Machine

open Sys2Proof

/-! ## Quiet steps -/

/-- Memory, the parts of `Aside`, rings and sync objects stand as before. -/
structure Quiet (s t : State) : Prop where
  calm : Calm s t
  rings : SameRings s t
  objs : SameObjs s t

theorem Quiet.refl (s : State) : Quiet s s :=
  ⟨⟨fun _ => ⟨rfl, rfl⟩, rfl, rfl, rfl, rfl, rfl⟩, fun _ => rfl, fun _ => rfl⟩

theorem Quiet.setArb {s t : State} (h : Quiet s t) (a : Nat) (v : Arb) : Quiet s (t.setArb a v) := ⟨h.calm, h.rings, h.objs⟩

theorem Quiet.setReg {s t : State} (h : Quiet s t) (i a v : Nat) : Quiet s (t.setReg i a v) := ⟨h.calm, h.rings, h.objs⟩

theorem Quiet.count {s t : State} (h : Quiet s t) (i a n : Nat) : Quiet s (t.count i a n) := h.setReg i a _

theorem Quiet.noteWait {s t : State} (h : Quiet s t) (a input w : Nat) : Quiet s (noteWait t a input w) := h.setReg _ _ _

theorem Quiet.activity {s t : State} (h : Quiet s t) (source cls n : Nat) (ring : Option Nat) :
    Quiet s (activity t source cls n ring) := ⟨h.calm, h.rings, h.objs⟩

theorem Quiet.sendFlit {s t : State} (h : Quiet s t) (p : Nat) (q : ArbReq) : Quiet s (sendFlit t p q) :=
  ⟨h.calm, h.rings, h.objs⟩

theorem Quiet.crossDies {s t : State} (h : Quiet s t) (e d len input who tag : Nat) (ring : Option Nat) :
    Quiet s (crossDies t e d len input who tag ring) := by
  obtain ⟨ar, eq⟩ := crossDies_shape t e d len input who tag ring
  rw [eq]
  exact ⟨h.calm, h.rings, h.objs⟩

theorem Quiet.wakeIsland {s t : State} (h : Quiet s t) (i : Nat) : Quiet s (wakeIsland t i) := by
  obtain ⟨rg, st, po, eq⟩ := wakeIsland_shape t i
  rw [eq]
  exact ⟨h.calm, h.rings, h.objs⟩

theorem OtherArbs.setArb {s t : State} {ks : List Nat} (h : OtherArbs s t ks) {a : Nat} (ha : a ∈ ks) (v : Arb) :
    OtherArbs s (t.setArb a v) ks := fun k hk => by
  rw [State.arb_setArb_ne t v (fun e : k = a => hk (e ▸ ha)), h k hk]

theorem OtherArbs.setReg {s t : State} {ks : List Nat} (h : OtherArbs s t ks) (i a v : Nat) : OtherArbs s (t.setReg i a v) ks :=
  fun k hk => (State.arb_setReg t i a v k).trans (h k hk)

/-- A command on a unit that the package has answers its state. -/
theorem answers_of_onUnit {i : Instr} {s t : State} {ok : Bool} {P : State → Prop} (he : exec i s = onUnit ok t)
    (hok : ok = true) (h : P t) : Answers i s P :=
  ⟨t, he.trans (onUnit_eq_next.mpr ⟨hok, rfl⟩), h⟩

/-- Keys of two registers whose offsets differ are different, whatever their indices. -/
theorem regKey_ne_of_off_ne {i a j b : Nat} (ha : a < 2 ^ 32) (hb : b < 2 ^ 32) (h : a ≠ b) : regKey i a ≠ regKey j b :=
  fun e => h ((regKey_inj ha hb).mp e).2

/-! ## The choice of a decision (R185, R186) -/

theorem le_maxOf {x : Nat} {l : List Nat} (h : x ∈ l) : x ≤ maxOf l := by
  induction l with
  | nil => cases h
  | cons a r ih =>
    rcases List.mem_cons.mp h with rfl | h
    · exact Nat.le_max_left _ _
    · exact Nat.le_trans (ih h) (Nat.le_max_right _ _)

theorem maxOf_mem {l : List Nat} (h : l ≠ []) : maxOf l ∈ l := by
  induction l with
  | nil => exact absurd rfl h
  | cons a r ih =>
    rw [maxOf]
    by_cases hle : maxOf r ≤ a
    · rw [Nat.max_eq_left hle]
      exact List.mem_cons_self
    · have hr : r ≠ [] := fun e => hle (e ▸ Nat.zero_le a)
      rw [Nat.max_eq_right (Nat.le_of_not_le hle)]
      exact List.mem_cons_of_mem _ (ih hr)

theorem input_lt_topInput {q : ArbReq} {qs : List ArbReq} (h : q ∈ qs) : q.input < topInput qs :=
  le_maxOf (List.mem_map_of_mem h)

theorem exists_input_eq_topInput {qs : List ArbReq} (h : qs ≠ []) : ∃ q ∈ qs, q.input + 1 = topInput qs :=
  List.mem_map.mp (maxOf_mem fun e => h (List.map_eq_nil_iff.mp e))

theorem ageOf_le_of_beats {A : Arb} {a b : ArbReq} (h : beats A a b = true) :
    ageOf A b.input b.requester ≤ ageOf A a.input a.requester := by
  simp only [beats, Bool.or_eq_true, Bool.and_eq_true, decide_eq_true_eq] at h
  omega

theorem ageOf_le_of_not_beats {A : Arb} {a b : ArbReq} (h : ¬ beats A a b = true) :
    ageOf A a.input a.requester ≤ ageOf A b.input b.requester := by
  simp only [beats, Bool.or_eq_true, Bool.and_eq_true, decide_eq_true_eq] at h
  omega

/-- There is a winner wherever there is a request. -/
theorem winner_isSome {A : Arb} {qs : List ArbReq} (h : qs ≠ []) : ∃ w, winner A qs = some w := by
  cases qs with
  | nil => exact absurd rfl h
  | cons q r =>
    unfold winner
    split
    · exact ⟨_, rfl⟩
    · split <;> exact ⟨_, rfl⟩

/-- The winner is one of the requests, and none of them is older (R186). -/
theorem winner_spec {A : Arb} {qs : List ArbReq} {w : ArbReq} (h : winner A qs = some w) :
    w ∈ qs ∧ ∀ q ∈ qs, ageOf A q.input q.requester ≤ ageOf A w.input w.requester := by
  induction qs generalizing w with
  | nil => cases h
  | cons q r ih =>
    unfold winner at h
    split at h
    · next hn =>
      obtain rfl := Option.some.inj h
      cases r with
      | nil => exact ⟨List.mem_cons_self, fun x hx => List.mem_singleton.mp hx ▸ Nat.le_refl _⟩
      | cons x r =>
        obtain ⟨v, hv⟩ := winner_isSome (A := A) (List.cons_ne_nil x r)
        rw [hn] at hv
        cases hv
    · next v hv =>
      obtain ⟨hmem, hage⟩ := ih hv
      split at h
      · next hb =>
        obtain rfl := Option.some.inj h
        refine ⟨List.mem_cons_self, fun x hx => ?_⟩
        rcases List.mem_cons.mp hx with rfl | hx
        · exact Nat.le_refl _
        · exact Nat.le_trans (hage x hx) (ageOf_le_of_beats hb)
      · next hb =>
        obtain rfl := Option.some.inj h
        refine ⟨List.mem_cons_of_mem _ hmem, fun x hx => ?_⟩
        rcases List.mem_cons.mp hx with rfl | hx
        · exact ageOf_le_of_not_beats hb
        · exact hage x hx

/-- The winner's age is 0 after the decision, whoever else waits at its input (R186). -/
theorem mget_agedAfter_winner (A : Arb) (input requester : Nat) (qs : List ArbReq) :
    mget (agedAfter A input requester qs) (input * 1024 + requester) 0 = 0 := by
  induction qs with
  | nil => exact mget_mset _ _ _ _
  | cons q r ih =>
    unfold agedAfter
    simp only
    split
    · next h => rw [mget_mset_ne _ _ _ _ (by omega), ih]
    · exact ih

theorem mem_arbWaiting_of_mem_arbCandidates {s : State} {a : Nat} {q : ArbReq} (h : q ∈ arbCandidates s a) :
    q ∈ arbWaiting s a := by
  unfold arbCandidates at h
  split at h
  · exact (List.mem_filter.mp h).1
  · exact h

/-- A withheld command slot goes to input 7 alone (R159). -/
theorem input_eq_seven_of_slotWithheld {s : State} {a : Nat} {q : ArbReq} (h : q ∈ arbCandidates s a)
    (hw : slotWithheld s a = true) : q.input = 7 := by
  rw [arbCandidates, if_pos hw] at h
  obtain ⟨-, h7⟩ := List.mem_filter.mp h
  exact eq_of_beq h7

/-- A candidate does not wait at its limiter (R190). -/
theorem overLimit_of_mem_arbCandidates {s : State} {a : Nat} {q : ArbReq} (h : q ∈ arbCandidates s a) :
    overLimit s a q = false := by
  obtain ⟨-, hs⟩ := List.mem_filter.mp (mem_arbWaiting_of_mem_arbCandidates h)
  refine Bool.eq_false_iff.mpr fun ho => ?_
  rw [arbServable, if_pos ho] at hs
  cases hs

/-- A decision's requests: the candidates of the highest input. -/
def topCandidates (s : State) (a : Nat) : List ArbReq :=
  (arbCandidates s a).filter fun q => q.input == topInput (arbCandidates s a) - 1

/-- A winner among the candidates of the highest input is a candidate; no candidate has a higher input, and none of its own
input is older (R185, R186). -/
theorem winner_topCandidates_spec {s : State} {a : Nat} {w : ArbReq} (h : winner (s.arb a) (topCandidates s a) = some w) :
    w ∈ arbCandidates s a ∧ w.input = topInput (arbCandidates s a) - 1 ∧ (∀ q ∈ arbCandidates s a, q.input ≤ w.input) ∧
      ∀ q ∈ arbCandidates s a, q.input = w.input →
        ageOf (s.arb a) q.input q.requester ≤ ageOf (s.arb a) w.input w.requester := by
  obtain ⟨hw, hage⟩ := winner_spec h
  obtain ⟨hmem, hin⟩ := List.mem_filter.mp hw
  have htop : w.input = topInput (arbCandidates s a) - 1 := eq_of_beq hin
  refine ⟨hmem, htop, fun q hq => ?_, fun q hq e => hage q (List.mem_filter.mpr ⟨hq, beq_iff_eq.mpr (e.trans htop)⟩)⟩
  have := input_lt_topInput hq
  omega

theorem topCandidates_ne_nil {s : State} {a : Nat} (h : arbCandidates s a ≠ []) : topCandidates s a ≠ [] := by
  obtain ⟨q, hq, e⟩ := exists_input_eq_topInput h
  exact List.ne_nil_of_mem (List.mem_filter.mpr ⟨hq, beq_iff_eq.mpr (Nat.eq_sub_of_add_eq e)⟩)

/-! ## A grant -/

/-- An arbiter that has granted a request: a command slot has passed at a pseudo-channel, the request is served, and its input's
ages, round-robin place and limiter have taken note (R185, R186, R190). -/
def grantedArb (s : State) (a : Nat) (w : ArbReq) : Arb :=
  let A := s.arb a
  { A with
    slot := if a < 512 then (A.slot + 1) % 8 else A.slot
    waiting := dropOne w A.waiting
    serving := some w
    ages := agedAfter A w.input w.requester (topCandidates s a)
    last := mset A.last w.input w.requester 1023
    granted := putRising w.input A.granted
    debt := if limited a w.input && decide (w.moved = 0) then mset A.debt w.input (mget A.debt w.input 0 + w.bytes) 0
      else A.debt }

/-- A decision with a winner grants it, counts the grant and enters its wait. -/
theorem arbGrant_eq_of_winner {s : State} {a : Nat} {w : ArbReq} (ns : Nat) (hf : (s.arb a).frozen = false)
    (hs : (s.arb a).serving = none) (hw : winner (s.arb a) (topCandidates s a) = some w) :
    arbGrant s a ns = noteWait ((s.setArb a (grantedArb s a w)).count (arbSel a w.input) (arbPage a + 0x310) 1) a w.input
      (waitNs s w ns) := by
  obtain ⟨hmem, htop, -, -⟩ := winner_topCandidates_spec hw
  have hne : arbWaiting s a ≠ [] := List.ne_nil_of_mem (mem_arbWaiting_of_mem_arbCandidates hmem)
  simp only [topCandidates] at hw
  simp [arbGrant, hf, hs, hne, hw, grantedArb, topCandidates, htop]

/-- A decision sets one arbiter, and leaves memory, rings and objects alone. -/
theorem arbGrant_quiet (s : State) (a ns : Nat) : Quiet s (arbGrant s a ns) := by
  unfold arbGrant
  simp only
  split
  · exact .refl s
  · split
    · exact (Quiet.refl s).setArb _ _
    · exact (((Quiet.refl s).setArb _ _).count _ _ _).noteWait _ _ _

theorem arbGrant_otherArbs (s : State) (a ns : Nat) : OtherArbs s (arbGrant s a ns) [a] := by
  have sets (v : Arb) : OtherArbs s (s.setArb a v) [a] := OtherArbs.setArb (fun _ _ => rfl) List.mem_cons_self v
  unfold arbGrant
  simp only
  split
  · exact fun _ _ => rfl
  · split
    · exact sets _
    · exact sets _

/-- A decision without candidates lets at most a command slot pass. -/
theorem arbGrant_of_no_candidates {s : State} {a : Nat} (ns : Nat) (h : arbCandidates s a = []) :
    ∃ n, (arbGrant s a ns).arb a = { s.arb a with slot := n } := by
  unfold arbGrant
  simp only [h, List.filter_nil, winner]
  split
  · exact ⟨_, rfl⟩
  · exact ⟨_, State.arb_setArb _ _ _⟩

theorem arbPage_add_le (a : Nat) (h : a < arbCount) : arbPage a + 4096 ≤ 2 ^ 32 := by
  unfold arbCount at h
  unfold arbPage
  simp only [stackPage, hubPage, portPage, pageAddr]
  split
  · omega
  · split <;> omega

/-- ARB_GRANT as R185, R186, R190 and R203 have it, with R159's withheld slots. -/
theorem arbiterGrants : Sys2Proof.Claims.ArbiterGrants := by
  intro s a ns ha hf hs
  have quiet := arbGrant_quiet s a ns
  have others := arbGrant_otherArbs s a ns
  refine ⟨fun hne => ?_, fun hnil => ?_⟩
  · obtain ⟨w, hw⟩ := winner_isSome (A := s.arb a) (topCandidates_ne_nil hne)
    obtain ⟨hmem, -, hin, hage⟩ := winner_topCandidates_spec hw
    have hp := arbPage_add_le a ha
    have hkey : regKey (arbSel a w.input) (arbPage a + 0x310) ≠ regKey (arbSel a w.input) (arbPage a + 0x308) :=
      regKey_ne_of_off_ne (by omega) (by omega) (by omega)
    have eq := arbGrant_eq_of_winner ns hf hs hw
    have harb : (arbGrant s a ns).arb a = grantedArb s a w := by rw [eq]; simp [noteWait]
    refine answers_of_onUnit rfl (decide_eq_true ha) ⟨w, hmem, ?_⟩
    rw [harb]
    refine ⟨rfl, overLimit_of_mem_arbCandidates hmem, input_eq_seven_of_slotWithheld hmem, hin, hage,
      mget_agedAfter_winner _ _ _ _, rfl, ?debt, ?granted, ?wait, others, quiet.calm, quiet.rings, quiet.objs⟩
    case debt => exact fun hl hm => by simp [grantedArb, hl, hm]
    case granted => rw [eq, noteWait, Counted, State.reg_setReg_ne _ _ hkey, State.reg_count, State.reg_setArb]
    case wait => rw [eq, noteWait, State.reg_setReg, State.reg_count_ne _ _ hkey.symm, State.reg_setArb]
  · refine answers_of_onUnit rfl (decide_eq_true ha) ?_
    obtain ⟨n, hn⟩ := arbGrant_of_no_candidates ns hnil
    rw [hn]
    exact ⟨hs, rfl, rfl, others, quiet.calm, quiet.rings, quiet.objs⟩

/-! ## The end of a unit of service (R187) -/

/-- The state in which a unit has moved, before its arbiter takes note: a flit has left its port, or the beats of a set have
crossed their bridge (R187, R265). -/
def unitMoved (s : State) (a : Nat) (q : ArbReq) : State :=
  if 520 ≤ a then sendFlit s (a - 520) q
  else if 512 ≤ a then
    activity s (27 + (a - 512) / 2) 0 (unitBeats s ((a - 512) / 2) ((a - 512) % 2) q) q.ring
  else s

theorem unitMoved_quiet (s : State) (a : Nat) (q : ArbReq) : Quiet s (unitMoved s a q) := by
  unfold unitMoved
  split
  · exact (Quiet.refl s).sendFlit _ q
  · split
    · exact (Quiet.refl s).activity _ _ _ _
    · exact .refl s

@[simp] theorem arb_sendFlit (s : State) (p : Nat) (q : ArbReq) (k : Nat) : (sendFlit s p q).arb k = s.arb k := rfl

@[simp] theorem arb_unitMoved (s : State) (a : Nat) (q : ArbReq) (k : Nat) : (unitMoved s a q).arb k = s.arb k := by
  unfold unitMoved
  split
  · exact arb_sendFlit s _ q k
  · split <;> rfl

/-- A flit that leaves counts in its port's first counter alone. -/
theorem reg_sendFlit (s : State) (p : Nat) (q : ArbReq) {i b : Nat} (h : regKey i b ≠ regKey 0 (portPage p + 0x40)) :
    (sendFlit s p q).reg i b = s.reg i b :=
  State.reg_count_ne (i := 0) (a := portPage p + 0x40) _ 1 h

/-- A unit that moves counts in no arbiter's preemptions. -/
theorem reg_unitMoved_preempted {s : State} {a : Nat} (ha : a < arbCount) (q : ArbReq) (i : Nat) :
    (unitMoved s a q).reg i (arbPage a + 0x318) = s.reg i (arbPage a + 0x318) := by
  have hp := arbPage_add_le a ha
  unfold unitMoved
  split
  · next h =>
    have e : arbPage a = portPage (a - 520) := by simp [arbPage, show ¬ a < 512 by omega, show ¬ a < 520 by omega]
    rw [e] at hp ⊢
    exact reg_sendFlit s _ q (regKey_ne_of_off_ne (by omega) (by omega) (by omega))
  · split <;> rfl

section UnitDone

variable {s : State} {a : Nat} {q : ArbReq}

/-- The arbiter that has put the request in service back among those that wait, with its progress (R187). -/
def savedArb (s : State) (a : Nat) (q : ArbReq) : Arb :=
  { s.arb a with serving := none, waiting := { q with moved := q.moved + 1, since := s.hubUs } :: (s.arb a).waiting }

/-- What the arbiter does once a unit of the request in service has moved. -/
theorem arbUnitDone_eq (hs : (s.arb a).serving = some q) :
    arbUnitDone s a =
      if q.units ≤ q.moved + 1 then (unitMoved s a q).setArb a { s.arb a with serving := none }
      else if q.input + 1 < topInput (arbWaiting s a) then
        ((unitMoved s a q).setArb a (savedArb s a q)).count (arbSel a q.input) (arbPage a + 0x318) 1
      else if (s.arb a).frozen = true ∨
          (520 ≤ a ∧ ¬ arbServable (unitMoved s a q) a { q with moved := q.moved + 1 } = true) then
        (unitMoved s a q).setArb a (savedArb s a q)
      else (unitMoved s a q).setArb a { s.arb a with serving := some { q with moved := q.moved + 1 } } := by
  by_cases ht : q.input + 1 < topInput (arbWaiting s a) <;> simp [arbUnitDone, hs, ht, unitMoved, savedArb]

/-- The last unit ends the request. -/
theorem arbUnitDone_of_last (hs : (s.arb a).serving = some q) (hu : q.units ≤ q.moved + 1) :
    arbUnitDone s a = (unitMoved s a q).setArb a { s.arb a with serving := none } := by
  rw [arbUnitDone_eq hs, if_pos hu]

/-- A higher input that can be granted preempts the request, and the preemption is counted. -/
theorem arbUnitDone_of_higher (hs : (s.arb a).serving = some q) (hu : q.moved + 1 < q.units)
    (ht : q.input + 1 < topInput (arbWaiting s a)) :
    arbUnitDone s a =
      ((unitMoved s a q).setArb a (savedArb s a q)).count (arbSel a q.input) (arbPage a + 0x318) 1 := by
  rw [arbUnitDone_eq hs, if_neg (Nat.not_le.mpr hu), if_pos ht]

/-- A frozen arbiter saves the request at the unit's end (R188). -/
theorem arbUnitDone_of_frozen (hs : (s.arb a).serving = some q) (hu : q.moved + 1 < q.units)
    (ht : topInput (arbWaiting s a) ≤ q.input + 1) (hf : (s.arb a).frozen = true) :
    arbUnitDone s a = (unitMoved s a q).setArb a (savedArb s a q) := by
  rw [arbUnitDone_eq hs, if_neg (Nat.not_le.mpr hu), if_neg (Nat.not_lt.mpr ht), if_pos (.inl hf)]

/-- Otherwise the request goes on with its next unit, where a port can send it. -/
theorem arbUnitDone_of_goes_on (hs : (s.arb a).serving = some q) (hu : q.moved + 1 < q.units)
    (ht : topInput (arbWaiting s a) ≤ q.input + 1) (hf : (s.arb a).frozen = false)
    (hv : a < 520 ∨ arbServable (sendFlit s (a - 520) q) a { q with moved := q.moved + 1 } = true) :
    arbUnitDone s a =
      (unitMoved s a q).setArb a { s.arb a with serving := some { q with moved := q.moved + 1 } } := by
  have hstay : ¬ ((s.arb a).frozen = true ∨
      (520 ≤ a ∧ ¬ arbServable (unitMoved s a q) a { q with moved := q.moved + 1 } = true)) := by
    rintro (h | ⟨hp, hn⟩)
    · rw [hf] at h
      cases h
    · rw [unitMoved, if_pos hp] at hn
      exact hn (hv.resolve_left (by omega))
  rw [arbUnitDone_eq hs, if_neg (Nat.not_le.mpr hu), if_neg (Nat.not_lt.mpr ht), if_neg hstay]

/-- A unit's end leaves the state, or sets the one arbiter after the unit has moved, and may count a preemption. -/
theorem arbUnitDone_shape (s : State) (a : Nat) :
    arbUnitDone s a = s ∨ ∃ q v, arbUnitDone s a = (unitMoved s a q).setArb a v ∨
      arbUnitDone s a = ((unitMoved s a q).setArb a v).count (arbSel a q.input) (arbPage a + 0x318) 1 := by
  cases hs : (s.arb a).serving with
  | none => exact .inl (by simp [arbUnitDone, hs])
  | some q =>
    rw [arbUnitDone_eq hs]
    refine .inr ⟨q, ?_⟩
    split
    · exact ⟨_, .inl rfl⟩
    · split
      · exact ⟨_, .inr rfl⟩
      · split <;> exact ⟨_, .inl rfl⟩

theorem arbUnitDone_quiet (s : State) (a : Nat) : Quiet s (arbUnitDone s a) := by
  rcases arbUnitDone_shape s a with h | ⟨q, v, h | h⟩ <;> rw [h]
  · exact .refl s
  · exact (unitMoved_quiet s a q).setArb a v
  · exact ((unitMoved_quiet s a q).setArb a v).count _ _ _

theorem arbUnitDone_otherArbs (s : State) (a : Nat) : OtherArbs s (arbUnitDone s a) [a] := by
  have sets (q : ArbReq) (v : Arb) : OtherArbs s ((unitMoved s a q).setArb a v) [a] :=
    OtherArbs.setArb (fun k _ => arb_unitMoved s a q k) List.mem_cons_self v
  rcases arbUnitDone_shape s a with h | ⟨q, v, h | h⟩ <;> rw [h]
  · exact fun _ _ => rfl
  · exact sets q v
  · exact sets q v

end UnitDone

/-! ## A register access on its way (R14, R218) -/

theorem mem_span {k a n : Nat} : k ∈ span a n ↔ a ≤ k ∧ k < a + n := by
  induction n generalizing a with
  | zero => simp [span]
  | succ n ih => rw [span, List.mem_cons, ih]; omega

/-- A request that arrives changes the queue of its arbiter alone. -/
theorem arb_arbEnqueue_ne (s : State) {a k : Nat} (q : ArbReq) (h : k ≠ a) : (arbEnqueue s a q).arb k = s.arb k :=
  State.arb_setArb_ne s _ h

theorem arb_arbEnqueue_waiting (s : State) (a k : Nat) (q : ArbReq) :
    ∃ ws, (arbEnqueue s a q).arb k = { s.arb k with waiting := ws } := by
  by_cases h : k = a
  · subst h
    exact ⟨_, State.arb_setArb _ _ _⟩
  · exact ⟨_, arb_arbEnqueue_ne s q h⟩

theorem bridgePacket_otherArbs (s : State) (die dir len input who tag : Nat) (ring : Option Nat) (h : dir < 2) :
    OtherArbs s (bridgePacket s die dir len input who tag ring) (span 512 8) := fun k hk => by
  unfold bridgePacket
  split
  · rfl
  · refine arb_arbEnqueue_ne s _ fun e => hk (mem_span.mpr ?_)
    omega

theorem arb_bridgePacket_waiting (s : State) (die dir len input who tag k : Nat) (ring : Option Nat) :
    ∃ ws, (bridgePacket s die dir len input who tag ring).arb k = { s.arb k with waiting := ws } := by
  unfold bridgePacket
  split
  · exact ⟨_, rfl⟩
  · exact arb_arbEnqueue_waiting s _ k _

/-- Data that cross dies wait at arbiters of the bridges; on one die they wait at none. -/
theorem crossDies_otherArbs (s : State) (e d len input who tag : Nat) (ring : Option Nat) :
    OtherArbs s (crossDies s e d len input who tag ring) (if e = d then [] else span 512 8) := by
  unfold crossDies
  split
  · exact fun _ _ => rfl
  · intro k hk
    rw [bridgePacket_otherArbs _ d 1 len input who tag ring (by omega) k hk,
      bridgePacket_otherArbs s e 0 len input who tag ring (by omega) k hk]

theorem arb_crossDies_waiting (s : State) (e d len input who tag k : Nat) (ring : Option Nat) :
    ∃ ws, (crossDies s e d len input who tag ring).arb k = { s.arb k with waiting := ws } := by
  unfold crossDies
  split
  · exact ⟨_, rfl⟩
  · obtain ⟨_, h⟩ := arb_bridgePacket_waiting s e 0 len input who tag k ring
    obtain ⟨ws, h'⟩ := arb_bridgePacket_waiting (bridgePacket s e 0 len input who tag ring) d 1 len input who tag k ring
    exact ⟨ws, by rw [h', h]⟩

@[simp] theorem reg_crossDies (s : State) (e d len input who tag : Nat) (ring : Option Nat) (i a : Nat) :
    (crossDies s e d len input who tag ring).reg i a = s.reg i a := by
  obtain ⟨ar, h⟩ := crossDies_shape s e d len input who tag ring
  rw [h]
  rfl

@[simp] theorem arb_wakeIsland (s : State) (i k : Nat) : (wakeIsland s i).arb k = s.arb k := by
  obtain ⟨rg, st, po, h⟩ := wakeIsland_shape s i
  rw [h]
  rfl

/-- A wake counts in its island's counter alone. -/
theorem wakeIsland_otherRegs (s : State) (i : Nat) : OtherRegs s (wakeIsland s i) [(i, hubPage + 0x190)] := by
  intro j a h
  have hk : regKey j a ≠ regKey i (hubPage + 0x190) := h (i, hubPage + 0x190) List.mem_cons_self
  unfold wakeIsland
  split
  · rfl
  · simp only
    split
    · exact State.reg_count_ne _ 1 hk
    · rfl

/-- An access is its crossing of the bridges, which may wake the stack of its page. -/
theorem regTraffic_cases (s : State) (rq a size : Nat) {P : State → Prop}
    (cross : P (crossDies s (requesterDie rq) (pageDie a) size 6 rq 0 none))
    (wake : P (wakeIsland (crossDies s (requesterDie rq) (pageDie a) size 6 rq 0 none) (instOf a))) :
    P (regTraffic s rq a size) := by
  unfold regTraffic
  simp only
  split
  · exact wake
  · exact cross

theorem regTraffic_quiet (s : State) (rq a size : Nat) : Quiet s (regTraffic s rq a size) :=
  have h := (Quiet.refl s).crossDies (requesterDie rq) (pageDie a) size 6 rq 0 none
  regTraffic_cases s rq a size h (h.wakeIsland _)

@[simp] theorem sel_regTraffic (s : State) (rq a size j b : Nat) : (regTraffic s rq a size).sel j b = s.sel j b := by
  obtain ⟨ar, h⟩ := crossDies_shape s (requesterDie rq) (pageDie a) size 6 rq 0 none
  refine regTraffic_cases (P := fun t => t.sel j b = s.sel j b) s rq a size ?_ ?_
  · rw [h]
    rfl
  · obtain ⟨rg, st, po, h'⟩ := wakeIsland_shape (crossDies s (requesterDie rq) (pageDie a) size 6 rq 0 none) (instOf a)
    rw [h', h]
    rfl

/-- Arbiters that a requester's access to a page may wait at: those of the bridges, where it leaves its die (R14). -/
def crossedArbs (rq page : Nat) : List Nat := if requesterDie rq = pageDie page then [] else span 512 8

theorem regTraffic_otherArbs (s : State) (rq a size : Nat) : OtherArbs s (regTraffic s rq a size) (crossedArbs rq a) := by
  have h := crossDies_otherArbs s (requesterDie rq) (pageDie a) size 6 rq 0 none
  exact regTraffic_cases (P := fun t => OtherArbs s t (crossedArbs rq a)) s rq a size h
    fun k hk => (arb_wakeIsland _ _ k).trans (h k hk)

/-- An access leaves everything of an arbiter but its queue. -/
theorem arb_regTraffic_waiting (s : State) (rq a size k : Nat) :
    ∃ ws, (regTraffic s rq a size).arb k = { s.arb k with waiting := ws } := by
  have h := arb_crossDies_waiting s (requesterDie rq) (pageDie a) size 6 rq 0 k none
  refine regTraffic_cases (P := fun t => ∃ ws, t.arb k = { s.arb k with waiting := ws }) s rq a size h ?_
  rw [arb_wakeIsland]
  exact h

theorem regTraffic_otherRegs (s : State) (rq a size : Nat) :
    OtherRegs s (regTraffic s rq a size) [(instOf a, hubPage + 0x190)] :=
  regTraffic_cases (P := fun t => OtherRegs s t [(instOf a, hubPage + 0x190)]) s rq a size
    (fun _ _ _ => reg_crossDies ..)
    fun j b h => (wakeIsland_otherRegs _ (instOf a) j b h).trans (reg_crossDies ..)

/-! ## Offsets of a page -/

section Page

variable {page off : Nat} (hp : offOf page = 0) (ho : off < 4096)
include hp ho

theorem offOf_add : offOf (page + off) = off := by unfold offOf at *; omega

theorem regionOf_add : regionOf (page + off) = regionOf page := by unfold offOf regionOf at *; omega

theorem instOf_add : instOf (page + off) = instOf page := by unfold offOf instOf at *; omega

theorem pageDie_add : pageDie (page + off) = pageDie page := by
  simp only [pageDie, regionOf_add hp ho, instOf_add hp ho]

end Page

theorem page_eq_pageAddr {page : Nat} (hp : offOf page = 0) : page = pageAddr (regionOf page) (instOf page) := by
  unfold offOf at hp
  unfold pageAddr regionOf instOf
  omega

/-! ## Pages that carry arbiters (R203) -/

/-- The hub page, a stack page or a port page. -/
theorem hasArbs_iff {page : Nat} : hasArbs page = true ↔
    offOf page = 0 ∧ ((regionOf page = 0 ∧ instOf page = 0) ∨ (regionOf page = 12 ∧ instOf page < 16) ∨
      (regionOf page = 13 ∧ instOf page < 64)) := by
  have hub : offOf page = 0 → (page = hubPage ↔ regionOf page = 0 ∧ instOf page = 0) := by
    intro hp
    simp only [hubPage, pageAddr, offOf, regionOf, instOf] at *
    omega
  simp only [hasArbs, Bool.and_eq_true, decide_eq_true_eq]
  constructor
  · rintro ⟨h, hp⟩
    exact ⟨hp, by rwa [hub hp] at h⟩
  · rintro ⟨hp, h⟩
    exact ⟨by rwa [hub hp], hp⟩

theorem offOf_of_hasArbs {page : Nat} (h : hasArbs page = true) : offOf page = 0 := (hasArbs_iff.mp h).1

theorem findReg_append_of_ne {l l' : List RegSpec} {off : Nat} (h : ∀ r ∈ l, r.off ≠ off) :
    findReg (l ++ l') off = findReg l' off := by
  induction l with
  | nil => rfl
  | cons r l ih =>
    rw [List.cons_append, findReg, if_neg (h r List.mem_cons_self), ih fun x hx => h x (List.mem_cons_of_mem _ hx)]

/-- A page that carries arbiters lists their registers after its own, which stand below 0x300. -/
theorem pageRegs_of_hasArbs {page : Nat} (h : hasArbs page = true) :
    ∃ l, pageRegs (regionOf page) (instOf page) = some (l ++ arbRegs) ∧ ∀ r ∈ l, r.off < 0x300 := by
  obtain ⟨-, ⟨hr, hi⟩ | ⟨hr, hi⟩ | ⟨hr, hi⟩⟩ := hasArbs_iff.mp h
  · exact ⟨hubRegs, by simp [pageRegs, hr, hi], by decide +kernel⟩
  · exact ⟨stackRegs, by simp [pageRegs, hr, hi], by decide +kernel⟩
  · exact ⟨portRegs, by simp [pageRegs, hr, hi], by decide +kernel⟩

section ArbPage

variable {page off : Nat} (h : hasArbs page = true)
include h

theorem specAt_arbReg (hlo : 0x300 ≤ off) (hhi : off < 4096) : specAt (page + off) = findReg arbRegs off := by
  have hp := offOf_of_hasArbs h
  obtain ⟨l, hl, hlt⟩ := pageRegs_of_hasArbs h
  rw [specAt, regionOf_add hp hhi, instOf_add hp hhi, offOf_add hp hhi, hl]
  simp only [if_neg (show ¬ off < 0x40 by omega)]
  exact findReg_append_of_ne fun r hr => by have := hlt r hr; omega

/-- The writable registers of an arbiter are indexed by the page's selector, which names 256 objects. -/
theorem selectorOf_arbReg (hlo : 0x304 ≤ off) (hhi : off < 0x328) : selectorOf (page + off) = some (page + 0x300) := by
  obtain ⟨hp, hr⟩ := hasArbs_iff.mp h
  have ho : off < 4096 := by omega
  simp only [selectorOf, regionOf_add hp ho, instOf_add hp ho, offOf_add hp ho]
  rw [if_pos ⟨hr.imp_left And.left, hlo, hhi⟩, Nat.add_sub_cancel]

theorem windowSize_arbSel : windowSize (page + 0x300) = 256 := by
  obtain ⟨hp, ⟨hr, -⟩ | ⟨hr, hi⟩ | ⟨hr, hi⟩⟩ := hasArbs_iff.mp h
  · simp [windowSize, regionOf_add hp, offOf_add hp, hr]
  · simp [windowSize, regionOf_add hp, instOf_add hp, hr, hi]
  · simp [windowSize, regionOf_add hp, instOf_add hp, hr, hi]

theorem not_isSelector_arbReg (hlo : 0x304 ≤ off) (hhi : off < 4096) : isSelector (page + off) = false := by
  have hne : ∀ n < 0x304, (off == n) = false := fun n hn => beq_false_of_ne (by omega)
  obtain ⟨hp, ⟨hr, -⟩ | ⟨hr, -⟩ | ⟨hr, -⟩⟩ := hasArbs_iff.mp h <;>
    simp [isSelector, regionOf_add hp hhi, offOf_add hp hhi, hr, hne]

/-- No register of an arbiter has a guarded field. -/
theorem guardMask_arbReg (hoff : off = 0x304 ∨ off = 0x30C) : guardMask (page + off) = 0 := by
  obtain ⟨hp, ⟨hr, -⟩ | ⟨hr, hi⟩ | ⟨hr, hi⟩⟩ := hasArbs_iff.mp h <;> rcases hoff with rfl | rfl <;>
    simp [guardMask, regionOf_add hp, offOf_add hp, hr]

theorem not_inWide_arbReg (hoff : off = 0x304 ∨ off = 0x30C) : inWide (page + off) = false := by
  have hp : page % 4096 = 0 := offOf_of_hasArbs h
  rcases hoff with rfl | rfl
  · rw [inWide, show (page + 0x304) / 8 * 8 = page + 0x300 by omega, specAt_arbReg h (by omega) (by omega)]
    rfl
  · rw [inWide, show (page + 0x30C) / 8 * 8 = page + 0x308 by omega, specAt_arbReg h (by omega) (by omega)]
    rfl

theorem writeBlock_arbReg (t : State) (rq idx v : Nat) (hlo : 0x304 ≤ off) (hhi : off < 4096) :
    writeBlock t rq (page + off) idx v = writeArb t page idx off v := by
  have hp := offOf_of_hasArbs h
  have hpage := page_eq_pageAddr hp
  simp only [writeBlock, regionOf_add hp hhi, offOf_add hp hhi, instOf_add hp hhi]
  obtain ⟨-, ⟨hr, hi⟩ | ⟨hr, hi⟩ | ⟨hr, hi⟩⟩ := hasArbs_iff.mp h
  · simp only [hr, hi] at hpage ⊢
    rw [writeHub, if_neg (by omega), if_pos (by omega), hpage, hubPage]
  · simp only [hr] at hpage ⊢
    rw [writeHbm, if_neg (by omega), if_pos (by omega), stackPage, ← hpage]
  · simp only [hr] at hpage ⊢
    unfold writePlk
    rw [if_pos hi, if_pos (by omega), portPage, ← hpage]

/-- A write of FREEZE or of the clear of WAIT_MAX goes to the arbiter that the requester has selected. -/
theorem writeReg_arbReg (t : State) (rq v : Nat) (hoff : off = 0x304 ∨ off = 0x30C) (hs : t.sel rq (page + 0x300) < 256) :
    writeReg t rq (page + off) v = writeArb t page (t.sel rq (page + 0x300)) off v := by
  have hlo : 0x304 ≤ off := by omega
  have hhi : off < 4096 := by omega
  have hp := offOf_of_hasArbs h
  have hsel := selectorOf_arbReg h hlo (by omega)
  have hspec : ∃ r, specAt (page + off) = some r := by
    rw [specAt_arbReg h (by omega) hhi]
    rcases hoff with rfl | rfl <;> exact ⟨_, rfl⟩
  obtain ⟨r, hr⟩ := hspec
  have hin : indexInside t rq (page + off) = true := by
    rw [indexInside, hsel]
    exact decide_eq_true (by rwa [windowSize_arbSel h])
  have hpass : passGuard t rq (page + off) v = (t, v) := by simp [passGuard, guardMask_arbReg h hoff]
  have hvf : regionOf page ≠ 0x40 := by
    obtain ⟨-, hr⟩ := hasArbs_iff.mp h
    omega
  simp only [writeReg, hr, not_isSelector_arbReg h hlo hhi, hin, hpass, offOf_add hp hhi, regionOf_add hp hhi, hvf,
    indexOf, hsel]
  simp only [Bool.not_true, Bool.false_eq_true, if_false, if_neg (show ¬ off < 0x40 by omega)]
  exact writeBlock_arbReg h t rq _ v hlo hhi

end ArbPage

/-! ## Writes that reach a page -/

/-- A write of a requester that reaches some page is a write of its BAR0 (R309, R320, R322). -/
theorem regWrite_of_reaches {s : State} {rq page : Nat} (h : reaches s rq page = true) (a size v : Nat) :
    regWrite s rq a size v = barWrite s rq a size v := by
  simp only [reaches, Bool.and_eq_true, Bool.not_eq_true', Bool.or_eq_true, decide_eq_true_eq] at h
  obtain ⟨⟨⟨⟨hass, -⟩, hsil⟩, -⟩, hfn⟩ := h
  unfold regWrite
  rw [if_neg (by simp [hass, hsil])]
  split
  · obtain ⟨⟨hclaims, hd3⟩, hdrain⟩ := hfn.resolve_left (by omega)
    rw [if_neg (by simp [hclaims]), if_neg (by simp [hd3]), if_neg (by simp [hdrain])]
  · rfl

/-- A requester whose BAR0 is PF0's reaches a page of it: its write of an aligned word is one of that page. -/
theorem regWrite_word {s : State} {rq page off : Nat} (hw : pfMayWrite s rq page = true) (hp : offOf page = 0)
    (hregs : (pageRegs (regionOf page) (instOf page)).isSome = true) (hmsix : regionOf page ≠ 7) (hpf : regionOf page < 64)
    (ho : off < 4096) (ha : off % 4 = 0) (v : Nat) :
    regWrite s rq (page + off) 4 v = write32 (regTraffic s rq (page + off) 4) rq (page + off) v := by
  simp only [pfMayWrite, mayWrite, Bool.and_eq_true, Bool.not_eq_true'] at hw
  obtain ⟨⟨hready, hreach⟩, hvf⟩ := hw
  have hrq : ¬ (1 ≤ rq ∧ rq < 16) := by simpa [isVf] using hvf
  have hmeet : diesMeet s (requesterDie rq) (pageDie page) = true := by
    simp only [reaches, Bool.and_eq_true] at hreach
    obtain ⟨⟨-, hmeet⟩, -⟩ := hreach
    exact hmeet
  have hass : s.start.asserted = false := by
    simp only [devReady, Bool.and_eq_true, Bool.not_eq_true'] at hready
    obtain ⟨hass, -⟩ := hready
    exact hass
  have hans : pageAnswers s (page + off) = true := by
    simp [pageAnswers, regionOf_add hp ho, instOf_add hp ho, hregs, hready, hass]
  have hbar : ¬ 2 ^ 26 ≤ page + off := by
    have := regionOf_add hp ho
    unfold regionOf at this hpf
    omega
  have hno : ¬ (pageAddr 7 16 ≤ page + off ∧ page + off < pageAddr 7 24) := by
    have := regionOf_add hp ho
    simp only [regionOf, pageAddr] at this hmsix ⊢
    omega
  have hword : (page + off) % 4 = 0 := by
    unfold offOf at hp
    omega
  rw [regWrite_of_reaches hreach, barWrite, if_neg hrq, if_neg hbar, if_neg hno, pageWrite]
  simp [hans, pageDie_add hp ho, hmeet, hword]

/-- A row that writes a register of an arbiter: the access crosses to the page, and the write goes to the arbiter or the
input that the requester has selected there (R14, R203). -/
theorem pfWrite_arbReg {s : State} {rq page off : Nat} (hw : pfMayWrite s rq page = true) (hp : hasArbs page = true)
    (hs : s.sel rq (page + 0x300) < 256) (hoff : off = 0x304 ∨ off = 0x30C) {v : Nat} (hv : v < 2 ^ 32) :
    pfWrite s rq (page + off) v =
      writeArb (regTraffic s rq (page + off) 4) page (s.sel rq (page + 0x300)) off v := by
  obtain ⟨l, hl, -⟩ := pageRegs_of_hasArbs hp
  obtain ⟨hpo, hr⟩ := hasArbs_iff.mp hp
  have hvf : isVf rq = false := by
    simp only [pfMayWrite, Bool.and_eq_true, Bool.not_eq_true'] at hw
    obtain ⟨-, hvf⟩ := hw
    exact hvf
  have hwide := not_inWide_arbReg hp hoff
  rw [pfWrite, hvf, hwide]
  simp only [Bool.false_eq_true, if_false]
  rw [regWrite_word hw hpo (by simp [hl]) (by omega) (by omega) (by omega) (by omega), write32, hwide]
  simp only [Bool.false_eq_true, if_false]
  rw [Nat.mod_eq_of_lt hv, writeReg_arbReg hp _ rq v hoff (by rwa [sel_regTraffic]), sel_regTraffic]

/-- A requester whose write reaches a page exists, and a page with arbiters has the unit. -/
theorem arbRow_ok {s : State} {rq page : Nat} (hw : pfMayWrite s rq page = true) (hp : hasArbs page = true) :
    (decide (rq < rqCount) && hasArbs page) = true := by
  simp only [pfMayWrite, mayWrite, reaches, Bool.and_eq_true] at hw
  obtain ⟨⟨-, ⟨⟨⟨-, hrq⟩, -⟩, -⟩, -⟩, -⟩ := hw
  rw [hp, Bool.and_true]
  exact hrq

theorem crossedArbs_add {page off : Nat} (hp : offOf page = 0) (ho : off < 4096) (rq : Nat) :
    crossedArbs rq (page + off) = crossedArbs rq page := by
  simp only [crossedArbs, pageDie_add hp ho]

/-! ## FREEZE and the clear of WAIT_MAX (R188, R203) -/

section ArbRow

variable {s : State} {rq page : Nat} (hw : pfMayWrite s rq page = true) (hp : hasArbs page = true)
  (hs : s.sel rq (page + 0x300) < 256)
include hw hp hs

/-- A write of P_ARB_CTRL answers with FREEZE of the selected arbiter as its bit 31: the arbiter serves on, and is otherwise the
same unless the access waits at it. -/
theorem writeFreeze_answers {i : Instr} {v : Nat} (hv : v < 2 ^ 32)
    (he : exec i s = onUnit (decide (rq < rqCount) && hasArbs page) (pfWrite s rq (page + 0x304) v)) :
    let k := arbOf page (s.sel rq (page + 0x300))
    Answers i s fun t =>
      (t.arb k).frozen = bit v 31 ∧ (t.arb k).serving = (s.arb k).serving ∧
        (k ∉ crossedArbs rq page → t.arb k = { s.arb k with frozen := bit v 31 }) ∧
        OtherArbs s t (k :: crossedArbs rq page) ∧ Calm s t ∧ SameRings s t := by
  intro k
  have others := regTraffic_otherArbs s rq (page + 0x304) 4
  rw [crossedArbs_add (offOf_of_hasArbs hp) (by omega)] at others
  have quiet := regTraffic_quiet s rq (page + 0x304) 4
  obtain ⟨ws, hws⟩ := arb_regTraffic_waiting s rq (page + 0x304) 4 k
  rw [pfWrite_arbReg hw hp hs (.inl rfl) hv] at he
  refine answers_of_onUnit he (arbRow_ok hw hp) ?_
  rw [writeArb, if_pos rfl, setFreeze, State.arb_setArb]
  refine ⟨rfl, by rw [hws], fun hk => by rw [others k hk], ?_, (quiet.setArb _ _).calm, (quiet.setArb _ _).rings⟩
  exact OtherArbs.setArb (fun j hj => others j fun e => hj (List.mem_cons_of_mem _ e)) List.mem_cons_self _

/-- The clear of WAIT_MAX zeroes it for the input that the requester has selected. -/
theorem arbWaitClear_answers : Answers (.arbWaitClear rq page) s fun t =>
    t.reg (s.sel rq (page + 0x300)) (page + 0x308) = 0 ∧
      OtherRegs s t [(s.sel rq (page + 0x300), page + 0x308), (instOf page, hubPage + 0x190)] ∧
      OtherArbs s t (crossedArbs rq page) ∧ Calm s t ∧ SameRings s t := by
  have hpo := offOf_of_hasArbs hp
  have others := regTraffic_otherArbs s rq (page + 0x30C) 4
  rw [crossedArbs_add hpo (by omega)] at others
  have regs := regTraffic_otherRegs s rq (page + 0x30C) 4
  rw [instOf_add hpo (by omega)] at regs
  have quiet := regTraffic_quiet s rq (page + 0x30C) 4
  have he : exec (.arbWaitClear rq page) s =
      onUnit (decide (rq < rqCount) && hasArbs page) (pfWrite s rq (page + 0x30C) (2 ^ 31)) := rfl
  rw [pfWrite_arbReg hw hp hs (.inr rfl) (by omega)] at he
  refine answers_of_onUnit he (arbRow_ok hw hp) ?_
  rw [writeArb, if_neg (by omega), if_pos ⟨rfl, by decide⟩, clearWait]
  refine ⟨State.reg_setReg _ _ _ _, fun i a h => ?_, others.setReg _ _ _, (quiet.setReg _ _ _).calm,
    (quiet.setReg _ _ _).rings⟩
  rw [State.reg_setReg_ne _ _ (h (s.sel rq (page + 0x300), page + 0x308) List.mem_cons_self)]
  exact regs i a fun k hk => h k (List.mem_cons_of_mem _ hk)

end ArbRow

/-- ARB_UNIT_DONE, ARB_FREEZE, ARB_UNFREEZE and ARB_WAIT_CLEAR as R187, R188, R203 and R14 have them. -/
theorem arbiterService : Sys2Proof.Claims.ArbiterService := by
  refine ⟨fun s a q ha hs => ?units, fun s rq page k hw hp hs hk => ?rows⟩
  case units =>
    have quiet := arbUnitDone_quiet s a
    have others := arbUnitDone_otherArbs s a
    refine ⟨fun hu => ?last, fun hu ht => ?higher, fun hu ht hf => ?frozen, fun hu ht hf hv => ?goes_on⟩ <;>
      refine answers_of_onUnit rfl (decide_eq_true ha) ?_
    case last =>
      have harb : (arbUnitDone s a).arb a = { s.arb a with serving := none } := by
        rw [arbUnitDone_of_last hs hu, State.arb_setArb]
      rw [harb]
      exact ⟨rfl, rfl, others, quiet.calm, quiet.rings⟩
    case higher =>
      have eq := arbUnitDone_of_higher hs hu ht
      have harb : (arbUnitDone s a).arb a = savedArb s a q := by rw [eq, State.arb_count, State.arb_setArb]
      rw [harb]
      refine ⟨rfl, rfl, rfl, ?_, others, quiet.calm, quiet.rings⟩
      rw [eq, Counted, State.reg_count, State.reg_setArb, reg_unitMoved_preempted ha]
    case frozen =>
      have harb : (arbUnitDone s a).arb a = savedArb s a q := by rw [arbUnitDone_of_frozen hs hu ht hf, State.arb_setArb]
      rw [harb]
      exact ⟨rfl, rfl, others, quiet.calm⟩
    case goes_on =>
      have harb : (arbUnitDone s a).arb a = { s.arb a with serving := some { q with moved := q.moved + 1 } } := by
        rw [arbUnitDone_of_goes_on hs hu ht hf hv, State.arb_setArb]
      rw [harb]
      exact ⟨rfl, rfl, others, quiet.calm⟩
  case rows =>
    subst hk
    exact ⟨writeFreeze_answers hw hp hs (v := 2 ^ 31) (by omega) rfl, writeFreeze_answers hw hp hs (v := 0) (by omega) rfl,
      arbWaitClear_answers hw hp hs⟩

/-- Settles O27: grants by `arbiterGrants`, the service of units and the register writes by `arbiterService`. -/
theorem arbitersGrantAndServe : Obligations.ArbitersGrantAndServe := ⟨arbiterGrants, arbiterService⟩

end Sys2Proof.Machine
end

section
/-! The life of a ring entry: what its start and its completion do to their ring, to the accounts and to the ledger's page
(R122, R123, R313). -/

namespace Sys2Proof.Machine

open Sys2Proof

/-! ## Steps within a ring -/

theorem Calm.trans {s t u : State} (h : Calm s t) (h' : Calm t u) : Calm s u := by
  obtain ⟨mem, pend, us, flash, start, sec⟩ := h
  obtain ⟨mem', pend', us', flash', start', sec'⟩ := h'
  exact ⟨fun a => ⟨(mem' a).1.trans (mem a).1, (mem' a).2.trans (mem a).2⟩, pend'.trans pend, us'.trans us, flash'.trans flash,
    start'.trans start, sec'.trans sec⟩

/-- A step of one ring: memory, the parts of `Aside`, every other ring and the sync objects stand as before. -/
structure WithinRing (s t : State) (r : Nat) : Prop where
  calm : Calm s t
  others : OtherRings s t [r]
  objs : SameObjs s t

theorem WithinRing.trans {s t u : State} {r : Nat} (h : WithinRing s t r) (h' : WithinRing t u r) : WithinRing s u r :=
  ⟨h.calm.trans h'.calm, fun k hk => (h'.others k hk).trans (h.others k hk), fun k => (h'.objs k).trans (h.objs k)⟩

theorem Quiet.withinRing {s t : State} (h : Quiet s t) (r : Nat) : WithinRing s t r :=
  ⟨h.calm, fun k _ => h.rings k, h.objs⟩

theorem WithinRing.setRing {s t : State} {r : Nat} (h : WithinRing s t r) (v : Ring) : WithinRing s (t.setRing r v) r :=
  ⟨h.calm, fun k hk => (State.ring_setRing_ne t v (mt List.mem_singleton.mpr hk)).trans (h.others k hk), h.objs⟩

/-- The life of an entry on its ring: besides, the ring's open request and its phases stand, and so do all accounts. -/
structure EntryFrame (s t : State) (r : Nat) : Prop extends WithinRing s t r where
  req : (t.ring r).req = (s.ring r).req
  phase : (t.ring r).phase = (s.ring r).phase
  savedPhase : (t.ring r).savedPhase = (s.ring r).savedPhase
  account : ∀ n, t.account n = s.account n

theorem EntryFrame.trans {s t u : State} {r : Nat} (h : EntryFrame s t r) (h' : EntryFrame t u r) : EntryFrame s u r :=
  ⟨h.toWithinRing.trans h'.toWithinRing, h'.req.trans h.req, h'.phase.trans h.phase, h'.savedPhase.trans h.savedPhase,
    fun n => (h'.account n).trans (h.account n)⟩

theorem EntryFrame.of_quiet {s t : State} (h : Quiet s t) (ha : ∀ n, t.account n = s.account n) (r : Nat) : EntryFrame s t r :=
  ⟨h.withinRing r, by rw [h.rings r], by rw [h.rings r], by rw [h.rings r], ha⟩

theorem EntryFrame.raiseErr {s t : State} {r : Nat} (h : EntryFrame s t r) (page b : Nat) (who : Who) (part : Nat) :
    EntryFrame s (raiseErr t page b who part) r := by
  obtain ⟨rg, pc, mo, ou, eq⟩ := raiseErr_shape t page b who part
  have quiet : Quiet t (Machine.raiseErr t page b who part) := by
    rw [eq]
    exact ⟨(Quiet.refl t).calm, (Quiet.refl t).rings, (Quiet.refl t).objs⟩
  exact h.trans (.of_quiet quiet (fun n => by rw [eq]; rfl) r)

theorem EntryFrame.count {s t : State} {r : Nat} (h : EntryFrame s t r) (i a n : Nat) : EntryFrame s (t.count i a n) r :=
  h.trans (.of_quiet ((Quiet.refl t).count i a n) (fun _ => rfl) r)

/-! ## Reads of a slot and the accounts (R241, R243) -/

@[simp] theorem account_moveSector (s : State) (a : Nat) (win part : Bool) (ring : Option Nat) (n : Nat) :
    (moveSector s a win part ring).account n = s.account n := by
  unfold moveSector usePage
  cases win <;> rfl

@[simp] theorem account_moveBursts (s : State) (a n : Nat) (write : Bool) (win : Nat → Bool) (ring : Option Nat) (k : Nat) :
    (moveBursts s a n write win ring).account k = s.account k := by
  unfold moveBursts
  induction sectorsOf a n generalizing s with
  | nil => rfl
  | cons x xs ih => rw [List.foldl_cons, ih, account_moveSector]

@[simp] theorem account_hbmLoad (s : State) (a n : Nat) (who : Who) (ring : Option Nat) (k : Nat) :
    (s.hbmLoad a n who ring).account k = s.account k := by
  unfold State.hbmLoad
  obtain ⟨rg, pc, mo, ou, eq⟩ := failAccess_shape who (readFailures s s.stackSet.lost a n)
    (dropLost (moveBursts s a n false (inWindow s) ring) a n false) []
  rw [eq]
  exact account_moveBursts ..

/-- The read of a slot is energy that the ledger estimates, and leaves the accounts alone. -/
@[simp] theorem account_fetchSlot (s : State) (r n : Nat) : (fetchSlot s r).account n = s.account n := by
  unfold fetchSlot
  simp only
  split
  · rfl
  · split
    · rfl
    · obtain ⟨ar, rg, st, po, eq⟩ := hbmTraffic_shape s (ringDie r (s.ring r)) ((s.ring r).slotAddr (s.ring r).issue) 64 5 5
        1023 false (some r)
      rw [account_hbmLoad, eq]
      rfl

/-! ## An entry starts -/

@[simp] theorem ring_trace (s : State) (source kind status data : Nat) (who : Who) (k : Nat) :
    (trace s source kind status data who).ring k = s.ring k := by
  obtain ⟨fl, eq⟩ := trace_shape s source kind status data who
  rw [eq]
  rfl

@[simp] theorem account_trace (s : State) (source kind status data : Nat) (who : Who) (n : Nat) :
    (trace s source kind status data who).account n = s.account n := by
  obtain ⟨fl, eq⟩ := trace_shape s source kind status data who
  rw [eq]
  rfl

@[simp] theorem ring_beforeEntry (s : State) (r op k : Nat) :
    (syncBeat (takeRung (fetchSlot s r) r) r 0 op).ring k = s.ring k := by
  obtain ⟨ar, st, rg, le, po, pc, mo, ou, eq⟩ := beforeEntry_shape s r op
  rw [eq]
  rfl

@[simp] theorem account_beforeEntry (s : State) (r op n : Nat) :
    (syncBeat (takeRung (fetchSlot s r) r) r 0 op).account n = s.account n := by
  obtain ⟨pc, eq⟩ := takeRung_shape (fetchSlot s r) r
  obtain ⟨ar, eq'⟩ := syncBeat_shape (takeRung (fetchSlot s r) r) r 0 op
  rw [eq', eq]
  exact account_fetchSlot s r n

/-- What the start of an entry replaces in its ring. -/
theorem beginEntry_ring_eq (s : State) (r : Nat) (b : List Byte) (w : EntryWait) :
    ∃ issue fly tails wdog, (beginEntry s r b w).ring r =
      { s.ring r with issue := issue, fly := fly, tails := tails, wdogUs := wdog } := by
  unfold beginEntry
  simp only [ring_trace, State.ring_setRing, ring_beforeEntry]
  exact ⟨_, _, _, _, rfl⟩

@[simp] theorem account_beginEntry (s : State) (r : Nat) (b : List Byte) (w : EntryWait) (n : Nat) :
    (beginEntry s r b w).account n = s.account n := by
  unfold beginEntry
  simp only [account_trace, State.account_setRing, account_beforeEntry]

theorem beginEntry_frame (s : State) (r : Nat) (b : List Byte) (w : EntryWait) : EntryFrame s (beginEntry s r b w) r := by
  obtain ⟨issue, fly, tails, wdog, ring⟩ := beginEntry_ring_eq s r b w
  obtain ⟨ri, ar, st, rg, le, po, pc, mo, ou, eq⟩ := beginEntry_shape s r b w
  refine ⟨⟨?_, fun k hk => beginEntry_ring_ne s r b w (mt List.mem_singleton.mpr hk), ?_⟩, by rw [ring], by rw [ring],
    by rw [ring], account_beginEntry s r b w⟩
  · rw [eq]
    exact (Quiet.refl s).calm
  · rw [eq]
    exact fun _ => rfl

/-- Where every earlier entry has completed, the entry that starts is the open one of its sequence number. -/
theorem openFlight_beginEntry {s : State} {r : Nat} (b : List Byte) (w : EntryWait) (hq : (s.ring r).quiet = true) :
    ∃ f, openFlight ((beginEntry s r b w).ring r) (s.ring r).issue = some f ∧ f.bytes = b := by
  obtain ⟨-, filt, us, grant, hfly⟩ := beginEntry_ring s r b w
  refine ⟨⟨(s.ring r).issue, b, w, none, filt, us, grant⟩, ?_, rfl⟩
  have earlier : (s.ring r).fly.find? (fun f => decide (f.seq = (s.ring r).issue) && !f.isDone) = none :=
    List.find?_eq_none.mpr fun f hf => by simp [List.all_eq_true.mp hq f hf]
  rw [openFlight, hfly, List.find?_append, earlier]
  simp [Flight.isDone]

/-- An entry that starts with a wait waits. -/
theorem waits_beginEntry (s : State) (r : Nat) (b : List Byte) (w : EntryWait) :
    Waits (beginEntry s r b w) r (s.ring r).issue w := by
  obtain ⟨-, filt, us, grant, hfly⟩ := beginEntry_ring s r b w
  refine ⟨⟨(s.ring r).issue, b, w, none, filt, us, grant⟩, ?_, rfl, rfl, rfl⟩
  rw [hfly]
  exact List.mem_append_right _ List.mem_cons_self

/-! ## An entry completes -/

@[simp] theorem ring_filterCount (s : State) (filt : Bool) (off n k : Nat) : (filterCount s filt off n).ring k = s.ring k := by
  obtain ⟨rg, eq⟩ := filterCount_shape s filt off n
  rw [eq]
  rfl

@[simp] theorem ring_entryError (s : State) (page status : Nat) (who : Who) (part k : Nat) :
    (entryError s page status who part).ring k = s.ring k := by
  obtain ⟨rg, pc, mo, ou, eq⟩ := entryError_shape s page status who part
  rw [eq]
  rfl

@[simp] theorem ring_beforeFinish (s : State) (r op : Nat) (b : List Byte) (k : Nat) :
    (countLoomCommand (syncBeat s r 1 op) r b).ring k = s.ring k := by
  obtain ⟨ar, rg, eq⟩ := beforeFinish_shape s r op b
  rw [eq]
  rfl

theorem beforeFinish_frame (s : State) (r op : Nat) (b : List Byte) :
    EntryFrame s (countLoomCommand (syncBeat s r 1 op) r b) r := by
  obtain ⟨ar, rg, eq⟩ := beforeFinish_shape s r op b
  have quiet : Quiet s (countLoomCommand (syncBeat s r 1 op) r b) := by
    rw [eq]
    exact ⟨(Quiet.refl s).calm, (Quiet.refl s).rings, (Quiet.refl s).objs⟩
  exact .of_quiet quiet (fun n => by rw [eq]; rfl) r

/-- What a completion replaces in its ring. -/
theorem finishWith_ring_eq (s : State) (r seq page : Nat) (c : Completion) :
    ∃ fly done conflict wdog wait, (finishWith s r seq page c).ring r =
      { s.ring r with fly := fly, cntDone := done, cntConflict := conflict, wdogUs := wdog, waitUs := wait } := by
  unfold finishWith
  simp only
  split
  · exact ⟨_, _, _, _, _, rfl⟩
  · rw [ring_entryError]
    split <;> simp only [ring_filterCount, State.ring_count, State.ring_setRing] <;> exact ⟨_, _, _, _, _, rfl⟩

theorem finishWith_frame (s : State) (r seq page : Nat) (c : Completion) : EntryFrame s (finishWith s r seq page c) r := by
  obtain ⟨fly, done, conflict, wdog, wait, ring⟩ := finishWith_ring_eq s r seq page c
  obtain ⟨ri, rg, pc, mo, ou, eq⟩ := finishWith_shape s r seq page c
  refine ⟨⟨?_, fun k hk => finishWith_ring_ne s r seq page c (mt List.mem_singleton.mpr hk), ?_⟩, by rw [ring], by rw [ring],
    by rw [ring], ?_⟩
  · rw [eq]
    exact (Quiet.refl s).calm
  · rw [eq]
    exact fun _ => rfl
  · rw [eq]
    exact fun _ => rfl

theorem finishWith_issue (s : State) (r seq page : Nat) (c : Completion) :
    ((finishWith s r seq page c).ring r).issue = (s.ring r).issue := by
  obtain ⟨fly, done, conflict, wdog, wait, ring⟩ := finishWith_ring_eq s r seq page c
  rw [ring]

/-- A completion is the traffic and the counts before it, and the completion of its flight. -/
theorem finishEntry_eq_of_open {s : State} {r seq : Nat} {f : Flight} (hf : openFlight (s.ring r) seq = some f)
    (status res0 res1 res2 : Nat) :
    finishEntry s r seq status res0 res1 res2 =
      finishWith (countLoomCommand (syncBeat s r 1 (entryOp f.bytes)) r f.bytes) r seq (servePage s r f.bytes)
        (completionFor (s.ring r) f.bytes status res0 res1 res2) := by
  unfold finishEntry
  rw [hf]

theorem finishEntry_frame (s : State) (r seq status res0 res1 res2 : Nat) :
    EntryFrame s (finishEntry s r seq status res0 res1 res2) r := by
  cases hf : openFlight (s.ring r) seq with
  | none =>
    rw [finishEntry_none _ _ _ _ _ _ _ hf]
    exact .of_quiet (.refl s) (fun _ => rfl) r
  | some f =>
    rw [finishEntry_eq_of_open hf]
    exact (beforeFinish_frame s r (entryOp f.bytes) f.bytes).trans (finishWith_frame _ _ _ _ _)

theorem finishEntry_issue (s : State) (r seq status res0 res1 res2 : Nat) :
    ((finishEntry s r seq status res0 res1 res2).ring r).issue = (s.ring r).issue := by
  cases hf : openFlight (s.ring r) seq with
  | none => rw [finishEntry_none _ _ _ _ _ _ _ hf]
  | some f => rw [finishEntry_eq_of_open hf, finishWith_issue, ring_beforeFinish]

/-- The completion that is put in stands at its sequence number. -/
theorem exists_mem_putDone {fly : List Flight} {seq : Nat} {f : Flight} (c : Completion)
    (h : fly.find? (fun f => decide (f.seq = seq) && !f.isDone) = some f) :
    ∃ g ∈ putDone seq c fly, g.seq = seq ∧ g.done = some c := by
  induction fly with
  | nil => cases h
  | cons x xs ih =>
    by_cases hx : x.seq = seq ∧ (!x.isDone) = true
    · rw [putDone, if_pos hx]
      exact ⟨_, List.mem_cons_self, hx.1, rfl⟩
    · rw [List.find?_cons_of_neg (by simpa using hx)] at h
      obtain ⟨g, hg, hseq, hdone⟩ := ih h
      rw [putDone, if_neg hx]
      exact ⟨g, List.mem_cons_of_mem _ hg, hseq, hdone⟩

theorem done_finishWith {s : State} {r seq : Nat} {f : Flight} (hf : openFlight (s.ring r) seq = some f) (page : Nat)
    (c : Completion) : Done (finishWith s r seq page c) r seq c := by
  unfold Done
  rw [finishWith_fly s r seq page c f hf]
  exact exists_mem_putDone c hf

/-- An entry that is no LOOM_SET_PANELS completes with the fields of its bytes (R315, R406). -/
theorem done_finishEntry {s : State} {r seq : Nat} {f : Flight} (hf : openFlight (s.ring r) seq = some f)
    (hop : ¬ ((s.ring r).server = 1 ∧ entryOp f.bytes = 0x12)) (status res0 res1 res2 : Nat) :
    Done (finishEntry s r seq status res0 res1 res2) r seq (completionOf f.bytes status res0 res1 res2) := by
  unfold Done
  rw [finishEntry_fly s r seq status res0 res1 res2 f hf, completionFor, if_neg hop]
  exact exists_mem_putDone _ hf

/-! ## An entry starts and completes at once -/

theorem actEntry_frame (s : State) (r : Nat) (b : List Byte) (status res0 res1 res2 : Nat) :
    EntryFrame s (actEntry s r b status res0 res1 res2) r :=
  (beginEntry_frame s r b .running).trans (finishEntry_frame _ _ _ _ _ _ _)

theorem actEntry_issue (s : State) (r : Nat) (b : List Byte) (status res0 res1 res2 : Nat) :
    ((actEntry s r b status res0 res1 res2).ring r).issue = add32 (s.ring r).issue 1 := by
  rw [actEntry, finishEntry_issue]
  exact (beginEntry_ring s r b .running).1

theorem done_actEntry {s : State} {r : Nat} {b : List Byte} (hq : (s.ring r).quiet = true)
    (hop : ¬ ((s.ring r).server = 1 ∧ entryOp b = 0x12)) (status res0 res1 res2 : Nat) :
    Done (actEntry s r b status res0 res1 res2) r (s.ring r).issue (completionOf b status res0 res1 res2) := by
  obtain ⟨f, hf, rfl⟩ := openFlight_beginEntry b .running hq
  obtain ⟨issue, fly, tails, wdog, ring⟩ := beginEntry_ring_eq s r f.bytes .running
  exact done_finishEntry hf (by rwa [ring]) status res0 res1 res2

/-! ## The ledger's page (R242, R261) -/

/-- Every register of the ledger's page holds what it held. -/
def SameLdg (s t : State) : Prop := ∀ off < 4096, t.ldg off = s.ldg off

theorem SameLdg.refl (s : State) : SameLdg s s := fun _ _ => rfl

theorem SameLdg.trans {s t u : State} (h : SameLdg s t) (h' : SameLdg t u) : SameLdg s u :=
  fun off ho => (h' off ho).trans (h off ho)

section SameLdg

variable {s t : State} (h : SameLdg s t)
include h

theorem SameLdg.setReg {a : Nat} (ha : a / 4096 ≠ 0x500) (i v : Nat) : SameLdg s (t.setReg i a v) := fun off ho => by
  rw [← h off ho]
  refine State.reg_setReg_ne t v ?_
  simp only [regKey, ldgPage, pageAddr]
  omega

theorem SameLdg.count {a : Nat} (ha : a / 4096 ≠ 0x500) (i n : Nat) : SameLdg s (t.count i a n) := h.setReg ha i _

theorem SameLdg.trace (source kind status data : Nat) (who : Who) : SameLdg s (trace t source kind status data who) := by
  obtain ⟨fl, eq⟩ := trace_shape t source kind status data who
  rw [eq]
  exact h

theorem SameLdg.filterCount {off : Nat} (ho : off < 4096) (filt : Bool) (n : Nat) : SameLdg s (filterCount t filt off n) := by
  unfold Machine.filterCount
  split
  · exact h.count (by simp only [monPage, pageAddr]; omega) 0 n
  · exact h

theorem SameLdg.sendVector (f v : Nat) : SameLdg s (sendVector t f v) := by
  unfold Machine.sendVector
  split
  · exact h
  · split
    · exact h.count (by simp [pciPage, pageAddr]) 0 1
    · split <;> exact h

theorem SameLdg.errVector (part : Nat) : SameLdg s (errVector t part) := by
  unfold Machine.errVector
  split
  · exact h
  · split
    · split
      · exact h.count (by simp [pciPage, pageAddr]) 0 1
      · exact h.sendVector 0 0
    · exact h.sendVector part 0

theorem SameLdg.errEvent (part : Nat) : SameLdg s (errEvent t part) := by
  unfold Machine.errEvent crossing
  split
  · exact (h.setReg (by simp [hubPage, pageAddr]) 0 _).count (by simp [hubPage, pageAddr]) 0 1
  · exact SameLdg.errVector (t := crossEnter t 1) h part

/-- An error of another page. -/
theorem SameLdg.raiseErr {page : Nat} (hp : page % 4096 = 0) (hne : page ≠ ldgPage) (b : Nat) (who : Who) (part : Nat) :
    SameLdg s (raiseErr t page b who part) := by
  have hreg : ∀ off < 4096, (page + off) / 4096 ≠ 0x500 := fun off ho => by
    simp only [ldgPage, pageAddr] at hne
    omega
  have first : SameLdg s (if t.reg 0 (page + 0x18) = 0 then t.setReg 0 (page + 0x20) (who.layer * 2 ^ 16 + who.oper) else t) := by
    split
    · exact h.setReg (hreg _ (by decide)) 0 _
    · exact h
  have stat := first.setReg (hreg 0x18 (by decide)) 0 (t.reg 0 (page + 0x18) ||| 2 ^ b)
  unfold Machine.raiseErr
  simp only
  split
  · exact stat
  · split
    · exact stat.trace _ _ _ _ _
    · exact (stat.trace _ _ _ _ _).errEvent part

theorem SameLdg.recordSector (a kind : Nat) (patrol : Bool) (who : Who) : SameLdg s (recordSector t a kind patrol who) := by
  have hpage (off : Nat) : (stackPage (stackOf t a) + off) / 4096 ≠ 0x500 := by
    simp only [stackPage, pageAddr]
    omega
  unfold Machine.recordSector
  simp only
  refine SameLdg.raiseErr ?_ ?_ ?_ 14 who 0
  · split
    · exact h
    · exact (h.setReg (hpage _) 0 _).setReg (hpage _) 0 _
  · simp only [stackPage, pageAddr]
    omega
  · simp only [stackPage, ldgPage, pageAddr]
    omega

theorem SameLdg.moveSector (a : Nat) (win part : Bool) (ring : Option Nat) : SameLdg s (moveSector t a win part ring) := by
  have hpage (st off : Nat) : (stackPage st + off) / 4096 ≠ 0x500 := by
    simp only [stackPage, pageAddr]
    omega
  unfold Machine.moveSector usePage
  cases win <;> exact (SameLdg.count (t := t) h (hpage _ _) 0 _).count (hpage _ _) 0 _

theorem SameLdg.wakeIsland (i : Nat) : SameLdg s (wakeIsland t i) := by
  unfold Machine.wakeIsland
  split
  · exact h
  · simp only
    split
    · exact SameLdg.count (t := { t with power := _, stackSet := _ }) h (by simp [hubPage, pageAddr]) i 1
    · exact h

theorem SameLdg.crossDies (e d len input who tag : Nat) (ring : Option Nat) :
    SameLdg s (crossDies t e d len input who tag ring) := by
  obtain ⟨ar, eq⟩ := crossDies_shape t e d len input who tag ring
  rw [eq]
  exact h

theorem SameLdg.syncBeat (r dir op : Nat) : SameLdg s (syncBeat t r dir op) := by
  obtain ⟨ar, eq⟩ := syncBeat_shape t r dir op
  rw [eq]
  exact h

theorem SameLdg.countLoomCommand (r : Nat) (b : List Byte) : SameLdg s (countLoomCommand t r b) := by
  unfold Machine.countLoomCommand
  split
  · split
    · exact h.count (by simp only [pnlPage, pageAddr]; omega) 0 1
    · exact h
  · exact h

end SameLdg

theorem SameLdg.failAccess {s t : State} (h : SameLdg s t) (who : Who) (xs : List (Nat × Nat)) (counted : List Nat) :
    SameLdg s (failAccess t who xs counted) := by
  induction xs generalizing t counted with
  | nil => exact h
  | cons x xs ih =>
    unfold Machine.failAccess
    simp only
    split
    · exact ih (h.recordSector _ _ _ _) _
    · exact ih ((h.count (by simp only [stackPage, pageAddr]; omega) 0 1).recordSector _ _ _ _) _

theorem SameLdg.hbmLoad {s t : State} (h : SameLdg s t) (a n : Nat) (who : Who) (ring : Option Nat) :
    SameLdg s (t.hbmLoad a n who ring) := by
  have moved : SameLdg s (moveBursts t a n false (inWindow t) ring) := by
    unfold moveBursts
    generalize inWindow t = win
    induction sectorsOf a n generalizing t with
    | nil => exact h
    | cons x xs ih => exact ih (h.moveSector _ _ _ _)
  unfold State.hbmLoad
  exact SameLdg.failAccess (t := dropLost _ a n false) moved who _ _

theorem SameLdg.hbmPieces {s t : State} (h : SameLdg s t) (fuel a len input who tag : Nat) (demoted : Bool)
    (ring : Option Nat) : SameLdg s (hbmPieces fuel t a len input who tag demoted ring) := by
  induction fuel generalizing t a len with
  | zero => exact h
  | succ fuel ih =>
    unfold Machine.hbmPieces
    simp only
    split
    · exact h
    · exact ih (t := arbEnqueue _ _ _) (h.wakeIsland _) _ _

/-- The read of a slot counts and fails in the pages of the stacks and the hub alone. -/
theorem fetchSlot_sameLdg (s : State) (r : Nat) : SameLdg s (fetchSlot s r) := by
  unfold fetchSlot
  simp only
  split
  · exact .refl s
  · split
    · exact .refl s
    · exact (((SameLdg.refl s).crossDies _ _ _ _ _ _ _).hbmPieces _ _ _ _ _ _ _ _).hbmLoad _ _ _ _

theorem beginEntry_sameLdg (s : State) (r : Nat) (b : List Byte) (w : EntryWait) : SameLdg s (beginEntry s r b w) := by
  unfold beginEntry
  obtain ⟨pc, eq⟩ := takeRung_shape (fetchSlot s r) r
  have rung : SameLdg s (takeRung (fetchSlot s r) r) := by
    rw [eq]
    exact fetchSlot_sameLdg s r
  exact SameLdg.trace (t := State.setRing _ r _) (rung.syncBeat r 0 (entryOp b)) _ _ _ _ _

/-- A completion with OK or STATE_CONFLICT sets no error bit. -/
theorem finishWith_sameLdg (s : State) (r seq page : Nat) {c : Completion} (hc : c.status < 2) :
    SameLdg s (finishWith s r seq page c) := by
  unfold finishWith
  simp only
  split
  · exact .refl s
  · next f _ =>
    have counted (R : Ring) (n : Nat) : SameLdg s (filterCount ((s.setRing r R).count 0 (pciPage + 0x60) n) f.filt 0x128 1) :=
      (SameLdg.count (t := s.setRing r R) (.refl s) (by simp [pciPage, pageAddr]) 0 n).filterCount (by decide) _ _
    rw [entryError, if_neg (by omega)]
    split
    · exact counted _ _
    · exact (counted _ _).filterCount (by decide) _ _

theorem status_completionFor (R : Ring) (b : List Byte) (status res0 res1 res2 : Nat) :
    (completionFor R b status res0 res1 res2).status = status := by
  unfold completionFor
  simp only
  split <;> rfl

theorem finishEntry_sameLdg (s : State) (r seq res0 res1 res2 : Nat) {status : Nat} (hs : status < 2) :
    SameLdg s (finishEntry s r seq status res0 res1 res2) := by
  cases hf : openFlight (s.ring r) seq with
  | none =>
    rw [finishEntry_none _ _ _ _ _ _ _ hf]
    exact .refl s
  | some f =>
    rw [finishEntry_eq_of_open hf]
    exact (((SameLdg.refl s).syncBeat r 1 _).countLoomCommand r _).trans
      (finishWith_sameLdg _ _ _ _ (by rwa [status_completionFor]))

theorem actEntry_sameLdg (s : State) (r : Nat) (b : List Byte) (res0 res1 res2 : Nat) {status : Nat} (hs : status < 2) :
    SameLdg s (actEntry s r b status res0 res1 res2) :=
  (beginEntry_sameLdg s r b .running).trans (finishEntry_sameLdg _ _ _ _ _ _ hs)

/-- A counter of the ledger's page that counts after a step which left the page alone has advanced by that count. -/
theorem SameLdg.counted {s t : State} (h : SameLdg s t) {off : Nat} (ho : off < 4096) (n : Nat) :
    Counted s (t.count 0 (ldgPage + off) n) 0 (ldgPage + off) n := by
  unfold Counted
  rw [State.reg_count]
  exact congrArg (fun v => (v + n) % 2 ^ 64) (h off ho)

end Sys2Proof.Machine
end

section
/-! REQ_OPEN and REQ_CLOSE (R240, R241, R258), PWR_PHASE and PWR_RESTORE (R226, R227), and the entries that no block runs
(R46, R123, R409). -/

namespace Sys2Proof.Machine

open Sys2Proof

/-! ## The next entry (R46, R123, R197) -/

theorem Answers.imp {i : Instr} {s : State} {P Q : State → Prop} (h : Answers i s P) (hpq : ∀ t, P t → Q t) :
    Answers i s Q := by
  obtain ⟨t, he, ht⟩ := h
  exact ⟨t, he, hpq t ht⟩

/-- An entry that acts has its opcode, and every earlier entry of its ring has completed. -/
theorem nextActing_spec {s : State} {r op : Nat} {b : List Byte} (h : nextActing s r op = some b) :
    entryOp b = op ∧ (s.ring r).quiet = true := by
  unfold nextActing at h
  split at h
  · cases h
  · split at h
    · next hc =>
      obtain rfl := Option.some.inj h
      obtain ⟨hop, -, hq⟩ := hc
      exact ⟨hop, hq⟩
    · cases h

/-- The admission of a ring replaces no refusal of an entry's own checks (log entry 86). -/
theorem orRefused_of_ne_zero (s : State) (r : Nat) {st : Nat} (h : st ≠ 0) : orRefused s r st = st := by
  simp [orRefused, h]

/-- The admission refuses with ADMISSION_REFUSED. -/
theorem orRefused_zero_eq_nine {s : State} {r : Nat} (h : orRefused s r 0 ≠ 0) : orRefused s r 0 = 9 := by
  unfold orRefused at *
  split at h
  · next hc => rw [if_pos hc]
  · exact absurd rfl h

/-- A command that refuses its entry answers with the entry's completion, and stays on its ring. -/
theorem answers_refusal {i : Instr} {s : State} {r op : Nat} {b : List Byte} (status : Nat) (hr : r < 65536)
    (hb : nextActing s r op = some b) (hop : op ≠ 0x12)
    (he : exec i s = onUnit (decide (r < 65536)) (actEntry s r b status 0 0 0)) :
    Answers i s fun t => Done t r (s.ring r).issue (completionOf b status 0 0 0) ∧ EntryFrame s t r := by
  obtain ⟨hopb, hq⟩ := nextActing_spec hb
  exact answers_of_onUnit he (decide_eq_true hr)
    ⟨done_actEntry hq (fun ⟨_, h⟩ => hop (hopb.symm.trans h)) .., actEntry_frame ..⟩

/-! ## REQ_OPEN (R240, R241) -/

theorem openRequest_within (s : State) (r id seq wall : Nat) : WithinRing s (openRequest s r id seq wall) r :=
  ⟨(Quiet.refl s).calm, fun _ hk => State.ring_setRing_ne _ _ (mt List.mem_singleton.mpr hk), (Quiet.refl s).objs⟩

/-- The ring of a request that opens bears it. -/
theorem ring_openRequest (s : State) (r id seq wall : Nat) :
    (openRequest s r id seq wall).ring r = { s.ring r with req := some ⟨id, seq, wall, s.ledger.nextReq + 1⟩ } :=
  State.ring_setRing ..

/-- The account of a request that opens. -/
theorem account_openRequest (s : State) (r id seq wall : Nat) :
    (openRequest s r id seq wall).account (s.ledger.nextReq + 1) =
      { accountZero with ring := r, part := (s.ring r).part, id := id, openSeq := seq, openWall := wall } :=
  State.account_setAccount ..

section ReqOpen

variable {s : State} {r : Nat} {b : List Byte} (hr : r < 65536) (hb : nextActing s r 4 = some b)
include hb

theorem exec_reqOpen : exec (.reqOpen r) s = onUnit (decide (r < 65536)) (doReqOpen s r b) := by
  show execReqOpen r s = _
  rw [execReqOpen, hb]

include hr

theorem reqOpen_of_bad_format (hf : reqFormat b = false) : Answers (.reqOpen r) s fun t =>
    Done t r (s.ring r).issue (completionOf b 2 0 0 0) ∧ EntryFrame s t r :=
  answers_refusal 2 hr hb (by decide) (by rw [exec_reqOpen hb, doReqOpen, hf]; rfl)

/-- A second open request is a conflict that the ledger counts. -/
theorem reqOpen_of_open (hf : reqFormat b = true) (ho : (s.ring r).req ≠ none) : Answers (.reqOpen r) s fun t =>
    Done t r (s.ring r).issue (completionOf b 1 0 0 0) ∧ Counted s t 0 (ldgPage + 0x68) 1 ∧ EntryFrame s t r := by
  obtain ⟨hop, hq⟩ := nextActing_spec hb
  have eq : doReqOpen s r b = (actEntry s r b 1 0 0 0).count 0 (ldgPage + 0x68) 1 := by
    simp [doReqOpen, hf, Option.isSome_iff_ne_none.mpr ho]
  refine answers_of_onUnit (exec_reqOpen hb) (decide_eq_true hr) ?_
  rw [eq]
  exact ⟨done_actEntry hq (by simp [hop]) _ _ _ _, (actEntry_sameLdg s r b 0 0 0 (by decide)).counted (by decide) 1,
    (actEntry_frame s r b 1 0 0 0).count _ _ _⟩

theorem reqOpen_of_refused (hf : reqFormat b = true) (ho : (s.ring r).req = none) (ha : orRefused s r 0 ≠ 0) :
    Answers (.reqOpen r) s fun t => Done t r (s.ring r).issue (completionOf b 9 0 0 0) ∧ EntryFrame s t r := by
  refine answers_refusal 9 hr hb (by decide) ?_
  rw [exec_reqOpen hb]
  simp [doReqOpen, hf, ho, orRefused_zero_eq_nine ha]

/-- Otherwise the request opens, and its entry completes on the ring that bears it. -/
theorem reqOpen_of_free (hf : reqFormat b = true) (ho : (s.ring r).req = none) (ha : orRefused s r 0 = 0) :
    Answers (.reqOpen r) s fun t =>
      Done t r (s.ring r).issue (completionOf b 0 0 0 0) ∧
        EntryFrame (openRequest s r (field b 8 8) (s.ring r).issue (field b 16 8)) t r := by
  obtain ⟨hop, hq⟩ := nextActing_spec hb
  have eq : doReqOpen s r b =
      actEntry (openRequest s r (field b 8 8) (s.ring r).issue (field b 16 8)) r b 0 0 0 0 := by
    simp [doReqOpen, hf, ho, ha]
  refine answers_of_onUnit (exec_reqOpen hb) (decide_eq_true hr) ?_
  rw [eq]
  have ring := ring_openRequest s r (field b 8 8) (s.ring r).issue (field b 16 8)
  have done := done_actEntry (s := openRequest s r (field b 8 8) (s.ring r).issue (field b 16 8)) (r := r) (b := b)
    (by rw [ring]; exact hq) (by simp [hop]) 0 0 0 0
  rw [ring] at done
  exact ⟨done, actEntry_frame ..⟩

end ReqOpen

/-! ## REQ_CLOSE (R241, R258) -/

/-- The account of the open request of a ring as it closes. -/
def closedAccount (s : State) (o : OpenReq) (seq wall : Nat) : Account :=
  { s.account o.no with closeSeq := seq, closeWall := wall, closedIn := some (openWindow s), receipt := s.ldg 0x158,
                        coFed := bit (s.ldg 0x104) 26, abandoned := false }

/-- A close takes the next receipt number, and frees its ring. -/
theorem closeRequest_eq {s : State} {r : Nat} {o : OpenReq} (ho : (s.ring r).req = some o) (seq wall : Nat) :
    closeRequest s r seq wall false =
      ((s.setAccount o.no (closedAccount s o seq wall)).setReg 0 (ldgPage + 0x158) (s.ldg 0x158 + 1)).setRing r
        { s.ring r with req := none } := by
  simp [closeRequest, ho, closedAccount]

/-- A sound close that finds room in the ledger starts and acts. -/
theorem doReqClose_of_room {s : State} {r : Nat} {b : List Byte} (hf : reqFormat b = true) (ha : orRefused s r 0 = 0)
    (hl : ledgerFull s = false) : doReqClose s r b = actClose (beginEntry s r b .running) r (s.ring r).issue b := by
  simp [doReqClose, hf, ha, hl]

section ReqClose

variable {s : State} {r : Nat} {b : List Byte} (hr : r < 65536) (hb : nextActing s r 5 = some b)
include hb

theorem exec_reqClose : exec (.reqClose r) s = onUnit (decide (r < 65536)) (doReqClose s r b) := by
  show execReqClose r s = _
  rw [execReqClose, hb]

include hr

theorem reqClose_of_bad_format (hf : reqFormat b = false) : Answers (.reqClose r) s fun t =>
    Done t r (s.ring r).issue (completionOf b 2 0 0 0) ∧ EntryFrame s t r := by
  refine answers_refusal 2 hr hb (by decide) ?_
  rw [exec_reqClose hb]
  simp [doReqClose, hf, orRefused_of_ne_zero]

theorem reqClose_of_refused (hf : reqFormat b = true) (ha : orRefused s r 0 ≠ 0) : Answers (.reqClose r) s fun t =>
    Done t r (s.ring r).issue (completionOf b 9 0 0 0) ∧ EntryFrame s t r := by
  refine answers_refusal 9 hr hb (by decide) ?_
  rw [exec_reqClose hb]
  simp [doReqClose, hf, orRefused_zero_eq_nine ha]

variable (hf : reqFormat b = true) (ha : orRefused s r 0 = 0)
include hf ha

theorem reqClose_of_full (hl : ledgerFull s = true) : Answers (.reqClose r) s fun t =>
    Waits t r (s.ring r).issue .ledger ∧ EntryFrame s t r := by
  have eq : doReqClose s r b = beginEntry s r b .ledger := by simp [doReqClose, hf, ha, hl]
  refine answers_of_onUnit (exec_reqClose hb) (decide_eq_true hr) ?_
  rw [eq]
  exact ⟨waits_beginEntry s r b .ledger, beginEntry_frame s r b .ledger⟩

variable (hl : ledgerFull s = false)
include hl

/-- A close of no open request, or of another one, is a conflict that the ledger counts. -/
theorem reqClose_of_other (ho : ∀ o, (s.ring r).req = some o → o.id ≠ field b 8 8) : Answers (.reqClose r) s fun t =>
    Done t r (s.ring r).issue (completionOf b 1 0 0 0) ∧ Counted s t 0 (ldgPage + 0x68) 1 ∧ EntryFrame s t r := by
  obtain ⟨hop, hq⟩ := nextActing_spec hb
  have begun := beginEntry_frame s r b .running
  have eq : doReqClose s r b = (actEntry s r b 1 0 0 0).count 0 (ldgPage + 0x68) 1 := by
    rw [doReqClose_of_room hf ha hl, actClose, begun.req]
    split
    · rfl
    · next o h => rw [if_pos (ho o h)]; rfl
  refine answers_of_onUnit (exec_reqClose hb) (decide_eq_true hr) ?_
  rw [eq]
  exact ⟨done_actEntry hq (by simp [hop]) _ _ _ _, (actEntry_sameLdg s r b 0 0 0 (by decide)).counted (by decide) 1,
    (actEntry_frame s r b 1 0 0 0).count _ _ _⟩

/-- A close of the open request takes its receipt number from the ledger's counter. -/
theorem reqClose_of_same {o : OpenReq} (ho : (s.ring r).req = some o) (hid : o.id = field b 8 8) :
    Answers (.reqClose r) s fun t =>
      Done t r (s.ring r).issue (completionOf b 0 (s.ldg 0x158) 0 0) ∧ (t.ring r).req = none ∧
        Counted s t 0 (ldgPage + 0x158) 1 ∧ t.account o.no = closedAccount s o (s.ring r).issue (field b 16 8) ∧
        WithinRing s t r := by
  obtain ⟨hop, hq⟩ := nextActing_spec hb
  have begun := beginEntry_frame s r b .running
  have ldg := beginEntry_sameLdg s r b .running
  obtain ⟨f, hopen, hbytes⟩ := openFlight_beginEntry b .running hq
  generalize hu : beginEntry s r b .running = u at begun ldg hopen
  have hou : (u.ring r).req = some o := begun.req.trans ho
  have closes := closeRequest_eq hou (s.ring r).issue (field b 16 8)
  generalize hv : closeRequest u r (s.ring r).issue (field b 16 8) false = v at closes
  have ring : v.ring r = { u.ring r with req := none } := by rw [closes, State.ring_setRing]
  have eq : doReqClose s r b = finishEntry v r (s.ring r).issue 0 (s.ldg 0x158) 0 0 := by
    rw [doReqClose_of_room hf ha hl, hu, actClose, hou, ← hv, ldg 0x158 (by decide)]
    exact if_neg (not_not_intro hid)
  have finished := finishEntry_frame v r (s.ring r).issue 0 (s.ldg 0x158) 0 0
  refine answers_of_onUnit (exec_reqClose hb) (decide_eq_true hr) ?_
  rw [eq]
  refine ⟨?done, ?req, ?counted, ?account, ?within⟩
  case done =>
    rw [← hbytes]
    exact done_finishEntry (by rw [ring]; exact hopen) (by simp [hbytes, hop]) 0 _ 0 0
  case req => rw [finished.req, ring]
  case counted =>
    have receipt := finishEntry_sameLdg v r (s.ring r).issue (s.ldg 0x158) 0 0 (status := 0) (by decide) 0x158 (by decide)
    unfold Counted
    refine receipt.trans ?_
    rw [closes, State.ldg, State.reg_setRing, State.reg_setReg, ldg 0x158 (by decide)]
    rfl
  case account =>
    rw [finished.account, closes, State.account_setRing, State.account_setReg, State.account_setAccount]
    simp only [closedAccount, openWindow, begun.account, ldg 0x158 (by decide), ldg 0x104 (by decide), ldg 0x50 (by decide)]
  case within =>
    refine begun.toWithinRing.trans (WithinRing.trans ?_ finished.toWithinRing)
    rw [closes]
    exact ⟨(Quiet.refl u).calm, fun _ hk => State.ring_setRing_ne _ _ (mt List.mem_singleton.mpr hk), (Quiet.refl u).objs⟩

end ReqClose

/-- REQ_OPEN and REQ_CLOSE as R240, R241, R258 and R197 have them. -/
theorem requestEntries : Sys2Proof.Claims.RequestEntries := by
  refine ⟨fun s r b hr hb => ⟨fun hf => ?badOpen, fun hf ho => ?second, fun hf ho ha => ?refusedOpen, fun hf ho ha => ?opens⟩,
    fun s r b hr hb => ⟨fun hf => ?badClose, fun hf ha => ?refusedClose, fun hf ha hl => ?full, fun hf ha hl ho => ?other,
      fun o hf ha hl ho hid => ?closes⟩⟩
  case badOpen => exact (reqOpen_of_bad_format hr hb hf).imp fun t ⟨done, fr⟩ => ⟨done, fr.req, fr.calm, fr.others⟩
  case second =>
    exact (reqOpen_of_open hr hb hf ho).imp fun t ⟨done, counted, fr⟩ => ⟨done, fr.req, counted, fr.calm, fr.others⟩
  case refusedOpen =>
    exact (reqOpen_of_refused hr hb hf ho ha).imp fun t ⟨done, fr⟩ => ⟨done, fr.req.trans ho, fr.calm, fr.others⟩
  case opens =>
    refine (reqOpen_of_free hr hb hf ho ha).imp fun t ⟨done, fr⟩ => ?_
    have within := (openRequest_within s r (field b 8 8) (s.ring r).issue (field b 16 8)).trans fr.toWithinRing
    refine ⟨done, ?_, (fr.account _).trans (account_openRequest ..), within.calm, within.others, within.objs⟩
    rw [fr.req, ring_openRequest]
  case badClose => exact (reqClose_of_bad_format hr hb hf).imp fun t ⟨done, fr⟩ => ⟨done, fr.req, fr.calm, fr.others⟩
  case refusedClose => exact (reqClose_of_refused hr hb hf ha).imp fun t ⟨done, fr⟩ => ⟨done, fr.req, fr.calm, fr.others⟩
  case full => exact (reqClose_of_full hr hb hf ha hl).imp fun t ⟨waits, fr⟩ => ⟨waits, fr.req, fr.calm, fr.others⟩
  case other =>
    exact (reqClose_of_other hr hb hf ha hl ho).imp fun t ⟨done, counted, fr⟩ => ⟨done, fr.req, counted, fr.calm, fr.others⟩
  case closes =>
    refine (reqClose_of_same hr hb hf ha hl ho hid).imp fun t ⟨done, req, counted, account, within⟩ => ?_
    rw [account]
    exact ⟨done, req, counted, rfl, rfl, rfl, rfl, rfl, within.calm, within.others, within.objs⟩

/-! ## PWR_PHASE and PWR_RESTORE (R226, R227) -/

/-- An entry that sets its ring's phases and completes at once: the phases stand as it has set them. -/
theorem answers_actEntry_setPhase {i : Instr} {s : State} {r op : Nat} {b : List Byte} {res0 res1 phase saved : Nat}
    (hr : r < 65536) (hb : nextActing s r op = some b) (hop : op ≠ 0x12)
    (he : exec i s = onUnit (decide (r < 65536))
      (actEntry (s.setRing r { s.ring r with phase := phase, savedPhase := saved }) r b 0 res0 res1 0)) :
    Answers i s fun t => (t.ring r).phase = phase ∧ (t.ring r).savedPhase = saved ∧
      Done t r (s.ring r).issue (completionOf b 0 res0 res1 0) ∧ WithinRing s t r := by
  obtain ⟨hopb, hq⟩ := nextActing_spec hb
  have ring := State.ring_setRing s r { s.ring r with phase := phase, savedPhase := saved }
  have set := ((Quiet.refl s).withinRing r).setRing { s.ring r with phase := phase, savedPhase := saved }
  generalize State.setRing s r _ = u at *
  have fr := actEntry_frame u r b 0 res0 res1 0
  have done := done_actEntry (s := u) (r := r) (b := b) (by rw [ring]; exact hq)
    (fun ⟨_, h⟩ => hop (hopb.symm.trans h)) 0 res0 res1 0
  rw [ring] at done
  exact answers_of_onUnit he (decide_eq_true hr)
    ⟨by rw [fr.phase, ring], by rw [fr.savedPhase, ring], done, set.trans fr.toWithinRing⟩

theorem exec_pwrPhase {s : State} {r : Nat} {b : List Byte} (hb : nextActing s r 6 = some b) :
    exec (.pwrPhase r) s = onUnit (decide (r < 65536)) (doPhase s r b) := by
  show execPwrPhase r s = _
  rw [execPwrPhase, hb]

theorem exec_pwrRestore {s : State} {r : Nat} {b : List Byte} (hb : nextActing s r 7 = some b) :
    exec (.pwrRestore r) s = onUnit (decide (r < 65536)) (doRestorePhase s r b) := by
  show execPwrRestore r s = _
  rw [execPwrRestore, hb]

/-- PWR_PHASE and PWR_RESTORE as R226, R227 and R197 have them. -/
theorem phaseEntries : Sys2Proof.Claims.PhaseEntries := by
  refine ⟨fun s r b hr hb => ⟨fun hf ha => ?refusedPhase, fun hf ha => ?sets, fun hf => ?badPhase⟩,
    fun s r b hr hb => ⟨fun hf hz ha => ?refusedRestore, fun hf hz ha => ?restores, fun hf => ?badRestore⟩⟩
  case refusedPhase =>
    refine (answers_refusal 9 hr hb (by decide) ?_).imp
      fun t ⟨done, fr⟩ => ⟨fr.phase, fr.savedPhase, done, fr.calm, fr.others⟩
    rw [exec_pwrPhase hb]
    simp [doPhase, hf, orRefused_zero_eq_nine ha]
  case sets =>
    refine (answers_actEntry_setPhase hr hb (by decide) ?_).imp
      fun t ⟨phase, saved, done, within⟩ => ⟨phase, saved, done, within.calm, within.others⟩
    rw [exec_pwrPhase hb]
    simp [doPhase, hf, ha]
  case badPhase =>
    refine (answers_refusal 2 hr hb (by decide) ?_).imp
      fun t ⟨done, fr⟩ => ⟨fr.phase, fr.savedPhase, done, fr.calm, fr.others⟩
    rw [exec_pwrPhase hb]
    simp [doPhase, hf, orRefused_of_ne_zero]
  case refusedRestore =>
    refine (answers_refusal 9 hr hb (by decide) ?_).imp
      fun t ⟨done, fr⟩ => ⟨fr.phase, fr.savedPhase, done, fr.calm, fr.others⟩
    rw [exec_pwrRestore hb]
    simp [doRestorePhase, hf, hz, orRefused_zero_eq_nine ha]
  case restores =>
    refine (answers_actEntry_setPhase hr hb (by decide) ?_).imp
      fun t ⟨phase, saved, done, within⟩ => ⟨phase, saved, done, within.calm, within.others⟩
    rw [exec_pwrRestore hb]
    simp [doRestorePhase, hf, hz, ha]
  case badRestore =>
    have bad : (phaseFormat b && decide (field b 6 1 = 0)) = false := by
      rw [Bool.and_eq_false_iff, decide_eq_false_iff_not]
      exact hf
    refine (answers_refusal 2 hr hb (by decide) ?_).imp
      fun t ⟨done, fr⟩ => ⟨fr.phase, fr.savedPhase, done, fr.calm, fr.others⟩
    rw [exec_pwrRestore hb]
    simp [doRestorePhase, bad, orRefused_of_ne_zero]

/-! ## Entries that no block runs (R46, R123, R409) -/

/-- A panel's ring runs LOOM_SET_PANELS. -/
theorem opServed_setPanels {R : Ring} (hs : R.server = 1) : opServed R 0x12 = true := by
  simp [opServed, hs]

/-- An entry whose opcode its server does not run completes BAD_DESCRIPTOR. -/
theorem reservedOpcode_answers {s : State} {r : Nat} {b : List Byte} (hr : r < 65536) (hb : nextEntry s r = some b)
    (hop : opServed (s.ring r) (entryOp b) = false) (hq : (s.ring r).quiet = true) : Answers (.reservedOpcode r) s fun t =>
      Done t r (s.ring r).issue (completionOf b 2 0 0 0) ∧ (t.ring r).issue = add32 (s.ring r).issue 1 ∧ EntryFrame s t r := by
  have he : exec (.reservedOpcode r) s = onUnit (decide (r < 65536)) (actEntry s r b 2 0 0 0) := by
    show execReservedOpcode r s = _
    simp [execReservedOpcode, hb, hop, hq]
  have other : ¬ ((s.ring r).server = 1 ∧ entryOp b = 0x12) := fun ⟨hs, h⟩ => by
    rw [h, opServed_setPanels hs] at hop
    cases hop
  exact answers_of_onUnit he (decide_eq_true hr)
    ⟨done_actEntry hq other 2 0 0 0, actEntry_issue .., actEntry_frame ..⟩

/-- The completion of an entry whose slot cannot be read: it starts without its fields, and completes in the ring's page. -/
def unreadEntry (s : State) (r : Nat) (c : Completion) : State :=
  finishWith (beginEntry s r (List.replicate 64 0) .running) r (s.ring r).issue (ringPage (dieOfRing r)) c

theorem unreadEntry_frame (s : State) (r : Nat) (c : Completion) : EntryFrame s (unreadEntry s r c) r :=
  (beginEntry_frame ..).trans (finishWith_frame ..)

theorem done_unreadEntry {s : State} {r : Nat} (hq : (s.ring r).quiet = true) (c : Completion) :
    Done (unreadEntry s r c) r (s.ring r).issue c := by
  obtain ⟨f, hf, -⟩ := openFlight_beginEntry (List.replicate 64 0) .running hq
  exact done_finishWith hf _ c

/-- What a slot's failure does to a ring whose earlier entries have all completed: a slot outside its space is not read, and a
read that meets an uncorrectable error is one of the sync page too. -/
theorem slotFailure_eq_of_quiet {s : State} {r : Nat} (hm : ringMayStart (s.ring r) = true)
    (hs : ringServed s r (s.ring r) = true) (hreach : slotReached s r (s.ring r) = true) (hq : (s.ring r).quiet = true) :
    slotFailure s r =
    if (s.ring r).slotInside (s.ring r).issue = false then unreadEntry s r (completionOf (List.replicate 64 0) 2 0 0 0)
    else if slotEcc s (s.ring r) (s.ring r).issue = true then
      raiseErr (unreadEntry s r { completionOf (List.replicate 64 0) 7 0 0 0 with stops := true }) syncPage 7 Who.none
        (s.ring r).part
    else s := by
  have streams : ((s.ring r).fly.all fun f =>
      f.isDone || decide (entryOp f.bytes = 0x10 ∨ entryOp f.bytes = 0x20 ∨ entryOp f.bytes = 0x21)) = true :=
    List.all_eq_true.mpr fun f hf => by rw [List.all_eq_true.mp hq f hf, Bool.true_or]
  unfold slotFailure unreadEntry
  simp only [streams, hm, hs, hreach, Bool.not_true, Bool.or_false, Bool.false_eq_true, if_false, Bool.not_eq_true']

theorem Done.raiseErr {t : State} {r q : Nat} {c : Completion} (h : Done t r q c) (page b : Nat) (who : Who) (part : Nat) :
    Done (raiseErr t page b who part) r q c := by
  obtain ⟨rg, pc, mo, ou, eq⟩ := raiseErr_shape t page b who part
  rw [eq]
  exact h

/-- RESERVED_OPCODE and SLOT_READ_FAILURE as R46, R123 and R409 have them. -/
theorem entriesThatNoBlockRuns : Sys2Proof.Claims.EntriesThatNoBlockRuns := by
  refine ⟨fun s r b hr hb hop hq => ?reserved, fun s r hr hm hs hreach hq => ⟨fun ho => ?outside, fun hi he => ?ecc⟩⟩
  case reserved =>
    exact (reservedOpcode_answers hr hb hop hq).imp
      fun t ⟨done, issue, fr⟩ => ⟨done, issue, fr.calm, fr.others, fr.objs⟩
  case outside =>
    refine answers_of_onUnit rfl (decide_eq_true hr) ?_
    rw [slotFailure_eq_of_quiet hm hs hreach hq, if_pos ho]
    have fr := unreadEntry_frame s r (completionOf (List.replicate 64 0) 2 0 0 0)
    exact ⟨done_unreadEntry hq _, fr.calm, fr.others⟩
  case ecc =>
    refine answers_of_onUnit rfl (decide_eq_true hr) ?_
    rw [slotFailure_eq_of_quiet hm hs hreach hq, if_neg (by simp [hi]), if_pos he]
    have fr := (unreadEntry_frame s r { completionOf (List.replicate 64 0) 7 0 0 0 with stops := true }).raiseErr syncPage 7
      Who.none (s.ring r).part
    exact ⟨(done_unreadEntry hq _).raiseErr .., fr.calm, fr.others⟩

/-- Settles O15: requests by `requestEntries`, power phases by `phaseEntries`, and reserved opcodes and failed slots by
`entriesThatNoBlockRuns`. -/
theorem ledgerPhaseAndFailedEntries : Obligations.LedgerPhaseAndFailedEntries :=
  ⟨requestEntries, phaseEntries, entriesThatNoBlockRuns⟩

end Sys2Proof.Machine
end

section
/-! Messages of the pack: what sending a message, sending it again, and taking one from the manager leave unchanged (R268,
R277, R280). -/

namespace Sys2Proof.Machine

open Sys2Proof

/-! ## Quiet steps and registers -/

theorem Quiet.trans {s t u : State} (h : Quiet s t) (h' : Quiet t u) : Quiet s u :=
  ⟨h.calm.trans h'.calm, fun k => (h'.rings k).trans (h.rings k), fun k => (h'.objs k).trans (h.objs k)⟩

theorem RegsOnly.quiet {s t : State} (h : RegsOnly s t) : Quiet s t := by
  obtain ⟨rg, rfl⟩ := h
  exact ⟨(Quiet.refl s).calm, (Quiet.refl s).rings, (Quiet.refl s).objs⟩

theorem RegsOnly.trans {s t u : State} (h : RegsOnly s t) (h' : RegsOnly t u) : RegsOnly s u := by
  obtain ⟨_, rfl⟩ := h
  obtain ⟨rg, rfl⟩ := h'
  exact ⟨rg, rfl⟩

theorem RegsOnly.pack_eq {s t : State} (h : RegsOnly s t) : t.pack = s.pack := by
  obtain ⟨_, rfl⟩ := h
  rfl

theorem State.reg_congr {s t : State} (h : t.regs = s.regs) (i a : Nat) : t.reg i a = s.reg i a := by
  simp only [State.reg, h]

theorem OtherRegs.of_regs_eq {s t : State} (h : t.regs = s.regs) (ks : List (Nat × Nat)) : OtherRegs s t ks :=
  fun i a _ => State.reg_congr h i a

theorem OtherRegs.refl (s : State) (ks : List (Nat × Nat)) : OtherRegs s s ks := fun _ _ _ => rfl

theorem OtherRegs.trans {s t u : State} {ks : List (Nat × Nat)} (h : OtherRegs s t ks) (h' : OtherRegs t u ks) :
    OtherRegs s u ks := fun i a hk => (h' i a hk).trans (h i a hk)

theorem OtherRegs.mono {s t : State} {ks ls : List (Nat × Nat)} (h : OtherRegs s t ks) (hkl : ks ⊆ ls) : OtherRegs s t ls :=
  fun i a hk => h i a fun k hm => hk k (hkl hm)

theorem OtherRegs.setReg {s t : State} {ks : List (Nat × Nat)} {i a : Nat} (h : OtherRegs s t ks) (hk : (i, a) ∈ ks)
    (v : Nat) : OtherRegs s (t.setReg i a v) ks := fun j b hne => by
  rw [State.reg_setReg_ne t v (hne (i, a) hk), h j b hne]

/-- A step in the records of the pack alone. -/
theorem Quiet.setPack {s t : State} (h : Quiet s t) (p : Pack) : Quiet s { t with pack := p } := ⟨h.calm, h.rings, h.objs⟩

theorem State.reg_setPack (s : State) (p : Pack) (i a : Nat) : ({ s with pack := p } : State).reg i a = s.reg i a := rfl

theorem OtherRegs.setPack {s t : State} {ks : List (Nat × Nat)} (h : OtherRegs s t ks) (p : Pack) :
    OtherRegs s { t with pack := p } ks := h

/-- A register of another offset than the listed ones holds what it held. -/
theorem OtherRegs.reg_of_off_ne {s t : State} {ks : List (Nat × Nat)} (h : OtherRegs s t ks) {a : Nat} (ha : a < 2 ^ 32)
    (hk : ∀ k ∈ ks, k.2 < 2 ^ 32 ∧ a ≠ k.2) (i : Nat) : t.reg i a = s.reg i a :=
  h i a fun k hm => regKey_ne_of_off_ne ha (hk k hm).1 (hk k hm).2

/-! ## Messages sent -/

/-- What sending may change: the messages sent and kept, the numbers of the next ones, and the queues of arbiters. -/
def Sends (s t : State) : Prop :=
  ∃ mo un out ar, t =
    { s with pack := { s.pack with mseqOut := mo, unacked := un, out := s.pack.out ++ out }, arbs := ar }

theorem Sends.refl (s : State) : Sends s s := ⟨s.pack.mseqOut, s.pack.unacked, [], s.arbs, by rw [List.append_nil]⟩

theorem Sends.trans {s t u : State} (h : Sends s t) (h' : Sends t u) : Sends s u := by
  obtain ⟨_, _, out, _, rfl⟩ := h
  obtain ⟨mo, un, out', ar, rfl⟩ := h'
  exact ⟨mo, un, out ++ out', ar, by simp only [List.append_assoc]⟩

theorem Sends.queueBytes {s t : State} (h : Sends s t) (dst vc input tag : Nat) (ring : Option Nat) (bs : List Byte) :
    Sends s (queueBytes t dst vc input tag ring bs) := by
  obtain ⟨mo, un, out, _, rfl⟩ := h
  obtain ⟨ar, eq⟩ := queueBytes_shape _ dst vc input tag ring bs
  exact ⟨mo, un, out, ar, eq⟩

theorem sends_sendMsg (s : State) (kind : PackKind) (dst : Nat) (args : List Nat) : Sends s (sendMsg s kind dst args) := by
  unfold sendMsg sendMsgAt
  simp only
  split <;> exact Sends.queueBytes ⟨_, _, _, _, rfl⟩ ..

section Sends

variable {s t : State} (h : Sends s t)
include h

theorem Sends.quiet : Quiet s t := by
  obtain ⟨_, _, _, _, rfl⟩ := h
  exact ⟨(Quiet.refl s).calm, (Quiet.refl s).rings, (Quiet.refl s).objs⟩

theorem Sends.regs_eq : t.regs = s.regs := by
  obtain ⟨_, _, _, _, rfl⟩ := h
  rfl

theorem Sends.members_eq : t.pack.members = s.pack.members := by
  obtain ⟨_, _, _, _, rfl⟩ := h
  rfl

theorem Sends.links_eq : t.pack.links = s.pack.links := by
  obtain ⟨_, _, _, _, rfl⟩ := h
  rfl

theorem Sends.lossC_eq : t.pack.lossC = s.pack.lossC := by
  obtain ⟨_, _, _, _, rfl⟩ := h
  rfl

theorem Sends.lossTouched_eq : t.pack.lossTouched = s.pack.lossTouched := by
  obtain ⟨_, _, _, _, rfl⟩ := h
  rfl

theorem Sends.mem_out {k : PackMsg} (hk : k ∈ s.pack.out) : k ∈ t.pack.out := by
  obtain ⟨_, _, _, _, rfl⟩ := h
  exact List.mem_append_left _ hk

end Sends

/-- A device has sent a message of a kind to a member with these arguments. -/
def Sent (t : State) (kind : PackKind) (dst : Nat) (args : List Nat) : Prop :=
  ∃ k ∈ t.pack.out, k.kind = kind ∧ k.dst = dst ∧ k.args = args

theorem Sent.after {s t : State} {kind : PackKind} {dst : Nat} {args : List Nat} (h : Sent s kind dst args) (ht : Sends s t) :
    Sent t kind dst args := by
  obtain ⟨k, hk, is⟩ := h
  exact ⟨k, ht.mem_out hk, is⟩

theorem sent_sendMsg (s : State) (kind : PackKind) (dst : Nat) (args : List Nat) :
    Sent (sendMsg s kind dst args) kind dst args := by
  obtain ⟨k, hk, is⟩ := Option.map_eq_some_iff.mp (sendMsg_last s kind dst args)
  simp only [Prod.mk.injEq] at is
  exact ⟨k, List.mem_of_getLast? hk, is⟩

/-- A message to each member of a list, with arguments that no message changes: each has been sent. -/
theorem sent_foldl_sendMsg {α : Type} {s : State} {kind : PackKind} {dst : α → Nat} {args : State → α → List Nat}
    (hargs : ∀ t, Sends s t → args t = args s) (xs : List α) : ∀ t, Sends s t →
      Sends t (xs.foldl (fun t x => sendMsg t kind (dst x) (args t x)) t) ∧
        ∀ x ∈ xs, Sent (xs.foldl (fun t x => sendMsg t kind (dst x) (args t x)) t) kind (dst x) (args s x) := by
  induction xs with
  | nil => exact fun t _ => ⟨.refl t, fun _ hx => absurd hx List.not_mem_nil⟩
  | cons x xs ih =>
    intro t ht
    have first := sends_sendMsg t kind (dst x) (args t x)
    obtain ⟨rest, sent⟩ := ih _ (ht.trans first)
    refine ⟨first.trans rest, fun y hy => ?_⟩
    rcases List.mem_cons.mp hy with rfl | hy
    · rw [← hargs t ht]
      exact (sent_sendMsg ..).after rest
    · exact sent y hy

/-- The other members of the pack are those that ROLE, the members and the roster give. -/
theorem otherMembers_congr {s t : State} (hid : t.reg 0 (packPage + 0x100) = s.reg 0 (packPage + 0x100))
    (hm : t.pack.members = s.pack.members) (hr : t.pack.roster = s.pack.roster) : otherMembers t = otherMembers s := by
  unfold otherMembers packRole ownMember State.fld
  rw [hid, hm, hr]

theorem sends_sendEvery (s : State) (kind : PackKind) (args : List Nat) : Sends s (sendEvery s kind args) :=
  (sent_foldl_sendMsg (dst := fun m => m) (args := fun _ _ => args) (fun _ _ => rfl) (otherMembers s) s (.refl s)).1

theorem sent_sendEvery {s : State} {m : Nat} (hm : m ∈ otherMembers s) (kind : PackKind) (args : List Nat) :
    Sent (sendEvery s kind args) kind m args :=
  (sent_foldl_sendMsg (dst := fun m => m) (args := fun _ _ => args) (fun _ _ => rfl) (otherMembers s) s (.refl s)).2 m hm

/-! ## The manager's messages (R268, R277, R280) -/

/-- A new message of the manager has been noted: it counts as applied, and this device holds its epoch. -/
def noted (s : State) (src epoch mseq : Nat) : State :=
  ({ s with pack := { s.pack with seen := putRising (src * 2 ^ 32 + mseq % 2 ^ 32) s.pack.seen } } : State).setReg 0
    (packPage + 0x104) (epoch % 2 ^ 32)

/-- The state in which it is applied: it has been acknowledged as well. -/
def accepted (s : State) (src epoch mseq : Nat) : State := ackMsg (noted s src epoch mseq) src mseq 0 0 0

theorem fromManager_iff {s : State} {src : Nat} : fromManager s src = true ↔
    (packRole s = 1 ∨ packRole s = 2) ∧ src = packManager s ∧ s.pack.mgrLost = false := by
  simp only [fromManager, Bool.and_eq_true, decide_eq_true_eq, Bool.not_eq_true', and_assoc]

section Accepted

variable {s : State} {src epoch mseq : Nat}

theorem not_manager_of_fromManager (hf : fromManager s src = true) : packRole s ≠ 3 := by
  obtain ⟨role, -, -⟩ := fromManager_iff.mp hf
  omega

theorem manageMsg_of_fromManager (hf : fromManager s src = true) (hn : newMessage s src epoch mseq) (act : State → State) :
    manageMsg s src epoch mseq act = act (accepted s src epoch mseq) := by
  obtain ⟨role, manager, -⟩ := fromManager_iff.mp hf
  obtain ⟨current, unseen⟩ := hn
  unfold manageMsg firstTime
  rw [if_neg (Nat.not_lt.mpr current)]
  simp only [if_neg unseen]
  congr 2
  exact if_pos ⟨role, manager⟩

theorem sends_accepted (s : State) (src epoch mseq : Nat) : Sends (noted s src epoch mseq) (accepted s src epoch mseq) := by
  unfold accepted ackMsg
  exact sends_sendMsg ..

theorem accepted_quiet (s : State) (src epoch mseq : Nat) : Quiet s (accepted s src epoch mseq) :=
  have noted : Quiet s (noted s src epoch mseq) := ((Quiet.refl s).setPack _).setReg ..
  noted.trans (sends_accepted ..).quiet

theorem accepted_otherRegs (s : State) (src epoch mseq : Nat) :
    OtherRegs s (accepted s src epoch mseq) [(0, packPage + 0x104)] :=
  have noted : OtherRegs s (noted s src epoch mseq) [(0, packPage + 0x104)] :=
    ((OtherRegs.refl s _).setPack _).setReg List.mem_cons_self _
  noted.trans (.of_regs_eq (sends_accepted ..).regs_eq _)

theorem packEpoch_accepted (s : State) (src epoch mseq : Nat) : packEpoch (accepted s src epoch mseq) = epoch % 2 ^ 32 := by
  rw [packEpoch, State.reg_congr (sends_accepted ..).regs_eq, noted, State.reg_setReg]
  omega

theorem lossC_accepted (s : State) (src epoch mseq : Nat) : (accepted s src epoch mseq).pack.lossC = s.pack.lossC :=
  (sends_accepted ..).lossC_eq

end Accepted

end Sys2Proof.Machine
end

section
/-! Routes and acknowledgements (R165, R171, R279, R280): what a route table sets, the tables that the manager sends, and what an
acknowledgement settles. -/

namespace Sys2Proof.Machine

open Sys2Proof

/-! ## Registers set one after the other -/

/-- A map without the keys that a predicate rejects. -/
theorem mget_filter_key {α : Type} (m : SMap α) (keep : Nat → Bool) (k : Nat) (d : α) :
    mget (m.filter fun p => keep p.1) k d = if keep k then mget m k d else d := by
  induction m with
  | nil => simp only [List.filter_nil, mget_nil, ite_self]
  | cons p r ih =>
    obtain ⟨a, v⟩ := p
    by_cases hk : a = k
    · subst hk
      by_cases h : keep a = true
      · simp only [List.filter_cons, h, mget_cons, if_true]
      · simp only [List.filter_cons, h, ih, Bool.false_eq_true, if_false]
    · by_cases h : keep a = true
      · simp only [List.filter_cons, h, mget_cons, hk, ih, if_true, if_false]
      · simp only [List.filter_cons, h, mget_cons, hk, ih, Bool.false_eq_true, if_false]

section SetEach

variable {α : Type} (i a : α → Nat) (v : State → α → Nat)

theorem regsOnly_setEach (xs : List α) (s : State) :
    RegsOnly s (xs.foldl (fun t x => t.setReg (i x) (a x) (v t x)) s) :=
  List.foldlRecOn (motive := RegsOnly s) xs _ (.refl s) fun _ h x _ => h.setReg (i x) (a x) _

/-- Registers that differ from all of those that are set hold what they held. -/
theorem reg_setEach_ne (xs : List α) (s : State) {j b : Nat} (h : ∀ x ∈ xs, regKey j b ≠ regKey (i x) (a x)) :
    (xs.foldl (fun t x => t.setReg (i x) (a x) (v t x)) s).reg j b = s.reg j b :=
  List.foldlRecOn (motive := fun t => t.reg j b = s.reg j b) xs _ rfl
    fun t ih x hx => (State.reg_setReg_ne t _ (h x hx)).trans ih

/-- One of several different registers holds what it was set to. -/
theorem reg_setEach_mem {xs : List α} (nd : (xs.map fun x => regKey (i x) (a x)).Nodup) {x : α} (hx : x ∈ xs) (s : State) :
    ∃ u, (xs.foldl (fun t x => t.setReg (i x) (a x) (v t x)) s).reg (i x) (a x) = v u x % 2 ^ 64 := by
  induction xs generalizing s with
  | nil => exact absurd hx List.not_mem_nil
  | cons y ys ih =>
    obtain ⟨hy, nd⟩ := List.nodup_cons.mp nd
    rcases List.mem_cons.mp hx with rfl | hx
    · refine ⟨s, (reg_setEach_ne i a v ys _ fun z hz e => hy ?_).trans (State.reg_setReg ..)⟩
      exact List.mem_map.mpr ⟨z, hz, e.symm⟩
    · exact ih nd hx _

end SetEach

/-! ## Messages sent again (R280) -/

/-- What sending messages anew may change: the messages sent and kept, the queues of arbiters, and the counter of messages
sent again. -/
structure Resends (s t : State) : Prop where
  quiet : Quiet s t
  pack : ∃ un out, t.pack = { s.pack with unacked := un, out := out }
  regs : OtherRegs s t [(0, packPage + 0x70)]

theorem Resends.refl (s : State) : Resends s s := ⟨.refl s, ⟨s.pack.unacked, s.pack.out, rfl⟩, .refl s _⟩

theorem Resends.trans {s t u : State} (h : Resends s t) (h' : Resends t u) : Resends s u := by
  obtain ⟨_, _, hp⟩ := h.pack
  obtain ⟨un, out, hp'⟩ := h'.pack
  exact ⟨h.quiet.trans h'.quiet, ⟨un, out, by rw [hp', hp]⟩, h.regs.trans h'.regs⟩

theorem Resends.setArb {s t : State} (h : Resends s t) (a : Nat) (v : Arb) : Resends s (t.setArb a v) :=
  ⟨h.quiet.setArb a v, h.pack, h.regs⟩

theorem Resends.queueBytes {s t : State} (h : Resends s t) (dst vc input tag : Nat) (ring : Option Nat) (bs : List Byte) :
    Resends s (queueBytes t dst vc input tag ring bs) := by
  unfold Machine.queueBytes
  split
  · exact h
  · exact h.setArb ..

theorem resends_resend (s : State) (m : PackMsg) : Resends s (resend s m) := by
  unfold resend
  split
  · exact .refl s
  · split
    · next p _ _ =>
      have kept : Resends s { s with pack := { s.pack with
          unacked := s.pack.unacked.map fun x => if x.dst = m.dst ∧ x.mseq = m.mseq then { x with via := some p } else x
          out := s.pack.out ++ [{ m with via := some p }] } } :=
        ⟨(Quiet.refl s).setPack _, ⟨_, _, rfl⟩, (OtherRegs.refl s _).setPack _⟩
      obtain ⟨quiet, pack, regs⟩ := kept.queueBytes m.dst (kindVc m.kind) (vcInput (kindVc m.kind)) 0 none _
      exact ⟨quiet.count .., pack, regs.setReg List.mem_cons_self _⟩
    · exact .refl s

theorem resends_resendAll (s : State) (hit : PackMsg → Bool) : Resends s (resendAll s hit) :=
  List.foldlRecOn (motive := Resends s) _ _ (.refl s) fun t h m _ => h.trans (resends_resend t m)

theorem resends_requeueDown (s : State) : Resends s (requeueDown s) := by
  refine List.foldlRecOn (motive := Resends s) _ _ (.refl s) fun t h p _ => ?_
  split
  · exact h
  · refine List.foldlRecOn (motive := Resends s) _ _ h fun u hu q _ => ?_
    split
    · exact hu
    · split
      · exact hu
      · exact (hu.setArb _ _).setArb _ _

/-! ## A route table takes effect (R279) -/

/-- A state without the routes that stand (R279). -/
def routesCleared (s : State) : State :=
  { s with regs := s.regs.filter fun p => decide (p.1 % 2 ^ 32 ≠ packPage + 0x124) }

/-- The routes of a table have taken the place of those that stood. -/
def routesSet (s : State) (t : RouteTable) : State :=
  t.routes.foldl (fun u r => u.setReg (r.1 % 1024) (packPage + 0x124) (2 ^ 31 + r.2.2 % 16 * 2 ^ 8 + r.2.1 % 64))
    (routesCleared s)

/-- The registers of a table are set: its routes, then UPWARD of every port. -/
def tableSet (s : State) (t : RouteTable) : State :=
  (span 0 64).foldl (fun u p => u.setFld 0 (portPage p + 0x104) 28 28 (flag (decide (p ∈ t.upward)))) (routesSet s t)

/-- The state in which messages are sent anew on a table: its registers stand, and its feeds and members are known. -/
def tableTaken (s : State) (t : RouteTable) : State :=
  { tableSet s t with pack := { (tableSet s t).pack with
    feeds := t.feeds, roster := t.members.foldl (fun l m => putRising (m % 1024) l) [] } }

/-- UPWARD of no port stands on the page of the pack. -/
theorem upward_ne_pack {p : Nat} (hp : p < 64) {off : Nat} (ho : off < 4096) :
    portPage p + 0x104 < 2 ^ 32 ∧ portPage p + 0x104 ≠ packPage + off := by
  simp only [portPage, packPage, pageAddr]
  omega

theorem reg_routesCleared_ne (s : State) {b : Nat} (hb : b < 2 ^ 32) (h : b ≠ packPage + 0x124) (i : Nat) :
    (routesCleared s).reg i b = s.reg i b := by
  have keep : (decide (regKey i b % 2 ^ 32 ≠ packPage + 0x124)) = true := by
    rw [decide_eq_true_iff, regKey]
    omega
  rw [State.reg, routesCleared, mget_filter_key s.regs fun k => decide (k % 2 ^ 32 ≠ packPage + 0x124), if_pos keep]
  rfl

/-- A route that is cleared is the reset value, 0. -/
theorem reg_routesCleared (s : State) (d : Nat) : (routesCleared s).reg d (packPage + 0x124) = 0 := by
  have route : regKey d (packPage + 0x124) % 2 ^ 32 = packPage + 0x124 := by
    simp only [regKey, packPage, pageAddr]
    omega
  have drop : decide (regKey d (packPage + 0x124) % 2 ^ 32 ≠ packPage + 0x124) = false := decide_eq_false (not_not_intro route)
  rw [State.reg, routesCleared, mget_filter_key s.regs fun k => decide (k % 2 ^ 32 ≠ packPage + 0x124),
    if_neg (Bool.eq_false_iff.mp drop)]
  rfl

section Table

variable (s : State) (t : RouteTable)

theorem setRoutes_resends : Resends (tableTaken s t) (setRoutes s t) :=
  (resends_requeueDown (tableTaken s t)).trans (resends_resendAll _ _)

theorem tableSet_eq : tableSet s t = (span 0 64).foldl (fun u p => u.setReg 0 (portPage p + 0x104)
    (putBits (u.reg 0 (portPage p + 0x104)) 28 28 (flag (decide (p ∈ t.upward))))) (routesSet s t) := rfl

theorem routesSet_regsOnly : RegsOnly s (routesSet s t) :=
  have cleared : RegsOnly s (routesCleared s) := ⟨_, rfl⟩
  cleared.trans (regsOnly_setEach (fun r : Nat × Nat × Nat => r.1 % 1024) _ _ t.routes _)

theorem tableSet_regsOnly : RegsOnly s (tableSet s t) :=
  (routesSet_regsOnly s t).trans (regsOnly_setEach (fun _ => 0) (fun p => portPage p + 0x104) _ (span 0 64) _)

theorem setRoutes_quiet : Quiet s (setRoutes s t) :=
  ((tableSet_regsOnly s t).quiet.setPack _).trans (setRoutes_resends s t).quiet

/-- A table gives the feeds and the roster, and leaves the members and the links that a manager knows. -/
theorem pack_setRoutes : ∃ un out, (setRoutes s t).pack = { s.pack with
    feeds := t.feeds, roster := t.members.foldl (fun l m => putRising (m % 1024) l) [], unacked := un, out := out } := by
  obtain ⟨un, out, h⟩ := (setRoutes_resends s t).pack
  exact ⟨un, out, by rw [h, tableTaken, (tableSet_regsOnly s t).pack_eq]⟩

/-- After its registers have been set, a table changes no register of the pack's page but the counter of messages sent again. -/
theorem reg_setRoutes {off : Nat} (ho : off < 4096) (h : off ≠ 0x70) (i : Nat) :
    (setRoutes s t).reg i (packPage + off) = (routesSet s t).reg i (packPage + off) := by
  have hb : packPage + off < 2 ^ 32 := by simp only [packPage, pageAddr]; omega
  rw [(setRoutes_resends s t).regs.reg_of_off_ne hb (fun k hk => ?counter), tableTaken, State.reg_setPack, tableSet_eq,
    reg_setEach_ne (fun _ => 0) (fun p => portPage p + 0x104) _ _ _ fun p hp => ?upward]
  case counter =>
    rw [List.mem_singleton.mp hk]
    exact ⟨by decide, by omega⟩
  case upward =>
    obtain ⟨lt, ne⟩ := upward_ne_pack (mem_span.mp hp).2 ho
    exact regKey_ne_of_off_ne hb lt ne.symm

/-- A register of the pack's page that is no route either holds what it held. -/
theorem reg_setRoutes_ne {off : Nat} (ho : off < 4096) (hr : off ≠ 0x124) (h : off ≠ 0x70) (i : Nat) :
    (setRoutes s t).reg i (packPage + off) = s.reg i (packPage + off) := by
  have hb : packPage + off < 2 ^ 32 := by simp only [packPage, pageAddr]; omega
  rw [reg_setRoutes s t ho h, routesSet, reg_setEach_ne (fun r : Nat × Nat × Nat => r.1 % 1024) (fun _ => packPage + 0x124)
    (fun _ r => 2 ^ 31 + r.2.2 % 16 * 2 ^ 8 + r.2.1 % 64) _ _ fun _ _ => regKey_ne_of_off_ne hb (by decide) (by omega)]
  exact reg_routesCleared_ne s hb (by omega) i

/-- UPWARD of a port is what the table says of it. -/
theorem upward_setRoutes {p : Nat} (hp : p < 64) :
    (setRoutes s t).fld 0 (portPage p + 0x104) 28 28 = flag (decide (p ∈ t.upward)) := by
  obtain ⟨lt, ne⟩ := upward_ne_pack hp (show 0x70 < 4096 by decide)
  have keys : ((span 0 64).map fun p => regKey 0 (portPage p + 0x104)).Nodup := by decide
  obtain ⟨u, set⟩ := reg_setEach_mem (fun _ => 0) (fun p => portPage p + 0x104)
    (fun u p => putBits (u.reg 0 (portPage p + 0x104)) 28 28 (flag (decide (p ∈ t.upward)))) keys
    (mem_span.mpr ⟨Nat.zero_le p, by omega⟩) (routesSet s t)
  rw [State.fld, (setRoutes_resends s t).regs.reg_of_off_ne lt (fun k hk => ?counter), tableTaken, State.reg_setPack, tableSet_eq,
    set, bits, putBits]
  case counter =>
    rw [List.mem_singleton.mp hk]
    exact ⟨by decide, ne⟩
  · have one : flag (decide (p ∈ t.upward)) < 2 := by unfold flag; split <;> decide
    omega

end Table

/-- The register of a route: VALID, the hops and the port. -/
theorem bits_route (port hops : Nat) (hp : port < 64) :
    bit (2 ^ 31 + hops % 16 * 2 ^ 8 + port % 64) 31 = true ∧ bits (2 ^ 31 + hops % 16 * 2 ^ 8 + port % 64) 5 0 = port := by
  constructor
  · rw [bit, Nat.testBit_eq_decide_div_mod_eq, decide_eq_true_iff]
    omega
  · rw [bits]
    omega

section Routes

variable {s : State} {t : RouteTable} (hb : ∀ r ∈ t.routes, r.1 < 1024 ∧ r.2.1 < 64)
include hb

/-- A table gives every destination that it lists its port. -/
theorem routePort_setRoutes (nd : (t.routes.map (·.1)).Nodup) {r : Nat × Nat × Nat} (hr : r ∈ t.routes) :
    routePort (setRoutes s t) r.1 = some r.2.1 := by
  obtain ⟨hd, hp⟩ := hb r hr
  have keys : (t.routes.map fun r => regKey (r.1 % 1024) (packPage + 0x124)).Nodup := by
    refine List.pairwise_map.mpr ((List.pairwise_map.mp nd).imp_of_mem fun hx hy ne e => ne ?_)
    rw [regKey_inj (by decide) (by decide), Nat.mod_eq_of_lt (hb _ hx).1, Nat.mod_eq_of_lt (hb _ hy).1] at e
    exact e.1
  obtain ⟨_, set⟩ := reg_setEach_mem (fun r : Nat × Nat × Nat => r.1 % 1024) (fun _ => packPage + 0x124)
    (fun _ r => 2 ^ 31 + r.2.2 % 16 * 2 ^ 8 + r.2.1 % 64) keys hr (routesCleared s)
  obtain ⟨valid, port⟩ := bits_route r.2.1 r.2.2 hp
  rw [Nat.mod_eq_of_lt hd, Nat.mod_eq_of_lt (by omega)] at set
  rw [routePort, reg_setRoutes s t (by decide) (by decide), routesSet, set]
  simp only [valid, port, if_true]

/-- It gives no other destination a route. -/
theorem routePort_setRoutes_of_not_mem {d : Nat} (hd : d ∉ t.routes.map (·.1)) : routePort (setRoutes s t) d = none := by
  rw [routePort, reg_setRoutes s t (by decide) (by decide), routesSet,
    reg_setEach_ne (fun r : Nat × Nat × Nat => r.1 % 1024) (fun _ => packPage + 0x124), reg_routesCleared]
  · rfl
  · intro r hr e
    rw [regKey_inj (by decide) (by decide), Nat.mod_eq_of_lt (hb r hr).1] at e
    exact hd (List.mem_map.mpr ⟨r, hr, e.1.symm⟩)

end Routes

/-- A number put in its rising place is there, beside those that were. -/
theorem mem_putRising {k x : Nat} {l : List Nat} : x ∈ putRising k l ↔ x = k ∨ x ∈ l := by
  induction l with
  | nil => simp only [putRising, List.mem_cons, List.not_mem_nil, or_false]
  | cons a r ih =>
    unfold putRising
    split
    · exact List.mem_cons
    · split
      · next h => simp only [h, List.mem_cons, or_self_left]
      · rw [List.mem_cons, ih, List.mem_cons]
        exact or_left_comm

theorem mem_foldl_putRising {α : Type} (f : α → Nat) (xs : List α) (l : List Nat) (x : Nat) :
    x ∈ xs.foldl (fun l m => putRising (f m) l) l ↔ (∃ y ∈ xs, f y = x) ∨ x ∈ l := by
  induction xs generalizing l with
  | nil => simp only [List.foldl_nil, List.not_mem_nil, false_and, exists_false, false_or]
  | cons y ys ih =>
    simp only [List.foldl_cons, ih, mem_putRising, List.mem_cons, exists_eq_or_imp, eq_comm (a := x)]
    exact or_left_comm.trans or_assoc.symm

/-! ## ROUTE_TABLE -/

section RouteTable

variable {s : State} {src epoch mseq : Nat} {routes : List (Nat × Nat × Nat)} {m : PackMap} {feeds : List (Nat × Nat)}

/-- A table from the manager is taken. -/
theorem answers_setRoutes {P : State → Prop} (hsrc : src < 1024) (hf : fromManager s src = true)
    (hn : newMessage s src epoch mseq) (h : P (setRoutes (accepted s src epoch mseq) ⟨m.members, routes, m.upward, feeds⟩)) :
    Answers (.routeTable src epoch mseq routes m feeds) s P := by
  have he : exec (.routeTable src epoch mseq routes m feeds) s =
      onUnit (decide (src < 1024)) (setRoutes (accepted s src epoch mseq) ⟨m.members, routes, m.upward, feeds⟩) := by
    show execRouteTable src epoch mseq routes m feeds s = _
    rw [execRouteTable, if_neg fun h => not_manager_of_fromManager hf h.1, if_pos hf, manageMsg_of_fromManager hf hn]
  exact answers_of_onUnit he (decide_eq_true hsrc) h

/-- On the manager itself it tells the links. -/
theorem answers_sendRoutes {P : State → Prop} (hr : packRole s = 3)
    (h : P (sendRoutes { s with pack := { s.pack with links := m.links } })) :
    Answers (.routeTable (ownMember s) epoch mseq routes m feeds) s P := by
  have he : exec (.routeTable (ownMember s) epoch mseq routes m feeds) s =
      onUnit (decide (ownMember s < 1024)) (sendRoutes { s with pack := { s.pack with links := m.links } }) := by
    show execRouteTable (ownMember s) epoch mseq routes m feeds s = _
    rw [execRouteTable, if_pos ⟨hr, rfl⟩]
  exact answers_of_onUnit he (decide_eq_true (Nat.mod_lt _ (by decide))) h

end RouteTable

/-- A manager that knows no link leaves the tables, and notes the members alone. -/
theorem sendRoutes_of_no_link {s : State} (h : s.pack.links = []) :
    sendRoutes s = { s with pack := { s.pack with roster := packMembers s } } := if_pos h

/-- A member's table is that of the links, the manager's number and the members. -/
theorem memberTable_congr {s t : State} (hl : t.pack.links = s.pack.links) (hm : t.pack.members = s.pack.members)
    (hid : t.reg 0 (packPage + 0x100) = s.reg 0 (packPage + 0x100)) : memberTable t = memberTable s := by
  funext x
  simp only [memberTable, packMembers, ownMember, State.fld, hl, hm, hid]

section SendRoutes

variable {s : State}

theorem memberTable_setRoutes (t : RouteTable) : memberTable (setRoutes s t) = memberTable s := by
  obtain ⟨_, _, pack⟩ := pack_setRoutes s t
  exact memberTable_congr (by rw [pack]) (by rw [pack]) (reg_setRoutes_ne s t (by decide) (by decide) (by decide) 0)

/-- A manager that knows a link takes its own table, and sends each member its own. -/
theorem sendRoutes_spec (h : s.pack.links ≠ []) :
    Sends (setRoutes s (memberTable s (ownMember s))) (sendRoutes s) ∧
      ∀ x ∈ s.pack.members, Sent (sendRoutes s) .routeTable x.1 (tableArgs (memberTable s x.1)) := by
  have eq : sendRoutes s = (setRoutes s (memberTable s (ownMember s))).pack.members.foldl
      (fun t p => sendMsg t .routeTable p.1 (tableArgs (memberTable t p.1))) (setRoutes s (memberTable s (ownMember s))) :=
    if_neg h
  obtain ⟨_, _, pack⟩ := pack_setRoutes s (memberTable s (ownMember s))
  have tables := memberTable_setRoutes (s := s) (memberTable s (ownMember s))
  have members : (setRoutes s (memberTable s (ownMember s))).pack.members = s.pack.members := by rw [pack]
  generalize setRoutes s (memberTable s (ownMember s)) = u at *
  obtain ⟨sends, sent⟩ := sent_foldl_sendMsg (s := u) (kind := .routeTable) (dst := Prod.fst)
    (args := fun t (p : Nat × Member) => tableArgs (memberTable t p.1))
    (fun t ht => by rw [memberTable_congr ht.links_eq ht.members_eq (State.reg_congr ht.regs_eq 0 _)])
    u.pack.members u (.refl u)
  rw [eq]
  refine ⟨sends, fun x hx => ?_⟩
  rw [← tables]
  exact sent x (by rwa [members])

/-- It leaves the links as they are, memory, rings and objects. -/
theorem sendRoutes_frame (s : State) : Quiet s (sendRoutes s) ∧ (sendRoutes s).pack.links = s.pack.links := by
  by_cases h : s.pack.links = []
  · rw [sendRoutes_of_no_link h]
    exact ⟨(Quiet.refl s).setPack _, rfl⟩
  · obtain ⟨sends, -⟩ := sendRoutes_spec h
    obtain ⟨_, _, pack⟩ := pack_setRoutes s (memberTable s (ownMember s))
    exact ⟨(setRoutes_quiet ..).trans sends.quiet, by rw [sends.links_eq, pack]⟩

end SendRoutes

/-! ## MSEQ_ACK -/

/-- A state without the acknowledged message. -/
def acked (s : State) (dst mseq : Nat) : State :=
  { s with pack := { s.pack with unacked := s.pack.unacked.filter fun k => !decide (k.dst = dst ∧ k.mseq = mseq) } }

section Ack

variable {s : State} {dst mseq status res0 res1 : Nat} {m : PackMsg}

theorem answers_mseqAck {P : State → Prop} (hdst : dst < 1024)
    (hm : (s.pack.unacked.find? fun m => decide (m.dst = dst ∧ m.mseq = mseq)) = some m)
    (h : P (settleAck (acked s dst mseq) m status res0 res1)) : Answers (.mseqAck dst mseq status res0 res1) s P := by
  have he : exec (.mseqAck dst mseq status res0 res1) s =
      onUnit (decide (dst < 1024)) (settleAck (acked s dst mseq) m status res0 res1) := by
    show execMseqAck dst mseq status res0 res1 s = _
    rw [execMseqAck, hm]
    rfl
  exact answers_of_onUnit he (decide_eq_true hdst) h

theorem settleAck_of_signal {o n r q : Nat} (hk : m.kind = .signal) (ha : m.args = [1, o, n, r, q]) :
    settleAck s m status res0 res1 = finishEntry s r q status (if status = 0 then res0 else 0) 0 0 := by
  simp only [settleAck, hk, ha]

section Arrive

variable {o g r q : Nat} {f : Flight} (hk : m.kind = .arrive) (ha : m.args = [2, o, g, r, q])
  (hf : openFlight (s.ring r) q = some f)
include hk ha hf

theorem settleAck_of_refused_arrive (hs : status ≠ 0) : settleAck s m status res0 res1 = finishEntry s r q status 0 0 0 := by
  simp only [settleAck, hk, ha, hf, if_pos hs]

/-- An arrival that does not wait completes with GEN and ARRIVED of the manager. -/
theorem settleAck_of_arrive (hw : arriveWaits f.bytes = false) :
    settleAck s m 0 res0 res1 = finishEntry s r q 0 res0 res1 0 := by
  simp only [settleAck, hk, ha, hf, hw, ne_eq, not_true_eq_false, Bool.not_false, if_true, if_false]

end Arrive

/-- An acknowledged entry completes on its ring, and its message is kept no longer. -/
theorem finishEntry_acked {r q : Nat} {f : Flight} (hf : openFlight (s.ring r) q = some f) (status res0 res1 : Nat) :
    Done (finishEntry (acked s dst mseq) r q status res0 res1 0) r q (completionFor (s.ring r) f.bytes status res0 res1 0) ∧
      (finishEntry (acked s dst mseq) r q status res0 res1 0).pack.unacked = (acked s dst mseq).pack.unacked ∧
      WithinRing s (finishEntry (acked s dst mseq) r q status res0 res1 0) r := by
  refine ⟨?done, ?unacked, ?within⟩
  case done =>
    rw [finishEntry_eq_of_open (s := acked s dst mseq) hf]
    exact done_finishWith (by rwa [ring_beforeFinish]) _ _
  case unacked =>
    obtain ⟨_, _, _, _, _, _, eq⟩ := finishEntry_shape (acked s dst mseq) r q status res0 res1 0
    rw [eq]
  case within =>
    have noted : Quiet s (acked s dst mseq) := (Quiet.refl s).setPack _
    exact (noted.withinRing r).trans (finishEntry_frame (acked s dst mseq) r q status res0 res1 0).toWithinRing

end Ack

/-- ROUTE_TABLE and MSEQ_ACK as R165, R171, R279 and R280 have them. -/
theorem routesAndAcks : Sys2Proof.Claims.RoutesAndAcks := by
  refine ⟨fun s src epoch mseq routes m feeds hsrc hf hn hb nd => ?takes, fun s epoch mseq routes m feeds hr => ?sends,
    fun s dst mseq status res0 res1 m hdst hm => ⟨fun hk => ?other, fun o n r q f hk ha hf => ?signal,
      fun o g r q f hk ha hf => ⟨fun hs => ?refused, fun hs hw => ?arrive⟩⟩⟩
  case takes =>
    refine answers_setRoutes hsrc hf hn ?_
    have quiet := (accepted_quiet s src epoch mseq).trans
      (setRoutes_quiet (accepted s src epoch mseq) ⟨m.members, routes, m.upward, feeds⟩)
    obtain ⟨_, _, pack⟩ := pack_setRoutes (accepted s src epoch mseq) ⟨m.members, routes, m.upward, feeds⟩
    refine ⟨fun r hr => routePort_setRoutes hb nd hr, fun d _ hd => routePort_setRoutes_of_not_mem hb hd, by rw [pack],
      fun p hp => ?upward, fun x => ?roster, ?epoch, quiet.calm, quiet.rings, quiet.objs⟩
    case upward =>
      rw [upward_setRoutes _ _ hp]
      simp only [flag, decide_eq_true_eq, ite_eq_left_iff, Nat.zero_ne_one, imp_false, Decidable.not_not]
    case roster =>
      rw [pack, mem_foldl_putRising]
      simp only [List.not_mem_nil, or_false]
    case epoch =>
      rw [packEpoch, reg_setRoutes_ne _ _ (by decide) (by decide) (by decide)]
      exact packEpoch_accepted ..
  case sends =>
    refine answers_sendRoutes hr ?_
    generalize hu : ({ s with pack := { s.pack with links := m.links } } : State) = u
    have told : Quiet s u := hu ▸ (Quiet.refl s).setPack _
    obtain ⟨routed, links⟩ := sendRoutes_frame u
    have quiet := told.trans routed
    refine ⟨by rw [links, ← hu], fun hl x hx => ?sent, fun hl => ?stand, quiet.calm, quiet.rings, quiet.objs⟩
    case sent =>
      subst hu
      exact (sendRoutes_spec hl).2 x hx
    case stand =>
      subst hu
      rw [sendRoutes_of_no_link hl]
  case other =>
    refine answers_mseqAck hdst hm ?_
    have settled : settleAck (acked s dst mseq) m status res0 res1 = acked s dst mseq := by
      simp only [settleAck, hk]
    have quiet : Quiet s (acked s dst mseq) := (Quiet.refl s).setPack _
    rw [settled]
    exact ⟨rfl, rfl, quiet.calm, quiet.rings, quiet.objs⟩
  case signal =>
    refine answers_mseqAck hdst hm ?_
    rw [settleAck_of_signal hk ha]
    obtain ⟨done, unacked, within⟩ :=
      finishEntry_acked (dst := dst) (mseq := mseq) hf status (if status = 0 then res0 else 0) 0
    exact ⟨done, unacked, within.calm, within.others, within.objs⟩
  case refused =>
    refine answers_mseqAck hdst hm ?_
    rw [settleAck_of_refused_arrive (s := acked s dst mseq) hk ha hf hs]
    obtain ⟨done, -, within⟩ := finishEntry_acked (dst := dst) (mseq := mseq) hf status 0 0
    exact ⟨done, within.calm, within.others, within.objs⟩
  case arrive =>
    subst hs
    refine answers_mseqAck hdst hm ?_
    rw [settleAck_of_arrive (s := acked s dst mseq) hk ha hf hw]
    obtain ⟨done, -, within⟩ := finishEntry_acked (dst := dst) (mseq := mseq) hf 0 res0 res1
    exact ⟨done, within.calm, within.others, within.objs⟩

end Sys2Proof.Machine
end

section
/-! The loss scale (R93, R94): what the manager decides after a step, and what a member takes and mirrors. -/

namespace Sys2Proof.Machine

open Sys2Proof

/-! ## The decision of a step -/

theorem signed8_bounds (v : Nat) : -128 ≤ signed8 v ∧ signed8 v ≤ 127 := by
  unfold signed8
  split <;> omega

/-- A value that eight bits hold comes back from them. -/
theorem signed8_unsigned8 {x : Int} (lo : -128 ≤ x) (hi : x ≤ 127) : signed8 (unsigned8 x) = x := by
  unfold signed8 unsigned8
  split <;> omega

/-- An overflow lowers s by 1, to MIN_SHIFT at least, and ends the run of clean steps. -/
theorem lossStep_of_overflow (s : State) :
    signed8 (lossStep s true).1 =
        max (signed8 (bits (s.reg 0 (hubPage + 0x130)) 7 0) - 1) (signed8 (bits (s.reg 0 (hubPage + 0x134)) 23 16)) ∧
      (lossStep s true).2 = 0 := by
  have sh := signed8_bounds (bits (s.reg 0 (hubPage + 0x130)) 7 0)
  have least := signed8_bounds (bits (s.reg 0 (hubPage + 0x134)) 23 16)
  exact ⟨signed8_unsigned8 (by omega) (by omega), rfl⟩

/-- The last of enough clean steps raises s by 1, to MAX_SHIFT at most, and begins a new run. -/
theorem lossStep_of_enough_clean {s : State} (h : bits (s.reg 0 (hubPage + 0x130)) 31 16 + 1 =
      max 1 (bits (s.reg 0 (hubPage + 0x134)) 15 0)) :
    signed8 (lossStep s false).1 =
        min (signed8 (bits (s.reg 0 (hubPage + 0x130)) 7 0) + 1) (signed8 (bits (s.reg 0 (hubPage + 0x134)) 31 24)) ∧
      (lossStep s false).2 = 0 := by
  have sh := signed8_bounds (bits (s.reg 0 (hubPage + 0x130)) 7 0)
  have most := signed8_bounds (bits (s.reg 0 (hubPage + 0x134)) 31 24)
  have eq : lossStep s false = (unsigned8 (min (signed8 (bits (s.reg 0 (hubPage + 0x130)) 7 0) + 1)
      (signed8 (bits (s.reg 0 (hubPage + 0x134)) 31 24))), 0) := if_pos h
  rw [eq]
  exact ⟨signed8_unsigned8 (by omega) (by omega), rfl⟩

/-- A step's outcome depends on HUB_LOSS_SCALE and HUB_LOSS_CFG alone. -/
theorem lossStep_congr {s t : State} (hv : t.reg 0 (hubPage + 0x130) = s.reg 0 (hubPage + 0x130))
    (hc : t.reg 0 (hubPage + 0x134) = s.reg 0 (hubPage + 0x134)) (overflow : Bool) :
    lossStep t overflow = lossStep s overflow := by
  simp only [lossStep, hv, hc]

/-! ## HUB_LOSS_SCALE after a decision -/

section SetLoss

variable (s : State) (shift clean c1 : Nat) (skipped : Bool)

theorem setLoss_quiet : Quiet s (setLoss s shift clean c1 skipped) := by
  unfold setLoss
  exact (((Quiet.refl s).setReg ..).setPack _).count ..

theorem setLoss_otherRegs :
    OtherRegs s (setLoss s shift clean c1 skipped) [(0, hubPage + 0x130), (0, hubPage + 0x140)] := by
  unfold setLoss
  exact (((OtherRegs.refl s _).setReg List.mem_cons_self _).setPack _).setReg (List.mem_cons_of_mem _ List.mem_cons_self) _

theorem reg_setLoss :
    (setLoss s shift clean c1 skipped).reg 0 (hubPage + 0x130) = clean % 2 ^ 16 * 2 ^ 16 + shift % 256 := by
  rw [setLoss, State.reg_count_ne _ _ (by decide), State.reg_setPack, State.reg_setReg]
  omega

theorem setLoss_counted : Counted s (setLoss s shift clean c1 skipped) 0 (hubPage + 0x140) (flag skipped) := by
  rw [Counted, setLoss, State.reg_count, State.reg_setPack, State.reg_setReg_ne _ _ (by decide)]

theorem pack_setLoss : (setLoss s shift clean c1 skipped).pack =
    { s.pack with lossC := some (c1 % 2 ^ 32), lossTouched := false } := by
  have set := State.setReg_pack s 0 (hubPage + 0x130) (clean % 2 ^ 16 * 2 ^ 16 + shift % 256)
  unfold setLoss
  generalize s.setReg 0 (hubPage + 0x130) _ = u at set ⊢
  rw [State.count_pack, set]

theorem otherMembers_setLoss : otherMembers (setLoss s shift clean c1 skipped) = otherMembers s :=
  otherMembers_congr ((setLoss_otherRegs s shift clean c1 skipped).reg_of_off_ne (by decide) (by decide) 0)
    (by rw [pack_setLoss]) (by rw [pack_setLoss])

/-- A decision that is no skipped step leaves every register but HUB_LOSS_SCALE. -/
theorem setLoss_otherRegs_of_not_skipped : OtherRegs s (setLoss s shift clean c1 false) [(0, hubPage + 0x130)] := by
  intro i a h
  by_cases hk : regKey i a = regKey 0 (hubPage + 0x140)
  · obtain ⟨rfl, rfl⟩ : i = 0 ∧ a = hubPage + 0x140 := by
      have small : hubPage + 0x140 < 2 ^ 32 := by decide
      unfold regKey at hk
      omega
    exact (setLoss_counted s shift clean c1 false).trans (Nat.mod_eq_of_lt (State.reg_lt s _ _))
  · refine setLoss_otherRegs s shift clean c1 false i a fun k hm => ?_
    rcases List.mem_cons.mp hm with rfl | hm
    · exact h _ List.mem_cons_self
    · rw [List.mem_singleton.mp hm]
      exact hk

end SetLoss

/-! ## The manager decides -/

/-- An outcome that is set in HUB_LOSS_SCALE and sent to the pack. -/
def tellLoss (s : State) (shift clean c1 : Nat) (skipped : Bool) (args : List Nat) : State :=
  sendEvery (setLoss s shift clean c1 skipped) .lossScale args

section TellLoss

variable (s : State) (shift clean c1 : Nat) (skipped : Bool) (args : List Nat)

theorem tellLoss_quiet : Quiet s (tellLoss s shift clean c1 skipped args) :=
  (setLoss_quiet ..).trans (sends_sendEvery ..).quiet

theorem reg_tellLoss (i a : Nat) :
    (tellLoss s shift clean c1 skipped args).reg i a = (setLoss s shift clean c1 skipped).reg i a :=
  State.reg_congr (sends_sendEvery ..).regs_eq i a

theorem lossC_tellLoss : (tellLoss s shift clean c1 skipped args).pack.lossC = some (c1 % 2 ^ 32) := by
  rw [tellLoss, (sends_sendEvery ..).lossC_eq, pack_setLoss]

theorem lossTouched_tellLoss : (tellLoss s shift clean c1 skipped args).pack.lossTouched = false := by
  rw [tellLoss, (sends_sendEvery ..).lossTouched_eq, pack_setLoss]

theorem sent_tellLoss {m : Nat} (hm : m ∈ otherMembers s) :
    Sent (tellLoss s shift clean c1 skipped args) .lossScale m args :=
  sent_sendEvery (by rwa [otherMembers_setLoss]) _ _

theorem tellLoss_otherRegs_of_not_skipped :
    OtherRegs s (tellLoss s shift clean c1 false args) [(0, hubPage + 0x130)] := fun i a h =>
  (reg_tellLoss ..).trans (setLoss_otherRegs_of_not_skipped s shift clean c1 i a h)

end TellLoss

/-- The overflow counter that HUB_LOSS_SYNC names. -/
def lossCounter (s : State) : Nat := (s.obj (s.fld 0 (hubPage + 0x138) 15 0)).value

section Manager

variable {s : State}

/-- For its pack's first step the manager takes the counter, and sends s with it. -/
theorem decideLoss_of_first (h : s.pack.lossC = none) : decideLoss s =
    sendEvery { s with pack := { s.pack with lossC := some (lossCounter s), lossTouched := false } } .lossScale
      [s.fld 0 (hubPage + 0x130) 7 0, lossCounter s, 0] := by
  unfold decideLoss
  rw [h]
  rfl

/-- After a step in which HUB_LOSS_SCALE has not been written, it sets and sends the outcome. -/
theorem decideLoss_of_untouched {c0 : Nat} (h : s.pack.lossC = some c0)
    (ht : s.pack.lossTouched = false ∨ Config.freeNat s.freeCtr 0 % 2 ≠ 1) : decideLoss s =
    tellLoss s (lossStep s (decide (lossCounter s ≠ c0))).1 (lossStep s (decide (lossCounter s ≠ c0))).2 (lossCounter s)
      (decide (lossCounter s ≠ c0))
      [(lossStep s (decide (lossCounter s ≠ c0))).1, lossCounter s, flag (decide (lossCounter s ≠ c0))] := by
  have untouched : ¬ (s.pack.lossTouched = true ∧ Config.freeNat s.freeCtr 0 % 2 = 1) := by
    rintro ⟨touched, one⟩
    rw [touched] at ht
    exact ht.elim nofun fun ne => ne one
  unfold decideLoss
  rw [h]
  exact if_neg untouched

/-- After a step in which it has been written, the values are free and the outcome is not recorded. -/
theorem decideLoss_of_touched (h : s.pack.lossC.isSome = true) (ht : s.pack.lossTouched = true)
    (hf : Config.freeNat s.freeCtr 0 % 2 = 1) : decideLoss s =
    tellLoss s.fresh (Config.freeNat s.freeCtr 1) (Config.freeNat s.freeCtr 2) (lossCounter s) false
      [Config.freeNat s.freeCtr 1 % 256, lossCounter s, Config.freeNat s.freeCtr 3 % 2] := by
  obtain ⟨c0, h⟩ := Option.isSome_iff_exists.mp h
  unfold decideLoss
  rw [h]
  exact if_pos ⟨ht, hf⟩

variable {src epoch mseq sh c1 : Nat} {overflow : Bool} (hsrc : src < 1024)
include hsrc

theorem answers_decideLoss {P : State → Prop} (hr : packRole s = 3) (ho : src = ownMember s) (h : P (decideLoss s)) :
    Answers (.lossScaleDecision src epoch mseq sh c1 overflow) s P := by
  have he : exec (.lossScaleDecision src epoch mseq sh c1 overflow) s = onUnit (decide (src < 1024)) (decideLoss s) := by
    show execLossScaleDecision src epoch mseq sh c1 overflow s = _
    rw [execLossScaleDecision, if_pos ⟨hr, ho⟩]
  exact answers_of_onUnit he (decide_eq_true hsrc) h

theorem answers_takeLoss {P : State → Prop} (hf : fromManager s src = true) (hn : newMessage s src epoch mseq)
    (h : P (takeLoss (accepted s src epoch mseq) sh c1 overflow)) :
    Answers (.lossScaleDecision src epoch mseq sh c1 overflow) s P := by
  have he : exec (.lossScaleDecision src epoch mseq sh c1 overflow) s =
      onUnit (decide (src < 1024)) (takeLoss (accepted s src epoch mseq) sh c1 overflow) := by
    show execLossScaleDecision src epoch mseq sh c1 overflow s = _
    rw [execLossScaleDecision, if_neg fun h => not_manager_of_fromManager hf h.1, if_pos hf, manageMsg_of_fromManager hf hn]
  exact answers_of_onUnit he (decide_eq_true hsrc) h

end Manager

/-! ## A member takes the decision -/

/-- CLEAN as a member mirrors it: as it stands before the first step of its pack, after that as its own outcome gives it. -/
def mirroredClean (s : State) (overflow : Bool) : Nat :=
  if s.pack.lossC = none then s.fld 0 (hubPage + 0x130) 31 16 else (lossStep s overflow).2

/-- Whether a member counts the step as skipped: before the first step of its pack it counts none. -/
def mirroredSkip (s : State) (overflow : Bool) : Bool := s.pack.lossC.isSome && overflow

theorem takeLoss_eq (s : State) (sh c1 : Nat) (overflow : Bool) :
    takeLoss s sh c1 overflow = setLoss s sh (mirroredClean s overflow) c1 (mirroredSkip s overflow) := by
  unfold takeLoss mirroredClean mirroredSkip
  cases s.pack.lossC <;> rfl

/-- The acknowledgement of the message leaves what a member mirrors. -/
theorem mirroredClean_accepted (s : State) (src epoch mseq : Nat) (overflow : Bool) :
    mirroredClean (accepted s src epoch mseq) overflow = mirroredClean s overflow := by
  have reg {a : Nat} (ha : a < 2 ^ 32) (hne : a ≠ packPage + 0x104) : (accepted s src epoch mseq).reg 0 a = s.reg 0 a :=
    (accepted_otherRegs s src epoch mseq).reg_of_off_ne ha (fun _ hk => List.mem_singleton.mp hk ▸ ⟨by decide, hne⟩) 0
  have scale := reg (a := hubPage + 0x130) (by decide) (by decide)
  have cfg := reg (a := hubPage + 0x134) (by decide) (by decide)
  simp only [mirroredClean, lossC_accepted, State.fld, scale, lossStep_congr scale cfg]

theorem mirroredSkip_accepted (s : State) (src epoch mseq : Nat) (overflow : Bool) :
    mirroredSkip (accepted s src epoch mseq) overflow = mirroredSkip s overflow := by
  rw [mirroredSkip, lossC_accepted, mirroredSkip]

/-- SHIFT and CLEAN stand in their fields of HUB_LOSS_SCALE. -/
theorem bits_lossScale (clean shift : Nat) :
    bits (clean % 2 ^ 16 * 2 ^ 16 + shift % 256) 7 0 = shift % 256 ∧
      bits (clean % 2 ^ 16 * 2 ^ 16 + shift % 256) 31 16 = clean % 2 ^ 16 := by
  unfold bits
  omega

section Member

variable (s : State) (src epoch mseq sh c1 : Nat) (overflow : Bool)

theorem takeLoss_accepted_eq : takeLoss (accepted s src epoch mseq) sh c1 overflow =
    setLoss (accepted s src epoch mseq) sh (mirroredClean s overflow) c1 (mirroredSkip s overflow) := by
  rw [takeLoss_eq, mirroredClean_accepted, mirroredSkip_accepted]

theorem takeLoss_accepted_quiet : Quiet s (takeLoss (accepted s src epoch mseq) sh c1 overflow) := by
  rw [takeLoss_accepted_eq]
  exact (accepted_quiet ..).trans (setLoss_quiet ..)

theorem takeLoss_accepted_otherRegs : OtherRegs s (takeLoss (accepted s src epoch mseq) sh c1 overflow)
    [(0, packPage + 0x104), (0, hubPage + 0x130), (0, hubPage + 0x140)] := by
  rw [takeLoss_accepted_eq]
  exact OtherRegs.trans (.mono (accepted_otherRegs s src epoch mseq) (List.cons_subset_cons _ (List.nil_subset _)))
    (.mono (setLoss_otherRegs _ _ _ _ _) (List.subset_cons_self _ _))

theorem fld_takeLoss_accepted :
    (takeLoss (accepted s src epoch mseq) sh c1 overflow).fld 0 (hubPage + 0x130) 7 0 = sh % 256 ∧
      (takeLoss (accepted s src epoch mseq) sh c1 overflow).fld 0 (hubPage + 0x130) 31 16 =
        mirroredClean s overflow % 2 ^ 16 := by
  rw [takeLoss_accepted_eq, State.fld, State.fld, reg_setLoss]
  exact bits_lossScale ..

theorem takeLoss_accepted_counted : Counted s (takeLoss (accepted s src epoch mseq) sh c1 overflow) 0 (hubPage + 0x140)
    (flag (mirroredSkip s overflow)) := by
  rw [takeLoss_accepted_eq, Counted, ← (accepted_otherRegs s src epoch mseq).reg_of_off_ne (by decide) (by decide) 0]
  exact setLoss_counted ..

theorem lossC_takeLoss_accepted :
    (takeLoss (accepted s src epoch mseq) sh c1 overflow).pack.lossC = some (c1 % 2 ^ 32) := by
  rw [takeLoss_accepted_eq, pack_setLoss]

end Member

/-- LOSS_SCALE_DECISION as R93 and R94 have it. -/
theorem lossScale : Sys2Proof.Claims.LossScale := by
  refine ⟨fun s src epoch mseq sh c1 ovf hsrc hr ho =>
      ⟨fun hc => ?first, fun c0 hc ht => ?decides, fun hc ht hf => ?undefined⟩,
    fun s src epoch mseq sh c1 ovf hsrc hf hn => ?member, fun s => ⟨lossStep_of_overflow s, lossStep_of_enough_clean⟩⟩
  case first =>
    refine answers_decideLoss hsrc hr ho ?_
    rw [decideLoss_of_first hc]
    generalize hu : ({ s with pack := { s.pack with lossC := some (lossCounter s), lossTouched := false } } : State) = u
    have quiet : Quiet s u := hu ▸ (Quiet.refl s).setPack _
    have sends := sends_sendEvery u .lossScale [s.fld 0 (hubPage + 0x130) 7 0, lossCounter s, 0]
    have all := quiet.trans sends.quiet
    refine ⟨by rw [sends.lossC_eq, ← hu]; rfl, by rw [sends.regs_eq, ← hu], fun m hm => sent_sendEvery ?_ _ _, all.calm,
      all.rings, all.objs⟩
    rw [← hu]
    exact hm
  case decides =>
    refine answers_decideLoss hsrc hr ho ?_
    rw [decideLoss_of_untouched hc ht]
    exact ⟨(reg_tellLoss ..).trans (reg_setLoss ..), lossC_tellLoss .., lossTouched_tellLoss ..,
      (reg_tellLoss ..).trans (setLoss_counted ..), fun m hm => sent_tellLoss _ _ _ _ _ _ hm, (tellLoss_quiet ..).calm,
      (tellLoss_quiet ..).rings, (tellLoss_quiet ..).objs⟩
  case undefined =>
    refine answers_decideLoss hsrc hr ho ?_
    rw [decideLoss_of_touched hc ht hf]
    have others := tellLoss_otherRegs_of_not_skipped s.fresh (Config.freeNat s.freeCtr 1) (Config.freeNat s.freeCtr 2)
      (lossCounter s) [Config.freeNat s.freeCtr 1 % 256, lossCounter s, Config.freeNat s.freeCtr 3 % 2]
    obtain ⟨calm, rings, objs⟩ := tellLoss_quiet s.fresh (Config.freeNat s.freeCtr 1) (Config.freeNat s.freeCtr 2)
      (lossCounter s) false [Config.freeNat s.freeCtr 1 % 256, lossCounter s, Config.freeNat s.freeCtr 3 % 2]
    exact ⟨others.reg_of_off_ne (by decide) (by decide) 0, lossC_tellLoss .., lossTouched_tellLoss .., others, calm, rings,
      objs⟩
  case member =>
    refine answers_takeLoss hsrc hf hn ?_
    have quiet := takeLoss_accepted_quiet s src epoch mseq sh c1 ovf
    have others := takeLoss_accepted_otherRegs s src epoch mseq sh c1 ovf
    have counted := takeLoss_accepted_counted s src epoch mseq sh c1 ovf
    obtain ⟨shift, clean⟩ := fld_takeLoss_accepted s src epoch mseq sh c1 ovf
    refine ⟨shift, lossC_takeLoss_accepted .., fun hc => ⟨?_, ?_⟩, fun hc => ⟨?_, ?_⟩, others, quiet.calm, quiet.rings,
      quiet.objs⟩
    · rw [clean, mirroredClean, if_pos hc, State.fld, bits]
      omega
    · rw [mirroredSkip, hc] at counted
      exact counted.trans (Nat.mod_eq_of_lt (State.reg_lt ..))
    · rw [clean, mirroredClean, if_neg (Option.isSome_iff_ne_none.mp hc)]
    · rw [mirroredSkip, hc] at counted
      exact counted

/-- Settles O40: routes and acknowledgements by `routesAndAcks`, the loss scale by `lossScale`. -/
theorem routesAcksAndLossScale : Obligations.RoutesAcksAndLossScale := ⟨routesAndAcks, lossScale⟩

end Sys2Proof.Machine
end

section
/-! Errors of a page (R317, R360, R376, R377): the bit that an error sets, and the registers in which its event may count. -/

namespace Sys2Proof.Machine

open Sys2Proof

/-! ## The event of an error -/

/-- Registers in which an error event may be noted: the overrun of its crossing, and a message that is dropped (R214, R317). -/
def eventRegs : List (Nat × Nat) := [(0, hubPage + 0x180), (0, hubPage + 0x188), (0, pciPage + 0x160)]

theorem OtherRegs.count {s t : State} {ks : List (Nat × Nat)} {i a : Nat} (h : OtherRegs s t ks) (hk : (i, a) ∈ ks)
    (n : Nat) : OtherRegs s (t.count i a n) ks := h.setReg hk _

theorem sendVector_otherRegs (s : State) (f v : Nat) : OtherRegs s (sendVector s f v) eventRegs := by
  unfold sendVector
  split
  · exact .refl s _
  · split
    · exact (OtherRegs.refl s _).count (by simp [eventRegs]) 1
    · split <;> exact .refl s _

theorem errVector_otherRegs (s : State) (part : Nat) : OtherRegs s (errVector s part) eventRegs := by
  unfold errVector
  split
  · exact .refl s _
  · split
    · split
      · exact (OtherRegs.refl s _).count (by simp [eventRegs]) 1
      · exact sendVector_otherRegs s 0 0
    · exact sendVector_otherRegs s part 0

theorem errEvent_otherRegs (s : State) (part : Nat) : OtherRegs s (errEvent s part) eventRegs := by
  unfold errEvent crossing
  split
  · exact ((OtherRegs.refl s _).setReg (by simp [eventRegs]) _).count (by simp [eventRegs]) 1
  · exact errVector_otherRegs (crossEnter s 1) part

/-! ## ERR_STAT -/

/-- ERR_STAT and ERR_FIRST of a page as an error leaves them, before its record and its event. -/
def errNoted (s : State) (page b : Nat) (who : Who) : State :=
  (if s.reg 0 (page + 0x18) = 0 then s.setReg 0 (page + 0x20) (who.layer * 2 ^ 16 + who.oper) else s).setReg 0 (page + 0x18)
    (s.reg 0 (page + 0x18) ||| 2 ^ b)

theorem raiseErr_eq (s : State) (page b : Nat) (who : Who) (part : Nat) : raiseErr s page b who part =
    if bit (s.reg 0 (page + 0x18)) b then errNoted s page b who
    else
      let t := trace (errNoted s page b who) (blockId page) 4 0 (s.reg 0 (page + 0x18) ||| 2 ^ b) who
      if bit (s.reg 0 (page + 0x1C)) b then t else errEvent t part := rfl

theorem errNoted_otherRegs (s : State) (page b : Nat) (who : Who) :
    OtherRegs s (errNoted s page b who) [(0, page + 0x18), (0, page + 0x20)] := by
  refine OtherRegs.setReg ?_ (by simp) _
  split
  · exact (OtherRegs.refl s _).setReg (by simp) _
  · exact .refl s _

/-- Beside what it notes in its page, an error changes only the registers in which its event may count. -/
theorem raiseErr_otherRegs (s : State) (page b : Nat) (who : Who) (part : Nat) :
    OtherRegs (errNoted s page b who) (raiseErr s page b who part) eventRegs := by
  rw [raiseErr_eq]
  obtain ⟨fl, eq⟩ := trace_shape (errNoted s page b who) (blockId page) 4 0 (s.reg 0 (page + 0x18) ||| 2 ^ b) who
  simp only [eq]
  split
  · exact .refl _ _
  · split
    · exact .refl _ _
    · exact errEvent_otherRegs { errNoted s page b who with monitor := _ } part

theorem Quiet.raiseErr {s t : State} (h : Quiet s t) (page b : Nat) (who : Who) (part : Nat) :
    Quiet s (raiseErr t page b who part) := by
  obtain ⟨rg, pc, mo, ou, eq⟩ := raiseErr_shape t page b who part
  rw [eq]
  exact ⟨h.calm, h.rings, h.objs⟩

section Page

variable {page : Nat} (hp : offOf page = 0) (hlt : page < 2 ^ 31)
include hp hlt

/-- A register of the page at an offset where no error and no event is noted stands at an error of the page. -/
theorem reg_raiseErr_of_off_ne (s : State) {off : Nat} (ho : off < 4096) (hne : off ∉ [0x18, 0x20, 0x160, 0x180, 0x188])
    (b : Nat) (who : Who) (part i : Nat) : (raiseErr s page b who part).reg i (page + off) = s.reg i (page + off) := by
  simp only [List.mem_cons, List.not_mem_nil, or_false, not_or] at hne
  simp only [offOf] at hp
  rw [(raiseErr_otherRegs s page b who part).reg_of_off_ne (by omega)
      (by simp [eventRegs, hubPage, pciPage, pageAddr]; omega),
    (errNoted_otherRegs s page b who).reg_of_off_ne (by omega) (by simp; omega)]

/-- An error sets its own bit of the page's ERR_STAT, and clears none. -/
theorem errSet_raiseErr {b : Nat} (hb : b < 64) (s : State) (who : Who) (part c : Nat) :
    ErrSet (raiseErr s page b who part) page c ↔ ErrSet s page c ∨ c = b := by
  simp only [offOf] at hp
  have lt : s.reg 0 (page + 0x18) ||| 2 ^ b < 2 ^ 64 :=
    Nat.or_lt_two_pow (State.reg_lt ..) (Nat.pow_lt_pow_right (by decide) hb)
  have stat : (raiseErr s page b who part).reg 0 (page + 0x18) = s.reg 0 (page + 0x18) ||| 2 ^ b := by
    rw [(raiseErr_otherRegs s page b who part).reg_of_off_ne (by omega)
      (by simp [eventRegs, hubPage, pciPage, pageAddr]; omega), errNoted, State.reg_setReg, Nat.mod_eq_of_lt lt]
  simp only [ErrSet, stat, bit, Nat.testBit_or, Nat.testBit_two_pow, Bool.or_eq_true, decide_eq_true_eq, eq_comm (a := c)]

end Page

/-! ## ERR_INJECT -/

/-- One step of an injection: an error where its bit is set. -/
def injectBit (page v : Nat) (t : State) (b : Nat) : State := if bit v b then raiseErr t page b Who.none (pagePart page) else t

theorem injectErrors_eq (s : State) (page v : Nat) : injectErrors s page v = (span 0 32).foldl (injectBit page v) s := rfl

theorem injectBits_quiet (page v : Nat) (bs : List Nat) (s : State) : Quiet s (bs.foldl (injectBit page v) s) := by
  induction bs generalizing s with
  | nil => exact .refl s
  | cons b bs ih =>
    have step : Quiet s (injectBit page v s b) := by
      unfold injectBit
      split
      · exact (Quiet.refl s).raiseErr _ _ _ _
      · exact .refl s
    exact step.trans (ih _)

theorem errSet_injectBits {page : Nat} (hp : offOf page = 0) (hlt : page < 2 ^ 31) (v : Nat) {bs : List Nat}
    (hbs : ∀ b ∈ bs, b < 64) (s : State) (c : Nat) :
    ErrSet (bs.foldl (injectBit page v) s) page c ↔ ErrSet s page c ∨ (c ∈ bs ∧ bit v c = true) := by
  induction bs generalizing s with
  | nil => simp
  | cons b bs ih =>
    have step : ErrSet (injectBit page v s b) page c ↔ ErrSet s page c ∨ (c = b ∧ bit v c = true) := by
      unfold injectBit
      split
      · next hv =>
        rw [errSet_raiseErr hp hlt (hbs b List.mem_cons_self)]
        refine or_congr_right ⟨fun e => ⟨e, e ▸ hv⟩, And.left⟩
      · next hv => exact ⟨Or.inl, fun h => h.resolve_right fun ⟨e, hc⟩ => hv (e ▸ hc)⟩
    rw [List.foldl_cons, ih (fun x hx => hbs x (List.mem_cons_of_mem _ hx)), step, List.mem_cons, or_and_right, or_assoc]

theorem injectErrors_quiet (s : State) (page v : Nat) : Quiet s (injectErrors s page v) := injectBits_quiet ..

/-- An injection sets each of its bits. -/
theorem errSet_injectErrors {page : Nat} (hp : offOf page = 0) (hlt : page < 2 ^ 31) (s : State) {v b : Nat} (hb : b < 32)
    (hv : bit v b = true) : ErrSet (injectErrors s page v) page b := by
  rw [injectErrors_eq, errSet_injectBits hp hlt v (fun x hx => by have := mem_span.mp hx; omega)]
  exact .inr ⟨mem_span.mpr ⟨Nat.zero_le b, by omega⟩, hv⟩

/-- An injection clears no bit. -/
theorem ErrSet.injectErrors {s : State} {page c : Nat} (h : ErrSet s page c) (hp : offOf page = 0) (hlt : page < 2 ^ 31)
    (v : Nat) : ErrSet (injectErrors s page v) page c := by
  rw [injectErrors_eq, errSet_injectBits hp hlt v (fun x hx => by have := mem_span.mp hx; omega)]
  exact .inl h

end Sys2Proof.Machine
end

section
/-! The head of a page, as a requester writes it (R374, R376, R377, R380, R382), and writes before the device is READY
(R333). -/

namespace Sys2Proof.Machine

open Sys2Proof

/-! ## Bits cleared -/

theorem and_mod_two (x y : Nat) : (x &&& y) % 2 = min (x % 2) (y % 2) := by
  have h := Nat.testBit_and x y 0
  simp only [Nat.testBit_zero, ← Bool.decide_and, decide_eq_decide] at h
  omega

/-- Taking away the bits that two numbers share clears them. -/
theorem testBit_sub_and (x y i : Nat) : (x - (x &&& y)).testBit i = (x.testBit i && !y.testBit i) := by
  have le := Nat.and_le_left (n := x) (m := y)
  have mod := and_mod_two x y
  induction i generalizing x y with
  | zero =>
    simp only [Nat.testBit_zero, ← decide_not, ← Bool.decide_and, decide_eq_decide]
    omega
  | succ i ih =>
    have half : (x - (x &&& y)) / 2 = x / 2 - (x / 2 &&& y / 2) := by
      rw [← Nat.and_div_two]
      omega
    rw [Nat.testBit_succ, Nat.testBit_succ, Nat.testBit_succ, half, ih _ _ Nat.and_le_left (and_mod_two _ _)]

/-! ## The registers of the head -/

/-- A page of BAR0 that a block, or a VF, has. -/
structure BlockPage (page : Nat) : Prop where
  base : offOf page = 0
  bound : page < 2 ^ 31
  regs : (pageRegs (regionOf page) (instOf page)).isSome = true

theorem findReg_mem {l : List RegSpec} {off : Nat} {r : RegSpec} (h : findReg l off = some r) : r ∈ l := by
  induction l with
  | nil => cases h
  | cons x l ih =>
    rw [findReg] at h
    split at h
    · exact Option.some.inj h ▸ List.mem_cons_self
    · exact List.mem_cons_of_mem _ (ih h)

section Head

variable {page off : Nat} (h : BlockPage page) (ho : off < 0x40)
include h ho

theorem specAt_head : specAt (page + off) = findReg headRegs off := by
  obtain ⟨regs, eq⟩ := Option.isSome_iff_exists.mp h.regs
  rw [specAt, regionOf_add h.base (by omega), instOf_add h.base (by omega), offOf_add h.base (by omega), eq]
  simp only [if_pos ho]

/-- No register of the head is 64 bits wide. -/
theorem not_inWide_head : inWide (page + off) = false := by
  have hp : page % 4096 = 0 := h.base
  rw [inWide, show (page + off) / 8 * 8 = page + off / 8 * 8 by omega, specAt_head h (by omega)]
  cases hr : findReg headRegs (off / 8 * 8) with
  | none => rfl
  | some r => exact (by decide : ∀ r ∈ headRegs, r.wide = false) r (findReg_mem hr)

theorem not_isSelector_head : isSelector (page + off) = false := by
  have hne : ∀ n ≥ 0x40, (off == n) = false := fun n hn => beq_false_of_ne (by omega)
  unfold isSelector
  simp only [offOf_add h.base (show off < 4096 by omega)]
  split <;> simp [hne]

/-- No selector indexes the head. -/
theorem selectorOf_head : selectorOf (page + off) = none := by
  unfold selectorOf
  simp only [offOf_add h.base (show off < 4096 by omega)]
  split <;> grind

/-- ERR_INJECT alone is guarded in the head, in the bits that ERR_STAT defines (R377). -/
theorem guardMask_head : guardMask (page + off) = if off = 0x24 then errBits page else 0 := by
  have ho' : offOf (page + off) = off := offOf_add h.base (by omega)
  unfold guardMask
  split <;> grind

/-- A write to the head passes the guard and goes to the register. -/
theorem writeReg_head {r : RegSpec} (hr : findReg headRegs off = some r) (s : State) (rq v : Nat) :
    writeReg s rq (page + off) v =
      writeHead (passGuard s rq (page + off) v).1 rq (page + off) (passGuard s rq (page + off) v).2 := by
  simp only [writeReg, specAt_head h ho, hr, not_isSelector_head h ho, indexInside, selectorOf_head h ho,
    offOf_add h.base (show off < 4096 by omega), if_pos ho]
  simp

end Head

/-! ## KEY (R380) -/

theorem passGuard_quiet (s : State) (rq a v : Nat) : Quiet s (passGuard s rq a v).1 := by
  unfold passGuard
  simp only
  split
  · exact .refl s
  · split
    · exact ⟨(Quiet.refl s).calm, (Quiet.refl s).rings, (Quiet.refl s).objs⟩
    · exact (Quiet.refl s).raiseErr _ _ _ _

theorem passGuard_of_unguarded {a : Nat} (ha : guardMask a = 0) (s : State) (rq v : Nat) : passGuard s rq a v = (s, v) := by
  simp [passGuard, ha]

/-- A requester whose KEY is armed writes guarded bits like any other. -/
theorem passGuard_snd_of_armed {s : State} {rq a : Nat} (ha : keyArmed s rq a = true) (v : Nat) :
    (passGuard s rq a v).2 = v := by
  unfold passGuard
  simp only [ha, if_true]
  split <;> rfl

theorem passGuard_fst_of_unarmed {s : State} {rq a v : Nat} (ha : keyArmed s rq a = false) (hv : v &&& guardMask a ≠ 0) :
    (passGuard s rq a v).1 = errKey s (a - offOf a) := by
  simp [passGuard, ha, hv]

/-! ## Each register of the head -/

section HeadWrites

variable {page : Nat} (h : BlockPage page) (s : State) (rq v : Nat)
include h

theorem writeReg_unguarded {r : RegSpec} {off : Nat} (ho : off < 0x40) (hr : findReg headRegs off = some r)
    (hne : off ≠ 0x24) : writeReg s rq (page + off) v = writeHead s rq (page + off) v := by
  rw [writeReg_head h ho hr, passGuard_of_unguarded (by rw [guardMask_head h ho, if_neg hne])]

theorem writeReg_errStat : writeReg s rq (page + 0x18) v =
    s.setReg 0 (page + 0x18) (s.reg 0 (page + 0x18) - (s.reg 0 (page + 0x18) &&& v)) := by
  rw [writeReg_unguarded h s rq v (by decide) rfl (by decide)]
  simp only [writeHead, offOf_add h.base (show 0x18 < 4096 by decide)]

theorem writeReg_errMask : writeReg s rq (page + 0x1C) v = s.setReg 0 (page + 0x1C) (v &&& errBits page) := by
  rw [writeReg_unguarded h s rq v (by decide) rfl (by decide)]
  simp only [writeHead, offOf_add h.base (show 0x1C < 4096 by decide), Nat.add_sub_cancel]

theorem writeReg_key : writeReg s rq (page + 0x28) v = s.setSel rq (page + 0x28) (v % 256) := by
  rw [writeReg_unguarded h s rq v (by decide) rfl (by decide)]
  simp only [writeHead, offOf_add h.base (show 0x28 < 4096 by decide)]

theorem writeReg_errInject : writeReg s rq (page + 0x24) v =
    injectErrors (passGuard s rq (page + 0x24) v).1 page ((passGuard s rq (page + 0x24) v).2 &&& errBits page) := by
  rw [writeReg_head h (by decide) rfl]
  simp only [writeHead, offOf_add h.base (show 0x24 < 4096 by decide), Nat.add_sub_cancel]

theorem writeReg_errInject_quiet : Quiet s (writeReg s rq (page + 0x24) v) := by
  rw [writeReg_errInject h]
  exact (passGuard_quiet ..).trans (injectErrors_quiet ..)

end HeadWrites

/-! ## Writes on their way to a page (R309, R333) -/

theorem mayWrite_spec {s : State} {rq page : Nat} (h : mayWrite s rq page = true) :
    devReady s = true ∧ reaches s rq page = true := by
  simpa only [mayWrite, Bool.and_eq_true] using h

theorem reaches_spec {s : State} {rq page : Nat} (h : reaches s rq page = true) :
    s.start.asserted = false ∧ rq < rqCount ∧ diesMeet s (requesterDie rq) (pageDie page) = true := by
  simp only [reaches, Bool.and_eq_true, Bool.not_eq_true', decide_eq_true_eq] at h
  obtain ⟨⟨⟨⟨hass, hrq⟩, -⟩, hmeet⟩, -⟩ := h
  exact ⟨hass, hrq, hmeet⟩

/-- An aligned word that reaches a page is written there. -/
theorem pageWrite_word {s : State} {rq page off : Nat} (h : BlockPage page) (hw : mayWrite s rq page = true)
    (ho : off < 4096) (ha : off % 4 = 0) (v : Nat) :
    pageWrite s rq (page + off) 4 v = write32 (regTraffic s rq (page + off) 4) rq (page + off) v := by
  obtain ⟨hready, hreach⟩ := mayWrite_spec hw
  obtain ⟨hass, -, hmeet⟩ := reaches_spec hreach
  have hword : (page + off) % 4 = 0 := by
    have hp : page % 4096 = 0 := h.base
    omega
  have hans : pageAnswers s (page + off) = true := by
    simp [pageAnswers, regionOf_add h.base ho, instOf_add h.base ho, h.regs, hready, hass]
  simp [pageWrite, hans, pageDie_add h.base ho, hmeet, hword]

section OwnPage

variable {s : State} {rq page : Nat} (hw : mayWrite s rq (keyPage rq page) = true) (hvf : isVf rq = true → page = 0)
  (hpf : isVf rq = false → page < 2 ^ 26 ∧ page % 4096 = 0 ∧ (pageRegs (regionOf page) (instOf page)).isSome = true)

include hpf in
theorem blockPage_keyPage : BlockPage (keyPage rq page) := by
  unfold keyPage
  split
  · next hv =>
    have hrq : 1 ≤ rq ∧ rq < 16 := of_decide_eq_true hv
    have hregion : regionOf (vfPage rq) = 0x40 :=
      regionOf_page (region := 0x40) (inst := rq) (off := 0) (by omega) (by decide)
    have hinst : instOf (vfPage rq) = rq := instOf_page (region := 0x40) (inst := rq) (off := 0) (by omega) (by decide)
    have hoff : offOf (vfPage rq) = 0 := offOf_page (region := 0x40) (inst := rq) (off := 0) (by decide)
    refine ⟨hoff, ?_, by simp [hregion, hinst, pageRegs, hrq]⟩
    simp only [vfPage, pageAddr]
    omega
  · next hv =>
    obtain ⟨hlt, hp, hregs⟩ := hpf (by simpa using hv)
    exact ⟨hp, by omega, hregs⟩

include hvf hpf in
/-- A requester's BAR0 holds its own function page, or the pages of PF0 (R309). -/
theorem barWrite_keyPage {off : Nat} (ho : off < 4096) (size v : Nat) :
    barWrite s rq (page + off) size v = pageWrite s rq (keyPage rq page + off) size v := by
  unfold barWrite keyPage
  by_cases hv : isVf rq = true
  · have hrq : 1 ≤ rq ∧ rq < 16 := of_decide_eq_true hv
    rw [if_pos hrq, if_pos hv, hvf hv, Nat.zero_add, if_pos ho]
  · obtain ⟨hlt, hp, hregs⟩ := hpf (by simpa using hv)
    have hrq : ¬ (1 ≤ rq ∧ rq < 16) := by simpa [isVf] using hv
    have hmsix : ¬ (pageAddr 7 16 ≤ page + off ∧ page + off < pageAddr 7 24) := fun hm => by
      simp only [pageAddr] at hm
      have hregion : regionOf page = 7 := by unfold regionOf; omega
      have hinst : instOf page ≠ 0 := by unfold instOf; omega
      simp [hregion, pageRegs, hinst] at hregs
    rw [if_neg hrq, if_neg hv, if_neg (by omega), if_neg hmsix]

include hw hvf hpf

/-- A write of a word of the head goes to the register after it has crossed the bridges. -/
theorem regWrite_head {off : Nat} (ho : off < 0x40) (ha : off % 4 = 0) (v : Nat) : regWrite s rq (page + off) 4 v =
    writeReg (regTraffic s rq (keyPage rq page + off) 4) rq (keyPage rq page + off) (v % 2 ^ 32) := by
  have hb := blockPage_keyPage hpf
  obtain ⟨-, hreach⟩ := mayWrite_spec hw
  rw [regWrite_of_reaches hreach, barWrite_keyPage hvf hpf (by omega), pageWrite_word hb hw (by omega) ha, write32,
    not_inWide_head hb ho, if_neg Bool.false_ne_true]

end OwnPage

theorem earlyWrite_spec {s : State} {rq page : Nat} (h : earlyWrite s rq page = true) :
    reaches s rq page = true ∧ isVf rq = false := by
  simpa only [earlyWrite, Bool.and_eq_true, Bool.not_eq_true'] using h

/-- Before start has ended, a write that meets neither the reset page nor the monitor page has no effect (R333). -/
theorem regWrite_of_early {s : State} {rq page off : Nat} (hw : earlyWrite s rq page = true) (hs : s.start.state = 0)
    (hstep : s.start.step ≤ 8) (hp : page % 4096 = 0) (ho : off < 4096) (hrst : regionOf page ≠ 1)
    (hmon : regionOf page ≠ 3) (size v : Nat) : regWrite s rq (page + off) size v = s := by
  obtain ⟨hreach, hvf⟩ := earlyWrite_spec hw
  have hrq : ¬ (1 ≤ rq ∧ rq < 16) := by simpa [isVf] using hvf
  have hready : devReady s = false := by
    have := Nat.not_lt.mpr hstep
    simp [devReady, hs, this]
  have hans : pageAnswers s (page + off) = false := by
    simp [pageAnswers, hready, hs, regionOf_add hp ho, hrst, hmon]
  rw [regWrite_of_reaches hreach, barWrite, if_neg hrq]
  split
  · rfl
  · split
    · simp [writeMsix, hready]
    · simp [pageWrite, hans]

end Sys2Proof.Machine
end

section
/-! WRT_VALID_WRITE and WRT_UNBIND (R100, R103), ERR_INJECT and REGISTER_WRITE (R333, R376 to R382). -/

namespace Sys2Proof.Machine

open Sys2Proof

/-! ## The weight-region table (R100, R103) -/

section Wrt

variable {s : State} {rq n e v : Nat}

theorem writeWrtCtrl_of_refused (hv : bit v 31 = true) (hold : bit (wrtCtrl s n e) 31 = false)
    (hr : wrtRefuses s n e = true) : writeWrtCtrl s n e v = errState s (loomPage n) := by
  simp [writeWrtCtrl, hv, hold, hr]

/-- A write that clears VALID, or that unbinds, leaves nothing of the old binding. -/
theorem writeWrtCtrl_of_unbound (h : bit v 31 = true → bit (wrtCtrl s n e) 31 = true ∨ wrtRefuses s n e = false)
    (hu : bit v 31 = true → bit v 29 = true) :
    writeWrtCtrl s n e v = s.setReg e (loomPage n + 0x174) (bits v 31 30 * 2 ^ 30) := by
  have hok : ¬ (bit v 31 = true ∧ ¬ bit (wrtCtrl s n e) 31 = true ∧ wrtRefuses s n e = true) := by grind
  have hclears : bit v 29 = true ∨ ¬ bit v 31 = true := by
    by_cases hv : bit v 31 = true
    · exact .inl (hu hv)
    · exact .inr hv
  rw [writeWrtCtrl, if_neg hok, if_pos hclears, Nat.add_zero (_ * _)]

theorem writeWrtCtrl_of_kept (h : bit (wrtCtrl s n e) 31 = true ∨ wrtRefuses s n e = false) (hv : bit v 31 = true)
    (hu : bit v 29 = false) : writeWrtCtrl s n e v = s.setReg e (loomPage n + 0x174)
      (bits v 31 30 * 2 ^ 30 + bits (wrtCtrl s n e) 28 28 * 2 ^ 28 + bits (wrtCtrl s n e) 15 0) := by
  have hok : ¬ (bit v 31 = true ∧ ¬ bit (wrtCtrl s n e) 31 = true ∧ wrtRefuses s n e = true) := by grind
  rw [writeWrtCtrl, if_neg hok, if_neg (by simp [hv, hu]), Nat.add_assoc]

end Wrt

/-- An access to a page that is not a stack's only waits at the bridges. -/
theorem regTraffic_shape_of_region_ne {a : Nat} (ha : regionOf a ≠ 12) (s : State) (rq size : Nat) :
    ∃ ar, regTraffic s rq a size = { s with arbs := ar } := by
  rw [regTraffic, if_neg fun h => ha h.1]
  exact crossDies_shape ..

theorem offOf_loomPage (n : Nat) : offOf (loomPage n) = 0 := offOf_page (region := 8) (inst := n) (off := 0) (by decide)

section LoomPage

variable {n : Nat} (hn : n < 8)
include hn

theorem regionOf_loomPage : regionOf (loomPage n) = 8 :=
  regionOf_page (region := 8) (inst := n) (off := 0) (by omega) (by decide)

theorem instOf_loomPage : instOf (loomPage n) = n := instOf_page (region := 8) (inst := n) (off := 0) (by omega) (by decide)

theorem specAt_loomReg {off : Nat} (hlo : 0x40 ≤ off) (hhi : off < 4096) :
    specAt (loomPage n + off) = findReg loomRegs off := by
  rw [specAt, regionOf_add (offOf_loomPage n) hhi, instOf_add (offOf_loomPage n) hhi, offOf_add (offOf_loomPage n) hhi,
    regionOf_loomPage hn, instOf_loomPage hn]
  simp only [pageRegs, if_pos hn, if_neg (Nat.not_lt.mpr hlo)]

theorem not_inWide_wrtCtrl : inWide (loomPage n + 0x174) = false := by
  have hp : loomPage n % 4096 = 0 := offOf_loomPage n
  rw [inWide, show (loomPage n + 0x174) / 8 * 8 = loomPage n + 0x170 by omega, specAt_loomReg hn (by decide) (by decide)]
  rfl

/-- LOOM_WRT_CTRL is written at the entry that the requester has selected. -/
theorem writeReg_wrtCtrl (s : State) (rq v : Nat) (he : s.sel rq (loomPage n + 0x170) < 64) :
    writeReg s rq (loomPage n + 0x174) v = writeWrtCtrl s n (s.sel rq (loomPage n + 0x170)) v := by
  have hp := offOf_loomPage n
  have hregion : regionOf (loomPage n + 0x174) = 8 := (regionOf_add hp (by decide)).trans (regionOf_loomPage hn)
  have hinst : instOf (loomPage n + 0x174) = n := (instOf_add hp (by decide)).trans (instOf_loomPage hn)
  have hoff : offOf (loomPage n + 0x174) = 0x174 := offOf_add hp (by decide)
  have hsel : selectorOf (loomPage n + 0x174) = some (loomPage n + 0x170) := by simp [selectorOf, hregion, hoff]
  have hwin : windowSize (loomPage n + 0x170) = 64 := by
    simp only [windowSize, regionOf_add hp (show 0x170 < 4096 by decide), regionOf_loomPage hn]
  have hin : indexInside s rq (loomPage n + 0x174) = true := by simpa [indexInside, hsel, hwin] using he
  have hguard : guardMask (loomPage n + 0x174) = 0 := by simp [guardMask, hregion, hoff]
  have hplain : isSelector (loomPage n + 0x174) = false := by simp [isSelector, hregion, hoff]
  obtain ⟨r, hr⟩ : ∃ r, findReg loomRegs 0x174 = some r := ⟨_, rfl⟩
  simp [writeReg, specAt_loomReg hn, hr, hplain, hin, passGuard_of_unguarded hguard, hoff, hregion, hinst, indexOf, hsel,
    writeBlock, writeLoom]

end LoomPage

/-! ## Rows that write LOOM_WRT_CTRL -/

theorem bit_mod_word (v : Nat) {i : Nat} (hi : i < 32) : bit (v % 2 ^ 32) i = bit v i := by
  rw [bit, Nat.testBit_mod_two_pow, decide_eq_true hi, Bool.true_and, bit]

theorem bits_31_30_lt (v : Nat) : bits v 31 30 < 4 := Nat.mod_lt _ (by decide)

theorem bits_31_30_of_not_bit {v : Nat} (h : bit v 31 = false) : bits v 31 30 = bits v 30 30 := by
  rw [bit, Nat.testBit_eq_decide_div_mod_eq, decide_eq_false_iff_not] at h
  simp only [bits]
  omega

theorem bit_29_or_unbind (v : Nat) : bit (v ||| 2 ^ 29) 29 = true := by
  rw [bit, Nat.testBit_or, Nat.testBit_two_pow_self, Bool.or_true]

theorem bits_31_30_or_unbind (v : Nat) : bits (v ||| 2 ^ 29) 31 30 = bits v 31 30 := by
  simp only [bits, ← Nat.shiftRight_eq_div_pow, Nat.shiftRight_or_distrib]
  simp

theorem writeWrtCtrl_mod (s : State) (n e v : Nat) : writeWrtCtrl s n e (v % 2 ^ 32) = writeWrtCtrl s n e v := by
  have hbits : bits (v % 2 ^ 32) 31 30 = bits v 31 30 := by
    simp only [bits]
    omega
  simp only [writeWrtCtrl, bit_mod_word v (show 31 < 32 by decide), bit_mod_word v (show 29 < 32 by decide), hbits]

section WrtRow

variable {s : State} {rq n e v : Nat}

/-- A row that writes LOOM_WRT_CTRL answers with the write of the selected entry, once the access has crossed the bridges. -/
theorem answers_wrtCtrl {i : Instr} {P : State → Prop} (hn : n < 8) (hw : pfMayWrite s rq (loomPage n) = true)
    (hs : e = s.sel rq (loomPage n + 0x170)) (he : e < 64)
    (row : exec i s = onUnit (decide (rq < rqCount ∧ n < 8)) (pfWrite s rq (loomPage n + 0x174) v))
    (h : ∀ ar, P (writeWrtCtrl { s with arbs := ar } n e v)) : Answers i s P := by
  have hp := offOf_loomPage n
  obtain ⟨hmay, hvf⟩ : mayWrite s rq (loomPage n) = true ∧ isVf rq = false := by
    simpa [pfMayWrite] using hw
  obtain ⟨-, hreach⟩ := mayWrite_spec hmay
  obtain ⟨-, hrq, -⟩ := reaches_spec hreach
  have hregion := regionOf_loomPage hn
  have hword := regWrite_word hw hp (by simp [hregion, instOf_loomPage hn, pageRegs, hn]) (by omega) (by omega)
    (show 0x174 < 4096 by decide) (by decide) v
  obtain ⟨ar, eq⟩ := regTraffic_shape_of_region_ne (a := loomPage n + 0x174)
    (by rw [regionOf_add hp (by decide), hregion]; decide) s rq 4
  have hwide := not_inWide_wrtCtrl hn
  refine answers_of_onUnit row (decide_eq_true ⟨hrq, hn⟩) ?_
  rw [pfWrite, hvf, hwide, if_neg Bool.false_ne_true, if_neg Bool.false_ne_true, hword, eq, write32, hwide,
    if_neg Bool.false_ne_true, writeReg_wrtCtrl hn _ _ _ (hs ▸ he), writeWrtCtrl_mod]
  exact hs ▸ h ar

theorem Quiet.setArbs (s : State) (ar : SMap Arb) : Quiet s { s with arbs := ar } :=
  ⟨(Quiet.refl s).calm, (Quiet.refl s).rings, (Quiet.refl s).objs⟩

/-- An entry that takes a control word. -/
theorem setWrtCtrl_spec (s : State) (ar : SMap Arb) (n e : Nat) {x : Nat} (hx : x < 2 ^ 64) :
    let t := State.setReg { s with arbs := ar } e (loomPage n + 0x174) x
    t.reg e (loomPage n + 0x174) = x ∧ OtherRegs s t [(e, loomPage n + 0x174)] ∧ SameRings s t ∧ Calm s t := by
  have quiet := Quiet.setArbs s ar
  have others : OtherRegs s ({ s with arbs := ar } : State) [(e, loomPage n + 0x174)] := .of_regs_eq rfl _
  exact ⟨(State.reg_setReg ..).trans (Nat.mod_eq_of_lt hx), others.setReg List.mem_cons_self _, (quiet.setReg _ _ _).rings,
    (quiet.setReg _ _ _).calm⟩

end WrtRow

/-! ## ERR_STAT, ERR_MASK and KEY -/

theorem errBits_lt (page : Nat) : errBits page < 2 ^ 32 := by
  unfold errBits
  split <;> split <;> omega

theorem mod_and_errBits (v page : Nat) : v % 2 ^ 32 &&& errBits page = v &&& errBits page := by
  have lt : v &&& errBits page < 2 ^ 32 := Nat.and_lt_two_pow _ (errBits_lt page)
  rw [← Nat.mod_eq_of_lt lt, Nat.and_mod_two_pow, Nat.mod_eq_of_lt (errBits_lt page)]

theorem State.sel_setSel_ne (s : State) {rq a q b : Nat} (v : Nat) (h : q * 2 ^ 32 + b ≠ rq * 2 ^ 32 + a) :
    (s.setSel rq a v).sel q b = s.sel q b := by
  simp only [State.sel, State.setSel, mget_mset_ne _ _ _ _ h]

theorem Quiet.setSel {s t : State} (h : Quiet s t) (rq a v : Nat) : Quiet s (t.setSel rq a v) := ⟨h.calm, h.rings, h.objs⟩

/-- The crossing of an access to a page counts, at most, the wake of that page's stack. -/
theorem regTraffic_otherRegs_page {page off : Nat} (hp : offOf page = 0) (ho : off < 4096) (s : State) (rq size : Nat) :
    OtherRegs s (regTraffic s rq (page + off) size) [(instOf page, hubPage + 0x190)] := by
  have h := regTraffic_otherRegs s rq (page + off) size
  rwa [instOf_add hp ho] at h

section HeadRow

variable {s : State} {rq page : Nat} (hw : mayWrite s rq (keyPage rq page) = true) (hvf : isVf rq = true → page = 0)
  (hpf : isVf rq = false → page < 2 ^ 26 ∧ page % 4096 = 0 ∧ (pageRegs (regionOf page) (instOf page)).isSome = true)
include hpf

/-- A row that writes ERR_INJECT keeps rings, objects and memory. -/
theorem crossed_errInject_quiet (v : Nat) : Quiet s
    (writeReg (regTraffic s rq (keyPage rq page + 0x24) 4) rq (keyPage rq page + 0x24) v) :=
  (regTraffic_quiet ..).trans (writeReg_errInject_quiet (blockPage_keyPage hpf) ..)

/-- A crossing leaves KEY. -/
theorem keyArmed_crossed :
    keyArmed (regTraffic s rq (keyPage rq page + 0x24) 4) rq (keyPage rq page + 0x24) = armed s rq page := by
  rw [keyArmed, offOf_add (blockPage_keyPage hpf).base (by decide), Nat.add_sub_cancel, sel_regTraffic, armed]

include hw hvf

/-- A row that writes a word of the head answers with the write of the register, once the access has crossed the bridges. -/
theorem answers_head {i : Instr} {P : State → Prop} {off v : Nat} {ok : Bool} (ho : off < 0x40) (ha : off % 4 = 0)
    (row : exec i s = onUnit ok (regWrite s rq (page + off) 4 v)) (hok : rq < rqCount → page % 4096 = 0 → ok = true)
    (h : P (writeReg (regTraffic s rq (keyPage rq page + off) 4) rq (keyPage rq page + off) (v % 2 ^ 32))) :
    Answers i s P := by
  obtain ⟨-, hreach⟩ := mayWrite_spec hw
  obtain ⟨-, hrq, -⟩ := reaches_spec hreach
  have hp : page % 4096 = 0 := by
    cases hv : isVf rq with
    | true => rw [hvf hv]
    | false =>
      obtain ⟨-, hp, -⟩ := hpf hv
      exact hp
  refine answers_of_onUnit row (hok hrq hp) ?_
  rwa [regWrite_head hw hvf hpf ho ha]

/-- An armed injection sets its defined bits (R377, R380). -/
theorem errInject_armed (v : Nat) (ha : armed s rq page = true) : Answers (.errInject rq page v) s fun t =>
    (∀ b, b < 32 → bit (v &&& errBits (keyPage rq page)) b = true → ErrSet t (keyPage rq page) b) ∧ SameRings s t ∧
      SameObjs s t ∧ Calm s t := by
  have hb := blockPage_keyPage hpf
  have quiet := crossed_errInject_quiet hpf (s := s) (v % 2 ^ 32)
  refine answers_head hw hvf hpf (by decide) (by decide) rfl (fun hrq hp => decide_eq_true ⟨hrq, hp⟩)
    ⟨fun b hlt hv => ?_, quiet.rings, quiet.objs, quiet.calm⟩
  rw [writeReg_errInject hb, passGuard_snd_of_armed ((keyArmed_crossed hpf).trans ha), mod_and_errBits]
  exact errSet_injectErrors hb.base hb.bound _ hlt hv

/-- An injection without KEY is refused with ERR_STAT.KEY (R380). -/
theorem errInject_unarmed (v : Nat) (ha : armed s rq page = false) (hv : v % 2 ^ 32 &&& errBits (keyPage rq page) ≠ 0) :
    Answers (.errInject rq page v) s fun t =>
      ErrSet t (keyPage rq page) 30 ∧ SameRings s t ∧ SameObjs s t ∧ Calm s t := by
  have hb := blockPage_keyPage hpf
  have quiet := crossed_errInject_quiet hpf (s := s) (v % 2 ^ 32)
  refine answers_head hw hvf hpf (by decide) (by decide) rfl (fun hrq hp => decide_eq_true ⟨hrq, hp⟩)
    ⟨?_, quiet.rings, quiet.objs, quiet.calm⟩
  rw [writeReg_errInject hb]
  refine ErrSet.injectErrors ?_ hb.base hb.bound _
  rw [passGuard_fst_of_unarmed ((keyArmed_crossed hpf).trans ha) (by rwa [guardMask_head hb (by decide), if_pos rfl]),
    offOf_add hb.base (by decide), Nat.add_sub_cancel]
  exact (errSet_raiseErr hb.base hb.bound (by decide) _ _ _ _).mpr (.inr rfl)

/-- KEY is the requester's own copy (R380, R382). -/
theorem registerWrite_key (v : Nat) : Answers (.registerWrite rq (page + 0x28) 4 v) s fun t =>
    t.sel rq (keyPage rq page + 0x28) = v % 256 ∧ OtherRegs s t [(instOf (keyPage rq page), hubPage + 0x190)] ∧
      (∀ q a, a < 2 ^ 32 → (q ≠ rq ∨ a ≠ keyPage rq page + 0x28) → t.sel q a = s.sel q a) ∧ SameRings s t ∧
      SameObjs s t ∧ Calm s t := by
  have hb := blockPage_keyPage hpf
  have bound := hb.bound
  refine answers_head hw hvf hpf (by decide) (by decide) rfl (fun hrq _ => decide_eq_true hrq) ?_
  rw [writeReg_key hb]
  have quiet := (regTraffic_quiet s rq (keyPage rq page + 0x28) 4).setSel rq (keyPage rq page + 0x28) (v % 2 ^ 32 % 256)
  refine ⟨?_, regTraffic_otherRegs_page hb.base (by decide) s rq 4, fun q a ha hne => ?_, quiet.rings, quiet.objs,
    quiet.calm⟩
  · rw [State.sel_setSel]
    omega
  · rw [State.sel_setSel_ne _ _ (by omega), sel_regTraffic]

/-- ERR_MASK takes its defined bits (R377). -/
theorem registerWrite_errMask (v : Nat) : Answers (.registerWrite rq (page + 0x1C) 4 v) s fun t =>
    t.reg 0 (keyPage rq page + 0x1C) = v &&& errBits (keyPage rq page) ∧
      OtherRegs s t [(0, keyPage rq page + 0x1C), (instOf (keyPage rq page), hubPage + 0x190)] ∧ SameRings s t ∧
      SameObjs s t ∧ Calm s t := by
  have hb := blockPage_keyPage hpf
  refine answers_head hw hvf hpf (by decide) (by decide) rfl (fun hrq _ => decide_eq_true hrq) ?_
  rw [writeReg_errMask hb, mod_and_errBits]
  have quiet := (regTraffic_quiet s rq (keyPage rq page + 0x1C) 4).setReg 0 (keyPage rq page + 0x1C)
    (v &&& errBits (keyPage rq page))
  have others := (regTraffic_otherRegs_page hb.base (show 0x1C < 4096 by decide) s rq 4).mono
    (List.subset_cons_self (0, keyPage rq page + 0x1C) _)
  have lt : v &&& errBits (keyPage rq page) < 2 ^ 32 := Nat.and_lt_two_pow _ (errBits_lt _)
  exact ⟨(State.reg_setReg ..).trans (Nat.mod_eq_of_lt (by omega)), others.setReg List.mem_cons_self _, quiet.rings,
    quiet.objs, quiet.calm⟩

/-- ERR_STAT clears the bits written with 1 (R376). -/
theorem registerWrite_errStat (v : Nat) : Answers (.registerWrite rq (page + 0x18) 4 v) s fun t =>
    (∀ b, b < 32 → bit (t.reg 0 (keyPage rq page + 0x18)) b = (bit (s.reg 0 (keyPage rq page + 0x18)) b && !bit v b)) ∧
      OtherRegs s t [(0, keyPage rq page + 0x18), (instOf (keyPage rq page), hubPage + 0x190)] ∧ SameRings s t ∧
      SameObjs s t ∧ Calm s t := by
  have hb := blockPage_keyPage hpf
  have base : keyPage rq page % 4096 = 0 := hb.base
  have bound := hb.bound
  refine answers_head hw hvf hpf (by decide) (by decide) rfl (fun hrq _ => decide_eq_true hrq) ?_
  have crossed := regTraffic_otherRegs_page hb.base (show 0x18 < 4096 by decide) s rq 4
  have stat : (regTraffic s rq (keyPage rq page + 0x18) 4).reg 0 (keyPage rq page + 0x18) = s.reg 0 (keyPage rq page + 0x18) :=
    crossed.reg_of_off_ne (by omega) (by simp [hubPage, pageAddr]; omega) 0
  rw [writeReg_errStat hb, stat]
  have quiet := (regTraffic_quiet s rq (keyPage rq page + 0x18) 4).setReg 0 (keyPage rq page + 0x18)
    (s.reg 0 (keyPage rq page + 0x18) - (s.reg 0 (keyPage rq page + 0x18) &&& v % 2 ^ 32))
  refine ⟨fun b hlt => ?_, (crossed.mono (List.subset_cons_self _ _)).setReg List.mem_cons_self _, quiet.rings, quiet.objs,
    quiet.calm⟩
  have lt := State.reg_lt s 0 (keyPage rq page + 0x18)
  rw [State.reg_setReg, Nat.mod_eq_of_lt (by omega), bit, testBit_sub_and]
  exact congrArg (fun x => _ && !x) (bit_mod_word v hlt)

end HeadRow

/-- Settles O58: LOOM_WRT_CTRL by the cases of `writeWrtCtrl`, the head of a page by one lemma for each of its registers, and
the writes before READY by `regWrite_of_early`. -/
theorem registerWrites : Obligations.RegisterWrites := by
  refine ⟨fun s rq n e v hn hw hs he => ?wrt, fun s rq page v hw hvf hpf => ?head,
    fun s rq page off v hw hstate hstep hp ho hrst hmon => ?early⟩
  case wrt =>
    have lt := bits_31_30_lt v
    refine ⟨fun hv => ?clears, fun hv hold hr => ?refused, fun hv hu hok => ?keeps, fun hv hok => ?unbinds⟩ <;>
      refine answers_wrtCtrl hn hw hs he rfl fun ar => ?_
    case clears =>
      rw [writeWrtCtrl_of_unbound (by simp [hv]) (by simp [hv]), ← bits_31_30_of_not_bit hv]
      exact setWrtCtrl_spec s ar n e (by omega)
    case refused =>
      rw [writeWrtCtrl_of_refused (s := { s with arbs := ar }) hv hold hr]
      have hp := offOf_loomPage n
      have bound : loomPage n < 2 ^ 31 := by
        simp only [loomPage, pageAddr]
        omega
      have quiet := (Quiet.setArbs s ar).raiseErr (loomPage n) 31 Who.none (pagePart (loomPage n))
      exact ⟨reg_raiseErr_of_off_ne hp bound _ (by decide) (by decide) _ _ _ _,
        (errSet_raiseErr hp bound (by decide) _ _ _ _).mpr (.inr rfl), quiet.rings, quiet.calm⟩
    case keeps =>
      rw [writeWrtCtrl_of_kept (s := { s with arbs := ar }) hok hv hu]
      refine setWrtCtrl_spec s ar n e ?_
      simp only [bits] at lt ⊢
      omega
    case unbinds =>
      rw [writeWrtCtrl_of_unbound (s := { s with arbs := ar }) (fun _ => hok) (fun _ => bit_29_or_unbind v),
        bits_31_30_or_unbind]
      exact setWrtCtrl_spec s ar n e (by omega)
  case head =>
    exact ⟨errInject_armed hw hvf hpf v, errInject_unarmed hw hvf hpf v, registerWrite_key hw hvf hpf v,
      registerWrite_errMask hw hvf hpf v, registerWrite_errStat hw hvf hpf v⟩
  case early =>
    obtain ⟨hreach, -⟩ := earlyWrite_spec hw
    obtain ⟨-, hrq, -⟩ := reaches_spec hreach
    exact answers_of_onUnit rfl (decide_eq_true hrq) (regWrite_of_early hw hstate hstep hp ho hrst hmon 4 v)

end Sys2Proof.Machine
end
